-- ==== Sys2Proof/Word.lean ====
section
/-! DEFINITION. The plain words of the model: bytes and the little-endian words that packets, records and telegrams are packed from (R8, R9). -/

namespace Sys2Proof

/-- One byte of a packet, record or telegram (R9). -/
abbrev Byte := BitVec 8

/-- A 16-bit field. -/
abbrev Word16 := BitVec 16

/-- A 32-bit field. -/
abbrev Word32 := BitVec 32

/-- A 64-bit field: Chronometer times and serial numbers (R5). -/
abbrev Word64 := BitVec 64

end Sys2Proof
end

