-- ==== Sys2Proof/Machine/Bits.lean ====
section
/-! DEFINITION. The bit, byte, number and table helpers that every block uses: byte order (R9), the checks CRC-8, CRC-16 and CRC-32C, rounding (R6, R24) and the sparse tables in canonical form that hold parameters, counts and addressed memory. -/

namespace Sys2Proof.Machine

/-! ### Little-endian packing (R9) -/

/-- The `n` bytes of `v`, least significant first; what lies above is cut (R9). -/
def leBytes : Nat → Nat → List Byte
  | 0, _ => []
  | n + 1, v => BitVec.ofNat 8 v :: leBytes n (v / 256)

/-- One byte. -/
def u8 (v : Nat) : List Byte := leBytes 1 v

/-- A little-endian 16-bit field. -/
def u16 (v : Nat) : List Byte := leBytes 2 v

/-- A little-endian 32-bit field. -/
def u32 (v : Nat) : List Byte := leBytes 4 v

/-- A little-endian 64-bit field. -/
def u64 (v : Nat) : List Byte := leBytes 8 v

/-- Two's complement of an integer in `n` bytes (R9). -/
def iBytes (n : Nat) (v : Int) : List Byte := leBytes n (v % (2 ^ (8 * n) : Nat)).toNat

/-- A signed byte. -/
def i8 (v : Int) : List Byte := iBytes 1 v

/-- A signed 16-bit field. -/
def i16 (v : Int) : List Byte := iBytes 2 v

/-- A signed 32-bit field. -/
def i32 (v : Int) : List Byte := iBytes 4 v

/-- A signed 64-bit field. -/
def i64 (v : Int) : List Byte := iBytes 8 v

/-- The number a little-endian byte list holds (R9). -/
def leNat : List Byte → Nat
  | [] => 0
  | b :: bs => b.toNat + 256 * leNat bs

/-- The unsigned field of `n` bytes at an offset. -/
def fieldAt (off n : Nat) (bs : List Byte) : Nat := leNat ((bs.drop off).take n)

/-- Reads a number of `n` bits as two's complement (R9). -/
def toSigned (n v : Nat) : Int :=
  if 2 * v < 2 ^ n then (v : Int) else (v : Int) - (2 ^ n : Nat)

/-- The signed field of `n` bytes at an offset. -/
def sfieldAt (off n : Nat) (bs : List Byte) : Int := toSigned (8 * n) (fieldAt off n bs)

/-- 1 when the named condition holds (R9). -/
def bit (b : Bool) : Nat := if b then 1 else 0

/-- The number whose bit `i` is the `i`-th entry of the list (R8). -/
def bitsOf : List Bool → Nat
  | [] => 0
  | b :: bs => bit b + 2 * bitsOf bs

/-- Bit `i` of a number (R8). -/
def bitAt (v i : Nat) : Bool := v.testBit i

/-- The field [hi:lo] of a number (R8). -/
def bitsAt (v hi lo : Nat) : Nat := (v / 2 ^ lo) % 2 ^ (hi + 1 - lo)

/-- A number cut to an unsigned field that saturates. -/
def satU (bits v : Nat) : Nat := if v < 2 ^ bits then v else 2 ^ bits - 1

/-- An integer held inside two limits (R24: a variable given a width saturates). -/
def clampI (lo hi v : Int) : Int := if v < lo then lo else if hi < v then hi else v

/-- An integer that saturates at the limits of a signed width (R24). -/
def satI (bits : Nat) (v : Int) : Int := clampI (-(2 ^ (bits - 1) : Nat)) ((2 ^ (bits - 1) : Nat) - 1) v

/-! ### Rounding -/

/-- `a / b` for a positive `b`, to the nearest integer with halves away from zero (R6). -/
def roundDiv (a : Int) (b : Nat) : Int :=
  if 0 ≤ a then (2 * a + b) / (2 * b : Nat) else -((2 * (-a) + b) / (2 * b : Nat))

/-- `a / b` truncated toward zero (R24). -/
def truncDiv (a b : Int) : Int := a.tdiv b

/-- The arithmetic right shift, which rounds toward minus infinity (R24). -/
def shrI (a : Int) (n : Nat) : Int := a / (2 ^ n : Nat)

/-- The least upper bound of the square root's integer part: the largest `r` with `r * r ≤ n`, found bit by bit from bit `k`. -/
def isqrtFrom (n : Nat) : Nat → Nat → Nat
  | 0, r => r
  | k + 1, r =>
    let t := r + 2 ^ k
    isqrtFrom n k (if t * t ≤ n then t else r)

/-- The integer square root of a number below 2 ^ 160. -/
def isqrt (n : Nat) : Nat := isqrtFrom n 80 0

/-- Puts a value into an ascending list. -/
def insertAsc (v : Int) : List Int → List Int
  | [] => [v]
  | x :: xs => if v ≤ x then v :: x :: xs else x :: insertAsc v xs

/-- A list in ascending order. -/
def sortAsc (l : List Int) : List Int := l.foldr insertAsc []

/-- The median under R24: the middle value, or the lower of the two middle values; `d` for no values. -/
def medianD (d : Int) (l : List Int) : Int := (sortAsc l).getD ((l.length - 1) / 2) d

/-! ### Checks -/

/-- One bit of a reflected CRC of polynomial `p`. -/
def crcBitR {w : Nat} (p c : BitVec w) : BitVec w :=
  if c.getLsbD 0 then (c >>> 1) ^^^ p else c >>> 1

/-- One bit of a CRC that shifts left. -/
def crcBitL {w : Nat} (p c : BitVec w) : BitVec w :=
  if c.getMsbD 0 then (c <<< 1) ^^^ p else c <<< 1

/-- A function applied `n` times. -/
def iter {α : Type} (f : α → α) : Nat → α → α
  | 0, a => a
  | n + 1, a => iter f n (f a)

/-- The running CRC-32C over more bytes, before the final XOR (R101). -/
def crc32cRun (c : Word32) (bs : List Byte) : Word32 :=
  bs.foldl (fun c b => iter (crcBitR 0x82F63B78#32) 8 (c ^^^ b.setWidth 32)) c

/-- CRC-32C: polynomial 0x1EDC6F41, reflected, initial value and final XOR 0xFFFFFFFF (R101). -/
def crc32c (bs : List Byte) : Nat := (crc32cRun 0xFFFFFFFF#32 bs ^^^ 0xFFFFFFFF#32).toNat

/-- CRC-8: polynomial 0x07, initial value 0x00, not reflected (R75). -/
def crc8 (bs : List Byte) : Nat :=
  (bs.foldl (fun c b => iter (crcBitL 0x07#8) 8 (c ^^^ b)) 0x00#8).toNat

/-- CRC-16: polynomial 0x1021, initial value 0xFFFF, no reflection (R129). -/
def crc16 (bs : List Byte) : Nat :=
  (bs.foldl (fun c b => iter (crcBitL 0x1021#16) 8 (c ^^^ ((b.setWidth 16 : Word16) <<< (8 : Nat)))) 0xFFFF#16).toNat

/-! ### Sparse tables

A table from numbers to values, held as a list of pairs with strictly rising keys in which no entry equals the default. Equal tables are equal lists. -/

/-- What the table gives for a key; `d` where nothing is listed. -/
def sget {α : Type} (d : α) (k : Nat) : List (Nat × α) → α
  | [] => d
  | (a, v) :: t => if k = a then v else if k < a then d else sget d k t

/-- The entry written, unless it is the default. -/
def scons {α : Type} [DecidableEq α] (d : α) (k : Nat) (v : α) (t : List (Nat × α)) : List (Nat × α) :=
  if v = d then t else (k, v) :: t

/-- The table with one key set; writing the default removes the entry. -/
def sset {α : Type} [DecidableEq α] (d : α) (k : Nat) (v : α) : List (Nat × α) → List (Nat × α)
  | [] => scons d k v []
  | (a, w) :: t =>
    if k < a then scons d k v ((a, w) :: t)
    else if k = a then scons d k v t
    else (a, w) :: sset d k v t

/-- The canonical form: every key is above `lo`, keys rise strictly and no entry is the default. -/
def swfFrom {α : Type} [DecidableEq α] (d : α) : Nat → List (Nat × α) → Bool
  | _, [] => true
  | lo, (a, v) :: t => decide (lo ≤ a) && decide (v ≠ d) && swfFrom d (a + 1) t

/-- The canonical form of a whole table. -/
def swf {α : Type} [DecidableEq α] (d : α) (t : List (Nat × α)) : Bool := swfFrom d 0 t

/-! ### Addressed memory -/

/-- What a byte that nothing has written reads as. DESIGN CHOICE 3: the manual gives no contents, the model reads 0x00. -/
def blankByte : Byte := 0#8

/-- One byte of an addressed memory. -/
def memRead (m : List Host.Cell) (a : Nat) : Byte := sget blankByte a m

/-- One byte written to an addressed memory, which keeps its canonical form. -/
def memWrite (m : List Host.Cell) (a : Nat) (b : Byte) : List Host.Cell := sset blankByte a b m

/-- A run of bytes written at rising addresses. -/
def memStore (m : List Host.Cell) (a : Nat) : List Byte → List Host.Cell
  | [] => m
  | b :: bs => memStore (memWrite m a b) (a + 1) bs

/-- A run of `n` bytes read from rising addresses. -/
def memLoad (m : List Host.Cell) (a : Nat) : Nat → List Byte
  | 0 => []
  | n + 1 => memRead m a :: memLoad m (a + 1) n

/-- The canonical form of an addressed memory: addresses strictly rising, no entry equal to what an unlisted address reads as. -/
def Memory.wf (m : List Host.Cell) : Bool := swf blankByte m

/-! ### Lists of a fixed number of like things -/

/-- The `i`-th entry changed by `f`; the list unchanged where there is none. -/
def modAt {α : Type} (f : α → α) : Nat → List α → List α
  | _, [] => []
  | 0, x :: xs => f x :: xs
  | i + 1, x :: xs => x :: modAt f i xs

/-- The `i`-th entry replaced. -/
def setAt {α : Type} (i : Nat) (v : α) (l : List α) : List α := modAt (fun _ => v) i l

/-- The list with its entries numbered from `i`. -/
def numFrom {α : Type} : Nat → List α → List (Nat × α)
  | _, [] => []
  | i, x :: xs => (i, x) :: numFrom (i + 1) xs

/-- The list with its entries numbered from 0. -/
def numbered {α : Type} (l : List α) : List (Nat × α) := numFrom 0 l

/-- The numbers 0 to n − 1. -/
def upTo (n : Nat) : List Nat := List.range n

/-- The first entry that meets a condition, with the list without it. -/
def takeFirst {α : Type} (p : α → Bool) : List α → Option (α × List α)
  | [] => none
  | x :: xs =>
    if p x then some (x, xs)
    else match takeFirst p xs with
      | some (y, ys) => some (y, x :: ys)
      | none => none

/-- The n last entries of a list. -/
def lastN {α : Type} (n : Nat) (l : List α) : List α := l.drop (l.length - n)

/-! ### Time in ticks of 10 ns (R5) -/

/-- Ticks of a number of microseconds. -/
def us (n : Nat) : Nat := 100 * n

/-- Ticks of a number of milliseconds. -/
def ms (n : Nat) : Nat := 100000 * n

/-- Ticks of a number of seconds. -/
def sec (n : Nat) : Nat := 100000000 * n

end Sys2Proof.Machine
end

