-- ==== Sys2Proof/Machine/Inputs.lean ====
section
/-! DEFINITION. The operands that commands and events bring with them: what a host packet carries beside its body, and what the outside world shows the device at an event. -/

namespace Sys2Proof.Machine

/-- What the host chooses in the header of a command (R100, R102). -/
structure CmdHead where
  tag : Byte
  /-- NOTE flag. -/
  note : Bool
  deriving DecidableEq, Repr

/-- What start-up finds (R84, R85). -/
structure StartUpIn where
  /-- The 25 MHz clock agrees with the Binnacle RC and the PLL locks (step 2). -/
  clockOk : Bool := true
  /-- Replies on the AVS interface to the reading of the regulator's status and of its voltage (step 3): by default status bits 0 and 1,200 mV. -/
  avsStatus : List Byte := [0#8, 0#8, 0#8, 0#8]
  avsVoltage : List Byte := [0x00#8, 0xB0#8, 0x04#8, 0x53#8]
  /-- Banks whose header or CRC fails on reading, bit per bank (step 4). -/
  bankBad : Nat := 0
  /-- The SRAM test passes (step 5). -/
  sramOk : Bool := true
  /-- Damage of the journal's slots: entry, slot (0 the one written last, 1 the other), bits that read flipped (step 6). -/
  damage : List (Nat × Nat × Nat) := []
  /-- The journal can be read, and the Log header copies read. -/
  journalOk : Bool := true
  headerOk : Bool := true
  /-- The draft record passes its check. -/
  draftOk : Bool := true
  /-- The image reads with its CRC (step 7). -/
  imageOk : Bool := true
  /-- Binnacle's self-test passes (step 9). -/
  selfTest : Bool := true
  /-- A copy of the learned tables passes its check (step 10). -/
  tablesOk : Bool := true
  /-- VHV during start-up and VDRV at step 10, in mV. -/
  vhvMv : Nat := 110000
  vdrvMv : Nat := 12000
  /-- Sense offsets in µV and settled within time. -/
  offsets : List Int := [0, 0, 0, 0, 0]
  deriving DecidableEq, Repr

/-- What the power stage shows at a current sample (R231, R312, R316, R319). -/
structure CurrentIn where
  /-- What the shunts of U, V, W, A and B read, in mA with the offset of their channel in it; a leaf shunt is positive out of its leg, a step shunt positive towards PGND. -/
  u : Int := 0
  v : Int := 0
  w : Int := 0
  a : Int := 0
  b : Int := 0
  /-- VBUS_S in mV. -/
  vbus : Nat := 0
  /-- BSx − SWx of the seven legs in mV. -/
  boots : List Nat := []
  /-- Measured switching delays of one leg: leg, rising and falling, in whole ns (R319). -/
  delays : List (Nat × Int × Int) := []
  deriving DecidableEq, Repr

/-- What a safety tick samples (R439, R440, R466). -/
structure TickIn where
  /-- Levels of SIN0 to SIN15, bit per channel. -/
  levels : Nat := 0
  /-- Pad voltages of TPO0 to TPO3 in mV, and VHV. -/
  tpo : List Nat := []
  vhvMv : Nat := 0
  /-- Loop currents of SOUT0 and SOUT1 in µA. -/
  loop0 : Nat := 0
  loop1 : Nat := 0
  /-- Regulator output in mV, RC deviation in per mille, ECC corrections since the last tick. -/
  regulator : Nat := 1200
  rcDeviation : Int := 0
  ecc : Nat := 0
  /-- The drive inhibit line read back from the smart-power die. -/
  inhibitBack : Bool := false
  deriving DecidableEq, Repr

/-- A tile that answers at enumeration (R337, R338, R344). -/
structure TileIn where
  type : Nat
  serial : Nat
  hw : Nat := 0
  fw : Nat := 0
  endOfChain : Bool := false
  deriving DecidableEq, Repr

/-- How the training of a port goes (R344). -/
structure TrainIn where
  /-- The link locks. -/
  locked : Bool := true
  tiles : List TileIn := []
  deriving DecidableEq, Repr

/-- A frame on a bus (R488, R515). -/
structure FrameIn where
  ident : Nat
  format : Nat := 2
  sdt : Nat := 0
  vcid : Nat := 0
  sec : Bool := false
  af : Nat := 0
  length : Nat := 0
  data : List Byte := []
  esi : Bool := false
  /-- Age of its start-of-frame edge in ticks when it becomes valid (R495). -/
  age : Nat := 0
  deriving DecidableEq, Repr

/-- How a transmit attempt ends (R503, R507, R509). -/
structure AttemptIn where
  /-- 0 success, 1 lost arbitration, 2 error. -/
  result : Nat := 0
  /-- Error code of offset 7 of R517. -/
  error : Nat := 0
  /-- The error is a bit error after the arbitration field and before the CRC delimiter. -/
  collision : Bool := false
  /-- Age of the start-of-frame edge in ticks. -/
  age : Nat := 0
  /-- Measured transmitter delay in CANCLK periods. -/
  delay : Nat := 0
  deriving DecidableEq, Repr

end Sys2Proof.Machine
end

