-- ==== Sys2Proof/Syntax.lean ====
section
/-! DEFINITION. The commands of the block: one constructor per row of the opcode table. The first operand of every row is the time in ticks of 10 ns since the row before; host commands (the first 97 rows) then take what the header of their packet carries. -/

namespace Sys2Proof

open Sys2Proof.Machine

/-- A host command, or an event or step of the device. -/
inductive Instr where
  /-- R614. Query that returns part number, grade, revision, serial number, bank versions, image CRC and seal state. -/
  | identify (dt : Nat) (h : CmdHead)
  /-- R614. Query that returns doorway, step and reef state, flags, commands in flight and event queue fill. -/
  | status (dt : Nat) (h : CmdHead)
  /-- R131. Order that resets the device and is answered DONE after the restart. -/
  | reset (dt : Nat) (h : CmdHead)
  /-- R87. Order that, when Locked or Isolated and at rest, de-energises the outputs, seals journal and Log and switches the controller off with the keep oscillator running. -/
  | park (dt : Nat) (h : CmdHead)
  /-- R87. Order that enters Dormant as PARK does, with the 32.768 kHz oscillator stopped. -/
  | dormant (dt : Nat) (h : CmdHead)
  /-- R135. Order that sets the 192-bit mask of event sources sent to the host. -/
  | eventMask (dt : Nat) (h : CmdHead) (mask : Nat)
  /-- R614. Query that returns the masked and lost counts of the 32 sources of one group. -/
  | eventCounts (dt : Nat) (h : CmdHead) (group : Nat)
  /-- R614. Query that lists tag, opcode, state and accept time of each command in flight. -/
  | journalRead (dt : Nat) (h : CmdHead)
  /-- R119. Order that erases the inactive firmware bank for an image of the given length. -/
  | fwLoadBegin (dt : Nat) (h : CmdHead) (bank : Nat) (length : Nat)
  /-- R119. Order that writes and reads back a block of firmware bytes at an offset. -/
  | fwLoadData (dt : Nat) (h : CmdHead) (off : Nat) (bytes : List Byte)
  /-- R119. Order that verifies the loaded firmware image against its CRC-32C. -/
  | fwLoadEnd (dt : Nat) (h : CmdHead) (crc : Nat)
  /-- R119. Order that activates a firmware bank and restarts the device with cause bit 8. -/
  | fwActivate (dt : Nat) (h : CmdHead) (bank : Nat)
  /-- R117. Order that ends a cancellable order in flight named by its tag. -/
  | cancel (dt : Nat) (h : CmdHead) (target : Nat)
  /-- R614. Query that returns the bytes it carries. -/
  | echo (dt : Nat) (h : CmdHead) (bytes : List Byte)
  /-- R121. Query that returns the values in force of up to 64 parameters. -/
  | paramRead (dt : Nat) (h : CmdHead) (ids : List Nat)
  /-- R121. Order that writes up to 32 parameters all-or-nothing, each taking effect at its block boundary. -/
  | paramWrite (dt : Nat) (h : CmdHead) (pairs : List (Nat × Nat))
  /-- R122. Order that range-checks and stages the values of one parameter group. -/
  | paramGroupStage (dt : Nat) (h : CmdHead) (group : Nat) (values : List Nat)
  /-- R123. Order that runs the consistency checks of staged groups of one block and applies them atomically. -/
  | paramCommit (dt : Nat) (h : CmdHead) (groups : List Nat)
  /-- R125. Order that discards staged groups. -/
  | paramGroupDiscard (dt : Nat) (h : CmdHead) (groups : List Nat)
  /-- R126. Query that returns class, type, range, default, unit and group of a parameter. -/
  | paramInfo (dt : Nat) (h : CmdHead) (id : Nat)
  /-- R127. Order that stores the working set in flash as the parameter image. -/
  | paramImageSave (dt : Nat) (h : CmdHead)
  /-- R127. Query that returns bytes of the stored parameter image. -/
  | paramImageRead (dt : Nat) (h : CmdHead) (off : Nat) (length : Nat)
  /-- R127. Order that fills a window of the image staging buffer. -/
  | paramImageLoad (dt : Nat) (h : CmdHead) (off : Nat) (bytes : List Byte)
  /-- R127. Order that checks the staged image and writes it to flash as the stored image. -/
  | paramImageInstall (dt : Nat) (h : CmdHead) (crc : Nat)
  /-- R127. Order that writes the factory image to flash. -/
  | paramFactory (dt : Nat) (h : CmdHead)
  /-- R614. Query that lists parameter IDs of a block from a start index. -/
  | paramList (dt : Nat) (h : CmdHead) (block : Nat) (start : Nat)
  /-- R149. Order that withdraws the lock and enters Released when the lock pair opens. -/
  | doorRelease (dt : Nat) (h : CmdHead)
  /-- R150. Order that opens the leaves at its start time, with release and step as the rules give. -/
  | doorOpen (dt : Nat) (h : CmdHead) (start : Nat)
  /-- R153. Order that warns, closes and locks the doorway at its start time. -/
  | doorClose (dt : Nat) (h : CmdHead) (start : Nat)
  /-- R162. Order that enters Holding with origin 1 for a hold time. -/
  | doorHold (dt : Nat) (h : CmdHead) (time : Nat)
  /-- R174. Order that closes and locks the doorway and takes it out of service. -/
  | doorIsolate (dt : Nat) (h : CmdHead)
  /-- R175. Order that leaves Isolated into the classified state. -/
  | doorRestore (dt : Nat) (h : CmdHead)
  /-- R163. Order that arms or begins Landfall for the announced release side. -/
  | landfallAnnounce (dt : Nat) (h : CmdHead) (side : Nat)
  /-- R169. Order that withdraws Landfall or an armed announcement. -/
  | landfallWithdraw (dt : Nat) (h : CmdHead)
  /-- R171. Order that deploys the step by platform find. -/
  | stepDeploy (dt : Nat) (h : CmdHead)
  /-- R171. Order that retracts the step, or homes it from Step-faulted. -/
  | stepRetract (dt : Nat) (h : CmdHead)
  /-- R178. Order that enters Maintenance at rest with the vehicle at standstill. -/
  | maintenanceEnter (dt : Nat) (h : CmdHead)
  /-- R178. Order that leaves Maintenance into the classified state. -/
  | maintenanceExit (dt : Nat) (h : CmdHead)
  /-- R180. Order that leaves Faulted or Obstructed once no cause stands. -/
  | doorFaultClear (dt : Nat) (h : CmdHead)
  /-- R186. Query that returns doorway and step state, cause, counts, pair states and positions. -/
  | doorState (dt : Nat) (h : CmdHead)
  /-- R226. Order that runs the homing sequence of an axis. -/
  | axisHome (dt : Nat) (h : CmdHead) (axis : Nat)
  /-- R226. Order that moves an axis to a target in Maintenance. -/
  | axisMove (dt : Nat) (h : CmdHead) (axis : Nat) (target : Nat)
  /-- R226. Order that stops one or both axes. -/
  | axisStop (dt : Nat) (h : CmdHead) (axis : Nat)
  /-- R211. Order that links or frees the two axes. -/
  | axisLink (dt : Nat) (h : CmdHead) (link : Nat)
  /-- R258. Order that selects automatic, manual current or manual voltage mode of an axis. -/
  | loopMode (dt : Nat) (h : CmdHead) (axis : Nat) (mode : Nat)
  /-- R259. Order that sets the manual current or voltage set-point. -/
  | loopManual (dt : Nat) (h : CmdHead) (axis : Nat) (point : Nat)
  /-- R262. Order that injects a test signal into a loop and captures the response. -/
  | injectStart (dt : Nat) (h : CmdHead) (axis : Nat) (loop : Nat) (point : Nat) (signal : Nat) (amplitude : Nat) (p1 : Nat) (p2 : Nat) (p3 : Nat) (respLoop : Nat) (respPoint : Nat) (decimation : Nat)
  /-- R267. Query that returns captured injection samples. -/
  | captureRead (dt : Nat) (h : CmdHead) (off : Nat) (count : Nat)
  /-- R227. Query that returns mode, phase, set-points and measurements of an axis. -/
  | axisState (dt : Nat) (h : CmdHead) (axis : Nat)
  /-- R268. Query that returns the sticky and present flag words and force estimate of an axis. -/
  | pilotFlags (dt : Nat) (h : CmdHead) (axis : Nat)
  /-- R241. Order that clears sticky Pilot flags by mask. -/
  | pilotFlagsClear (dt : Nat) (h : CmdHead) (axis : Nat) (mask : Nat)
  /-- R267. Query that returns entries of a friction, cogging or microstep table. -/
  | tableRead (dt : Nat) (h : CmdHead) (table : Nat) (dir : Nat) (off : Nat) (count : Nat)
  /-- R254. Order that writes entries of a friction or microstep table at standstill. -/
  | tableWrite (dt : Nat) (h : CmdHead) (table : Nat) (dir : Nat) (off : Nat) (entries : List Nat)
  /-- R303. Query that returns the edge latch, reference state, counts and compare units. -/
  | latchRead (dt : Nat) (h : CmdHead)
  /-- R297. Order that arms a compare unit with position, action and direction filter. -/
  | compareArm (dt : Nat) (h : CmdHead) (unit : Nat) (action : Nat) (filter : Nat) (position : Nat)
  /-- R328. Query that returns bridge modes, faults, suspects, dead times and measurements. -/
  | driveStatus (dt : Nat) (h : CmdHead)
  /-- R367. SKIN_PORT_SET action 0: stops the syncs of a port and keeps its baselines. -/
  | skinPortSuspend (dt : Nat) (h : CmdHead) (port : Nat)
  /-- R367. SKIN_PORT_SET action 1: resumes a suspended port. -/
  | skinPortResume (dt : Nat) (h : CmdHead) (port : Nat)
  /-- R344. SKIN_PORT_SET action 2: starts training of a port. -/
  | skinPortRetrain (dt : Nat) (h : CmdHead) (port : Nat)
  /-- R368. Query that returns the state and counts of a skin port. -/
  | skinPortStatus (dt : Nat) (h : CmdHead) (port : Nat)
  /-- R369. Query that lists the tiles of a port with faults and identities. -/
  | skinTileList (dt : Nat) (h : CmdHead) (port : Nat)
  /-- R370. Query that returns a window of a skin map from the last frame. -/
  | skinFrameRead (dt : Nat) (h : CmdHead) (port : Nat) (map : Nat) (alongFirst : Nat) (alongCount : Nat) (rowFirst : Nat) (rowCount : Nat)
  /-- R350. Order that rebuilds the baselines of named ports over 16 frames. -/
  | skinBaselineRebuild (dt : Nat) (h : CmdHead) (ports : Nat)
  /-- R401. Query that returns contact or line records of a port with their classes. -/
  | contactList (dt : Nat) (h : CmdHead) (port : Nat) (kind : Nat) (first : Nat) (count : Nat)
  /-- R403. Query that returns obstacle, seal, pinch and demand state. -/
  | obstacleState (dt : Nat) (h : CmdHead)
  /-- R404. Query that returns the drag state, tension and pinch-line history. -/
  | dragState (dt : Nat) (h : CmdHead)
  /-- R371. Query that returns the excitation and the state of each legacy edge. -/
  | legacyEdgeStatus (dt : Nat) (h : CmdHead)
  /-- R410. Order that stores host on/off orders for named load channels. -/
  | lchSet (dt : Nat) (h : CmdHead) (channels : Nat) (states : Nat)
  /-- R430. Query that returns the state of all twelve load channels. -/
  | lchStatus (dt : Nat) (h : CmdHead)
  /-- R415. Order that clears latches, try counts, pauses and failed-primary marks of named channels. -/
  | lchUnlatch (dt : Nat) (h : CmdHead) (channels : Nat)
  /-- R418. Order that runs the off-state load test at once on named channels. -/
  | lchOffTest (dt : Nat) (h : CmdHead) (channels : Nat)
  /-- R427. Order that writes the pair and jury group to the smart-power die in one step. -/
  | juryMaskSet (dt : Nat) (h : CmdHead) (pair : Nat) (mask : Nat) (map : Nat)
  /-- R431. Query that returns jury inputs, the smart-power copy and channels driven. -/
  | juryStatus (dt : Nat) (h : CmdHead)
  /-- R481. Query that returns the seal state, values and reason. -/
  | sealStatus (dt : Nat) (h : CmdHead)
  /-- R480. Order that checks and stores the seal record and enters the Sealed state. -/
  | sealConfirm (dt : Nat) (h : CmdHead) (value : Nat) (grade : Nat)
  /-- R482. Query that returns safe input pairs, test faults and safe output states. -/
  | safeIo (dt : Nat) (h : CmdHead)
  /-- R483. Query that returns the state of the Binnacle safety functions. -/
  | safeFunctions (dt : Nat) (h : CmdHead)
  /-- R484. Query that returns the state and error counts of each telegram connection. -/
  | telegramStatus (dt : Nat) (h : CmdHead)
  /-- R485. Query that returns Binnacle fault bits and diagnostic counts. -/
  | binDiag (dt : Nat) (h : CmdHead)
  /-- R479. Order that enables the debug port while not Sealed. -/
  | debugEnable (dt : Nat) (h : CmdHead)
  /-- R517. Query that returns the state and counts of a bus controller. -/
  | busStatus (dt : Nat) (h : CmdHead) (bus : Nat)
  /-- R512. Order that returns a controller from bus-off after 128 recessive sequences. -/
  | busRecover (dt : Nat) (h : CmdHead) (bus : Nat) (timeout : Nat)
  /-- R504. Order that queues a frame on a host send object and replies at its end. -/
  | busSend (dt : Nat) (h : CmdHead) (bus : Nat) (object : Nat) (ident : Nat) (format : Nat) (sdt : Nat) (vcid : Nat) (sec : Nat) (af : Nat) (length : Nat) (lifetime : Nat) (bytes : List Byte)
  /-- R499. Query that copies a receive object or priority buffer consistently, optionally consuming it. -/
  | busRead (dt : Nat) (h : CmdHead) (bus : Nat) (kind : Nat) (index : Nat) (consume : Nat) (off : Nat) (count : Nat)
  /-- R506. Order that cancels the frame of a host send object. -/
  | busTxCancel (dt : Nat) (h : CmdHead) (bus : Nat) (object : Nat)
  /-- R519. Order that writes a section of the shadow bus table. -/
  | busFilterLoad (dt : Nat) (h : CmdHead) (bus : Nat) (part : Nat) (first : Nat) (bytes : List Byte)
  /-- R519. BUS_FILTER_LOAD section 3: checks the shadow table and puts it in force at one point in the FIFO. -/
  | busFilterApply (dt : Nat) (h : CmdHead) (bus : Nat)
  /-- R519. BUS_FILTER_LOAD section 4: discards the shadow table. -/
  | busFilterDiscard (dt : Nat) (h : CmdHead) (bus : Nat)
  /-- R546. Order that steps the Chronometer time to a given value. -/
  | chronSet (dt : Nat) (h : CmdHead) (time : Nat)
  /-- R547. Query that returns the Chronometer state, time and discipline figures. -/
  | chronRead (dt : Nat) (h : CmdHead)
  /-- R573. Query that returns the state of the Log. -/
  | logStatus (dt : Nat) (h : CmdHead)
  /-- R570. Query that returns cycle records by sequence. -/
  | logRead (dt : Nat) (h : CmdHead) (first : Nat) (count : Nat)
  /-- R571. Query that lists trace slots. -/
  | traceList (dt : Nat) (h : CmdHead) (first : Nat) (count : Nat)
  /-- R572. Query that returns bytes of a trace slot. -/
  | traceRead (dt : Nat) (h : CmdHead) (slot : Nat) (off : Nat) (count : Nat)
  /-- R568. Order that triggers a trace capture and replies when it is complete. -/
  | traceCapture (dt : Nat) (h : CmdHead) (period : Nat) (pre : Nat) (pin : Nat)
  /-- R565. Order that pins or unpins a trace. -/
  | tracePin (dt : Nat) (h : CmdHead) (slot : Nat) (action : Nat)
  /-- R569. Order that erases the ring and/or frees trace slots. -/
  | logErase (dt : Nat) (h : CmdHead) (what : Nat)
  /-- R111. A host packet arrives whole; it is journalled, checked and accepted or refused. -/
  | packetReceived (dt : Nat) (bytes : List Byte)
  /-- R104. SCS_N falls; the device shifts out its status byte and then outbound packets. -/
  | spiTransactionStart (dt : Nat) (bytes : List Byte)
  /-- R106. SCS_N rises; an outbound packet cut off resumes in the next transaction. -/
  | spiTransactionEnd (dt : Nat)
  /-- R106. More than 50 ms pass between bytes of an inbound SPI packet; it is dropped. -/
  | spiPacketTimeout (dt : Nat)
  /-- R108. A CAN frame with the host identifier arrives and its segment is joined to the packet. -/
  | hostSegmentReceived (dt : Nat) (format : Nat) (bytes : List Byte)
  /-- R110. More than 20 ms pass between segments; the packet is dropped. -/
  | segmentTimeout (dt : Nat)
  /-- R130. The last byte or segment of a reply leaves; its journal entry moves to state 4. -/
  | replySent (dt : Nat)
  /-- R114. An accepted order ends and its completion reply is journalled and queued. -/
  | orderCompleted (dt : Nat) (tag : Byte) (ok : Bool)
  /-- R138. No valid packet arrives for SYS_HOST_TIMEOUT; host-silent is raised and the doorway may close. -/
  | hostSilent (dt : Nat)
  /-- R99. After the commit reply leaves, a new host channel group takes effect. -/
  | hostChannelSwitch (dt : Nat)
  /-- R82. VIO or VCORE falls below its threshold; the controller die enters reset. -/
  | powerOnReset (dt : Nat)
  /-- R82. RST_N held low for 10 µs resets the controller die. -/
  | rstNLow (dt : Nat) (width : Nat)
  /-- R68. VKEEP falls below its threshold; keep registers are lost. -/
  | vkeepLost (dt : Nat)
  /-- R84. Once RST_N, VIO, VCORE and VKEEP are present, the start-up sequence runs to Ready. -/
  | startUp (dt : Nat) (found : StartUpIn)
  /-- R85. A failed clock check or PLL lock is retried every 10 ms. -/
  | clockCheckRetry (dt : Nat) (found : StartUpIn)
  /-- R84. Start-up reaches step 13; the doorway is classified and ready is sent. -/
  | ready (dt : Nat)
  /-- R92. VHV rises above the Reef 4 recovery threshold and start-up passes step 10. -/
  | startupVhvWaitEnd (dt : Nat) (found : StartUpIn)
  /-- R82. The application watchdog is not serviced in time; reset with cause bit 3. -/
  | watchdogExpiry (dt : Nat)
  /-- R72. Every 1 ms the worst slack is judged and VCORE is requested up or down. -/
  | avsTick (dt : Nat) (slack : Nat)
  /-- R72. Slack below 2 taps for 20 ticks at the limit resets the device with cause bit 5. -/
  | vcoreMarginReset (dt : Nat)
  /-- R78. An AVS exchange reply is complete and judged; failures are repeated. -/
  | avsExchangeEnd (dt : Nat) (reply : List Byte)
  /-- R78. While the interface is failed, an exchange is retried once per second. -/
  | avsRetry (dt : Nat)
  /-- R79. The main clock deviates over 3 % for 2 ticks; outputs off and reset with cause bit 4. -/
  | mainClockFault (dt : Nat)
  /-- R79. The Binnacle RC deviates over 3 %; outputs off and reset with cause bit 9. -/
  | binnacleRcFault (dt : Nat)
  /-- R513. No CANCLK edge for 10 µs; both controllers leave the bus. -/
  | busClockLost (dt : Nat)
  /-- R513. CANCLK has run in tolerance for 10 ms; controllers integrate again. -/
  | busClockRestored (dt : Nat)
  /-- R79. The 32.768 kHz clock fails; keep time is marked invalid. -/
  | keepClockLost (dt : Nat)
  /-- R88. WAKE high for 100 µs, or supplies returning, wakes from Parked or Dormant. -/
  | wake (dt : Nat) (source : Nat)
  /-- R88. SYS_PARK_ALARM seconds after entry to Parked, the device wakes. -/
  | keepAlarm (dt : Nat)
  /-- R68. VDRV falls below its threshold; gates off and motion orders refused. -/
  | vdrvLost (dt : Nat) (mv : Nat)
  /-- R68. VDRV rises through its threshold; gate drivers become available. -/
  | vdrvPresent (dt : Nat) (mv : Nat)
  /-- R68. VHV falls below 12 V; every channel, output and gate is off. -/
  | smartPowerLockout (dt : Nat)
  /-- R91. VHV stays below a stage threshold for its filter time and the stage's actions take effect. -/
  | reefEnter (dt : Nat) (stage : Nat) (vhv : Nat)
  /-- R90. VHV stays above a recovery threshold for SYS_REEF_RECOVER_TIME and the stage is left. -/
  | reefLeave (dt : Nat) (vhv : Nat)
  /-- R91. In Reef 4, once the leaf is at rest or 250 ms pass, the device resets with cause bit 6. -/
  | reef4Reset (dt : Nat)
  /-- R92. VHV stays above the Reef 4 recovery threshold for 100 ms and start-up runs. -/
  | reef4Restart (dt : Nat) (vhv : Nat)
  /-- R581. Every 1 ms each die temperature is read and warm and hot states are entered or left. -/
  | dieTemperatureTick (dt : Nat) (controller : Int) (power : Int) (memory : Int)
  /-- R146. Every 250 µs the sequencer handles its inputs and the planner computes set-points. -/
  | profileUpdate (dt : Nat)
  /-- R524. A waiting order's start time is reached at a profile update and it starts. -/
  | startTimeReached (dt : Nat)
  /-- R153. Warning channels flash at 1 Hz until the leaves move and Closing ends. -/
  | closingWarningFlash (dt : Nat)
  /-- R149. The lock pair has not opened within DOOR_UNLOCK_TIME; Faulted with cause 1. -/
  | unlockTimeout (dt : Nat)
  /-- R149. The lock pair opens after an unlock; the doorway enters Released or Landfall. -/
  | lockPairOpened (dt : Nat)
  /-- R154. DOOR_CLOSED_WAIT passes with position and closed pairs disagreeing. -/
  | closedWaitExpiry (dt : Nat)
  /-- R154. The lock pair is not made within DOOR_LOCK_TIME; retry once or Faulted with cause 2. -/
  | lockTimeout (dt : Nat)
  /-- R154. The 200 ms retry pulse of the lock channel ends. -/
  | lockRetryPulseEnd (dt : Nat)
  /-- R154. The lock pair is made in Closed; Locked is entered if the step rule allows. -/
  | lockPairMade (dt : Nat)
  /-- R179. In Locked the lock pair opens without an order; Faulted with cause 10. -/
  | lockPairOpenedLocked (dt : Nat)
  /-- R157. A closing reversal ends; Holding with origin 2, or Obstructed at the limit. -/
  | reversalEnds (dt : Nat)
  /-- R152. An opening back-off ends; Holding with origin 3, or Obstructed at the limit. -/
  | backoffEnds (dt : Nat)
  /-- R160. The Holding timer ends and the doorway acts by its origin. -/
  | holdingTimerEnd (dt : Nat)
  /-- R195. Set-point at target, position in window and speed at standstill for 10 ms; at target is reported. -/
  | atTarget (dt : Nat) (axis : Nat)
  /-- R164. 20 ms into entry the hold force is checked, else Faulted with cause 7. -/
  | landfallForceCheck (dt : Nat)
  /-- R163. An armed announcement expires after DOOR_LANDFALL_ARM_TIME. -/
  | landfallArmExpiry (dt : Nat)
  /-- R167. DOOR_LANDFALL_MAX passes in Landfall and withdrawal begins. -/
  | landfallMaxExpiry (dt : Nat)
  /-- R176. The leaves are moved 10,000 µm by hand and the opening assist starts. -/
  | egressAssistStart (dt : Nat)
  /-- R176. The assist reaches the open end or the leaves stop for 500 ms; gates off. -/
  | egressAssistEnd (dt : Nat)
  /-- R173. The step does not reach its end state within 3 s; Step-faulted. -/
  | stepMoveTimeout (dt : Nat)
  /-- R182. DOOR_REEF_RESUME_DELAY after return to Reef 2, the suspended motion resumes. -/
  | reefResume (dt : Nat)
  /-- R38. A pass-through edge is overdue or illegal; the follower leaves gearing. -/
  | leaderLost (dt : Nat) (reason : Nat)
  /-- R545. The follower's leader telegram does not match within CHRON_LEADER_WAIT. -/
  | leaderWaitExpiry (dt : Nat)
  /-- R217. Every 1 ms while the step moves its current amplitude follows the load angle. -/
  | stepAdaptTick (dt : Nat) (angle : Nat)
  /-- R221. A filtered transition of SHOME, SLIM_RET or SLIM_EXT is taken. -/
  | stepSwitchChange (dt : Nat) (sw : Nat) (level : Bool)
  /-- R221. A homing switch stays asserted for PLAN_HOME_STABLE. -/
  | stableAssertion (dt : Nat) (sw : Nat)
  /-- R223. A homing step reaches its end condition and the next step begins. -/
  | homingStepDone (dt : Nat)
  /-- R210. After PLAN_STEP_HOLD_DELAY of standstill the step current drops to hold. -/
  | stepHoldDelayEnd (dt : Nat)
  /-- R209. After PLAN_HOLD_DELAY at standstill the leaf current limit falls to standstill current. -/
  | leafHoldReduction (dt : Nat)
  /-- R231. Every 25 µs the currents are sampled and the current loops run. -/
  | currentSample (dt : Nat) (seen : CurrentIn)
  /-- R243. Every 125 µs the speed loop runs and the force estimate is formed. -/
  | speedSample (dt : Nat) (ntc : Nat)
  /-- R231. Every 500 µs the position loop runs. -/
  | positionSample (dt : Nat)
  /-- R247. No Hall edge within 3 edge intervals of the observer speed; feedback lost. -/
  | hallEdgeOverdue (dt : Nat)
  /-- R250. Dead reckoning ends by end stop, overrun, time or stop request; Faulted cause 4. -/
  | deadReckoningEnd (dt : Nat)
  /-- R260. At the next position sample the loops are preset and automatic control resumes. -/
  | transferToAuto (dt : Nat) (axis : Nat)
  /-- R264. The capture of 4,096 samples is full and the signal stops. -/
  | injectionCaptureComplete (dt : Nat)
  /-- R265. An excursion, obstacle, feedback loss or leaving Maintenance ends the injection. -/
  | injectionAbort (dt : Nat)
  /-- R276. A filtered Hall code change is classed, counted and timed. -/
  | hallStateChange (dt : Nat) (code : Nat)
  /-- R284. SEXT_SPEED_TIMEOUT passes without an edge; the speed becomes 0. -/
  | speedTimeout (dt : Nat)
  /-- R300. A filtered pass-through code change is counted for the follower. -/
  | passThroughEdge (dt : Nat) (code : Nat)
  /-- R320. A drain-source monitor trips; bridge gates off and a short-circuit fault latches. -/
  | vdsTrip (dt : Nat) (leg : Nat) (high : Bool)
  /-- R315. A gate fails to rise or fall within 2 µs of its command. -/
  | gateFault (dt : Nat) (leg : Nat) (high : Bool) (stuckOn : Bool)
  /-- R316. A bootstrap is low for 8 periods in succession. -/
  | bootstrapLow (dt : Nat) (leg : Nat) (mv : Nat)
  /-- R317. The 200 µs low-side precharge ends and modulation begins. -/
  | prechargeEnd (dt : Nat) (bridge : Nat)
  /-- R313. After 10 ms with all gates off the sense offsets are measured. -/
  | senseOffsetMeasure (dt : Nat) (offsets : List Int)
  /-- R325. VBUS_S at or above DRV_VBUS_OV for 50 µs; winding short. -/
  | busOverVoltage (dt : Nat) (mv : Nat)
  /-- R325. VBUS_S below the hysteresis level for 1 ms; modulation resumes. -/
  | busOverVoltageEnd (dt : Nat) (mv : Nat)
  /-- R341. Every 10 ms (20 ms binned) a sync is sent on every enabled port. -/
  | skinFrameSync (dt : Nat)
  /-- R343. A tile packet arrives whole and is kept or discarded. -/
  | tilePacketReceived (dt : Nat) (port : Nat) (bytes : List Byte) (violations : Nat)
  /-- R357. At 9.25 ms the frame is labelled, contacts passed on and the pinch-line line driven. -/
  | skinFrameEvaluated (dt : Nat)
  /-- R361. A port loses lock, mismatches its chain or has all tiles faulted. -/
  | skinPortFault (dt : Nat) (port : Nat) (cause : Nat)
  /-- R344. A port trains its link, enumerates its tiles and sets the scan mode. -/
  | portTraining (dt : Nat) (port : Nat) (found : TrainIn)
  /-- R361. A faulted port retries training every 100 ms. -/
  | portRetrainTimer (dt : Nat) (port : Nat)
  /-- R350. After 16 frames the summed values become baselines. -/
  | rebuildComplete (dt : Nat)
  /-- R364. Every 100 µs each legacy edge ratio is read and its state confirmed. -/
  | edgeSample (dt : Nat) (a : Nat) (b : Nat) (c : Nat) (exc : Nat)
  /-- R362. EXC out of range for 1 ms; every edge reports excitation fault. -/
  | excitationFault (dt : Nat) (exc : Nat)
  /-- R364. A pressure-wave actuation hold of SKIN_PW_HOLD ends. -/
  | pwHoldExpiry (dt : Nat) (edge : Nat)
  /-- R392. After DOOR_RECLOSE_DELAY without obstacle, platform find continues. -/
  | stepFindContinue (dt : Nat)
  /-- R409. A channel's demand changes and it switches on or off. -/
  | loadDemandChange (dt : Nat)
  /-- R411. A channel trips by short, hard short, over-current or temperature. -/
  | loadTrip (dt : Nat) (channel : Nat) (cause : Nat) (current : Nat)
  /-- R414. A channel's retry pause ends and it may restart. -/
  | retryPauseEnd (dt : Nat) (channel : Nat)
  /-- R412. A channel conducts 1 s without trip and its try count resets. -/
  | tryCountReset (dt : Nat) (channel : Nat)
  /-- R413. The junction falls to 160 °C and the thermal state clears. -/
  | thermalClear (dt : Nat) (channel : Nat) (temp : Int)
  /-- R416. Group sum over 16 A for 1 ms lowers, or below 15 A raises, channel limits. -/
  | groupDerating (dt : Nat)
  /-- R417. Ten samples below the open level declare a conducting channel dark. -/
  | lampDark (dt : Nat) (channel : Nat)
  /-- R418. Every LCH_OFF_TEST_PERIOD a 1 ms test pulse checks an off load. -/
  | offStateTest (dt : Nat) (channel : Nat) (mv : Nat)
  /-- R424. At the end of the 1 ms watch after switch-off a pad went below −1 V. -/
  | freewheelMissing (dt : Nat) (channel : Nat) (mv : Int)
  /-- R425. JURY changes and masked channels are taken over or handed back. -/
  | juryChange (dt : Nat) (level : Bool)
  /-- R425. A filtered JIN change is followed by its masked channels. -/
  | jinChange (dt : Nat) (input : Nat) (level : Bool)
  /-- R423. Every 100 µs SNSA and SNSB are updated. -/
  | sensePinUpdate (dt : Nat) (currents : List Nat) (temps : List Int)
  /-- R439. Every Binnacle tick the inputs are sampled and the safety functions evaluated. -/
  | safetyTick (dt : Nat) (seen : TickIn)
  /-- R440. A TPO test window runs and the TPO and its channels are checked. -/
  | testWindow (dt : Nat) (tpo : Nat) (mv : Nat) (reads : Nat)
  /-- R448. Every 100 ms an energised output's switches are pulsed off in turn. -/
  | offPulse (dt : Nat) (output : Nat) (current : Nat)
  /-- R448. An energised output carries under 2 mA for 1 s. -/
  | safeLoopOpen (dt : Nat) (output : Nat)
  /-- R600. Loop current at the limit for 1 ms; the smart-power die opens the output. -/
  | safeLoopCurrentLimit (dt : Nat) (output : Nat) (current : Nat)
  /-- R456. Standstill for 1 s with no cause clears the drag latch. -/
  | dragLatchClear (dt : Nat)
  /-- R462. Binnacle times a Hall edge on its own path for speed and direction. -/
  | binnacleHallEdge (dt : Nat) (code : Nat)
  /-- R464. 500 ms without a Hall edge release speed and direction inhibits. -/
  | edgeSilence500ms (dt : Nat)
  /-- R463. Illegal code or 100 ms of demanded motion without edges makes the speed unproven. -/
  | speedUnproven (dt : Nat)
  /-- R463. Speed unproven for BIN_UNPROVEN_MAX asserts the drive inhibit. -/
  | unprovenTooLong (dt : Nat)
  /-- R465. A sequencer report reaches Binnacle and is checked. -/
  | sequencerReport (dt : Nat) (seq : Nat) (ok : Bool)
  /-- R466. A class A diagnostic fails; outputs off, inhibit, FAULT_N. -/
  | binnacleFault (dt : Nat) (bit : Nat)
  /-- R466. Every 8 h the SRAM march test completes. -/
  | marchTest (dt : Nat) (ok : Bool)
  /-- R466. Every 10 min the program store CRC is checked. -/
  | programCrcCheck (dt : Nat) (ok : Bool)
  /-- R494. A valid frame enters the receive FIFO with its time stamp. -/
  | busFrameReceived (dt : Nat) (bus : Nat) (frame : FrameIn)
  /-- R496. The firmware takes a frame from the FIFO and routes it. -/
  | frameRouted (dt : Nat) (bus : Nat)
  /-- R501. At the third intermission bit a pending frame is chosen and committed. -/
  | attemptCommitted (dt : Nat) (bus : Nat) (idle : Bool)
  /-- R503. An attempt ends by success, lost arbitration or error. -/
  | attemptEnd (dt : Nat) (bus : Nat) (seen : AttemptIn)
  /-- R512. 128 recessive sequences counted; error-active again. -/
  | recoveryComplete (dt : Nat) (bus : Nat)
  /-- R512. BUS_RECOVER's timeout passes in bus-off. -/
  | recoverTimeout (dt : Nat) (bus : Nat)
  /-- R504. A frame's lifetime passes uncommitted and it fails with cause 3. -/
  | frameLifetimeExpiry (dt : Nat) (bus : Nat) (object : Nat)
  /-- R520. After a timing commit and the current frame the controller re-initialises. -/
  | timingReconfigured (dt : Nat) (bus : Nat)
  /-- R535. Every 10 ticks or 10 ms a send connection builds a telegram. -/
  | telegramSendTimer (dt : Nat) (conn : Nat)
  /-- R537. A frame of a receive connection is checked and accepted or rejected. -/
  | telegramReceived (dt : Nat) (conn : Nat) (frame : FrameIn)
  /-- R539. 30 ticks pass without acceptance; the connection resynchronises. -/
  | telegramWatchdogExpiry (dt : Nat) (conn : Nat)
  /-- R529. A reference message disciplines or steps the slave's time. -/
  | referenceReceived (dt : Nat) (frame : FrameIn)
  /-- R527. A master sends its reference message every CHRON_REF_PERIOD. -/
  | referenceSendTimer (dt : Nat)
  /-- R528. S passes without a valid reference; a potential master takes over. -/
  | masterTimeout (dt : Nat)
  /-- R523. No usable reference for 3 periods; a disciplined slave enters holdover. -/
  | holdoverEntry (dt : Nat)
  /-- R531. CHRON_HOLDOVER passes in holdover; the time becomes invalid. -/
  | holdoverExpiry (dt : Nat)
  /-- R556. A cycle or quiet interval ends and its record is cast into the ring. -/
  | cycleCast (dt : Nat) (steps : Nat) (ok : Bool)
  /-- R556. After a cast the learned tables are written to the older copy. -/
  | learnedTablesWrite (dt : Nat) (ok : Bool)
  /-- R558. The running record is written as draft at state changes and every second. -/
  | draftWrite (dt : Nat) (ok : Bool)
  /-- R552. A quiet interval lasts LOG_QUIET_MAX and is cast. -/
  | quietMaxReached (dt : Nat)
  /-- R563. A trigger starts a capture in a free or unpinned slot. -/
  | traceTrigger (dt : Nat) (ok : Bool)
  /-- R563. A trace sample is taken and written each period. -/
  | traceSample (dt : Nat) (ok : Bool)
  /-- R563. 254 samples are written and the trace becomes complete. -/
  | traceComplete (dt : Nat) (ok : Bool)
  /-- R15. A parameter write without a row of its own takes effect at its block boundary. -/
  | registerWrite (dt : Nat)
  /-- R68. VHV rises through 13.0 V and the smart-power die leaves lock-out, so jury channels, safe outputs and gates become available again. -/
  | smartPowerLockoutEnd (dt : Nat)
  /-- R582. The keep clock has counted within 1 % of the main clock for 1 s and the keep-clock-lost condition clears. -/
  | keepClockRestored (dt : Nat)
  /-- R82. A reset from the enabled debug port resets the controller die with cause bit 7. -/
  | debugReset (dt : Nat)
  /-- R509. An error detected while receiving raises the receive error counter and can change the controller's error state. -/
  | busReceiveError (dt : Nat) (bus : Nat) (error : Nat) (dominant : Bool)
  /-- R488. A mode-2 controller meets a CAN XL frame, counts a protocol exception and integrates again. -/
  | protocolException (dt : Nat) (bus : Nat)
  /-- R514. A controller that is integrating sees the bus idle sequence and becomes error-active, which lets a potential time master listen as a slave. -/
  | busIntegrationComplete (dt : Nat) (bus : Nat)
  /-- R172. DOOR_RECLOSE_DELAY after an obstacle returned the step to Deployed, with no step-nose contact, the step retracts again. -/
  | stepRetractAgain (dt : Nat)
  deriving DecidableEq, Repr

end Sys2Proof
end

