-- ==== Sys2Proof/Decode.lean ====
section
/-! DEFINITION. Commands from table words. The opcode table gives its rows no bits: a command is not spelled by a word. -/

namespace Sys2Proof

/-- The command that a word of the table spells: none, since no row gives bits. -/
def decodeTableWord (_nbits _w : Nat) : Option Instr := none

end Sys2Proof
end

