-- ==== Sys2Proof/Machine/HostCmd.lean ====
section
/-! DEFINITION. The host commands as the command engine takes them: one constructor per opcode and body of the manual (R119, R614 and the body tables of the chapters). -/

namespace Sys2Proof.Machine

/-- A host command with its body fields, numbers at the width of their fields. Fields the manual calls signed hold the bits of the field. -/
inductive HostCmd where
  /-- R614. -/
  | identify
  /-- R614. -/
  | status
  /-- R131. -/
  | reset
  /-- R87. -/
  | park
  /-- R87. -/
  | dormant
  /-- R135. -/
  | eventMask (mask : Nat)
  /-- R614. -/
  | eventCounts (group : Nat)
  /-- R614. -/
  | journalRead
  /-- R119. -/
  | fwLoadBegin (bank : Nat) (length : Nat)
  /-- R119. -/
  | fwLoadData (off : Nat) (bytes : List Byte)
  /-- R119. -/
  | fwLoadEnd (crc : Nat)
  /-- R119. -/
  | fwActivate (bank : Nat)
  /-- R117. -/
  | cancel (target : Nat)
  /-- R614. -/
  | echo (bytes : List Byte)
  /-- R121. -/
  | paramRead (ids : List Nat)
  /-- R121. -/
  | paramWrite (pairs : List (Nat × Nat))
  /-- R122. -/
  | paramGroupStage (group : Nat) (values : List Nat)
  /-- R123. -/
  | paramCommit (groups : List Nat)
  /-- R125. -/
  | paramGroupDiscard (groups : List Nat)
  /-- R126. -/
  | paramInfo (id : Nat)
  /-- R127. -/
  | paramImageSave
  /-- R127. -/
  | paramImageRead (off : Nat) (length : Nat)
  /-- R127. -/
  | paramImageLoad (off : Nat) (bytes : List Byte)
  /-- R127. -/
  | paramImageInstall (crc : Nat)
  /-- R127. -/
  | paramFactory
  /-- R614. -/
  | paramList (block : Nat) (start : Nat)
  /-- R149. -/
  | doorRelease
  /-- R150. -/
  | doorOpen (start : Nat)
  /-- R153. -/
  | doorClose (start : Nat)
  /-- R162. -/
  | doorHold (time : Nat)
  /-- R174. -/
  | doorIsolate
  /-- R175. -/
  | doorRestore
  /-- R163. -/
  | landfallAnnounce (side : Nat)
  /-- R169. -/
  | landfallWithdraw
  /-- R171. -/
  | stepDeploy
  /-- R171. -/
  | stepRetract
  /-- R178. -/
  | maintenanceEnter
  /-- R178. -/
  | maintenanceExit
  /-- R180. -/
  | doorFaultClear
  /-- R186. -/
  | doorState
  /-- R226. -/
  | axisHome (axis : Nat)
  /-- R226. -/
  | axisMove (axis : Nat) (target : Nat)
  /-- R226. -/
  | axisStop (axis : Nat)
  /-- R211. -/
  | axisLink (link : Nat)
  /-- R258. -/
  | loopMode (axis : Nat) (mode : Nat)
  /-- R259. -/
  | loopManual (axis : Nat) (point : Nat)
  /-- R262. -/
  | injectStart (axis : Nat) (loop : Nat) (point : Nat) (signal : Nat) (amplitude : Nat) (p1 : Nat) (p2 : Nat) (p3 : Nat) (respLoop : Nat) (respPoint : Nat) (decimation : Nat)
  /-- R267. -/
  | captureRead (off : Nat) (count : Nat)
  /-- R227. -/
  | axisState (axis : Nat)
  /-- R268. -/
  | pilotFlags (axis : Nat)
  /-- R241. -/
  | pilotFlagsClear (axis : Nat) (mask : Nat)
  /-- R267. -/
  | tableRead (table : Nat) (dir : Nat) (off : Nat) (count : Nat)
  /-- R254. -/
  | tableWrite (table : Nat) (dir : Nat) (off : Nat) (entries : List Nat)
  /-- R303. -/
  | latchRead
  /-- R297. -/
  | compareArm (unit : Nat) (action : Nat) (filter : Nat) (position : Nat)
  /-- R328. -/
  | driveStatus
  /-- R366, opcode 0x40: SKIN_PORT_SUSPEND, SKIN_PORT_RESUME and SKIN_PORT_RETRAIN are its actions 0, 1 and 2. -/
  | skinPortSet (port action : Nat)
  /-- R368. -/
  | skinPortStatus (port : Nat)
  /-- R369. -/
  | skinTileList (port : Nat)
  /-- R370. -/
  | skinFrameRead (port : Nat) (map : Nat) (alongFirst : Nat) (alongCount : Nat) (rowFirst : Nat) (rowCount : Nat)
  /-- R350. -/
  | skinBaselineRebuild (ports : Nat)
  /-- R401. -/
  | contactList (port : Nat) (kind : Nat) (first : Nat) (count : Nat)
  /-- R403. -/
  | obstacleState
  /-- R404. -/
  | dragState
  /-- R371. -/
  | legacyEdgeStatus
  /-- R410. -/
  | lchSet (channels : Nat) (states : Nat)
  /-- R430. -/
  | lchStatus
  /-- R415. -/
  | lchUnlatch (channels : Nat)
  /-- R418. -/
  | lchOffTest (channels : Nat)
  /-- R427. -/
  | juryMaskSet (pair : Nat) (mask : Nat) (map : Nat)
  /-- R431. -/
  | juryStatus
  /-- R481. -/
  | sealStatus
  /-- R480. -/
  | sealConfirm (value : Nat) (grade : Nat)
  /-- R482. -/
  | safeIo
  /-- R483. -/
  | safeFunctions
  /-- R484. -/
  | telegramStatus
  /-- R485. -/
  | binDiag
  /-- R479. -/
  | debugEnable
  /-- R517. -/
  | busStatus (bus : Nat)
  /-- R512. -/
  | busRecover (bus : Nat) (timeout : Nat)
  /-- R504. -/
  | busSend (bus : Nat) (object : Nat) (ident : Nat) (format : Nat) (sdt : Nat) (vcid : Nat) (sec : Nat) (af : Nat) (length : Nat) (lifetime : Nat) (bytes : List Byte)
  /-- R499. -/
  | busRead (bus : Nat) (kind : Nat) (index : Nat) (consume : Nat) (off : Nat) (count : Nat)
  /-- R506. -/
  | busTxCancel (bus : Nat) (object : Nat)
  /-- R519. -/
  | busFilterLoad (bus : Nat) (part : Nat) (first : Nat) (bytes : List Byte)
  /-- R519. -/
  | busFilterApply (bus : Nat)
  /-- R519. -/
  | busFilterDiscard (bus : Nat)
  /-- R546. -/
  | chronSet (time : Nat)
  /-- R547. -/
  | chronRead
  /-- R573. -/
  | logStatus
  /-- R570. -/
  | logRead (first : Nat) (count : Nat)
  /-- R571. -/
  | traceList (first : Nat) (count : Nat)
  /-- R572. -/
  | traceRead (slot : Nat) (off : Nat) (count : Nat)
  /-- R568. -/
  | traceCapture (period : Nat) (pre : Nat) (pin : Nat)
  /-- R565. -/
  | tracePin (slot : Nat) (action : Nat)
  /-- R569. -/
  | logErase (what : Nat)
  deriving DecidableEq, Repr

end Sys2Proof.Machine
end

