-- ==== Sys2Proof/Machine/Operands.lean ====
section
/-! DEFINITION. The bodies of the host commands: opcode of each, packing of its fields in the order of the body tables, and reading a body back with every reserved field held to 0 (R12, R119, R614 and the body tables of the chapters). -/

namespace Sys2Proof.Machine

/-- The command code of a host command (R119). -/
def opcodeOf : HostCmd → Nat
  | .identify => 0x00
  | .status => 0x01
  | .reset => 0x02
  | .park => 0x03
  | .dormant => 0x04
  | .eventMask _ => 0x05
  | .eventCounts _ => 0x06
  | .journalRead => 0x07
  | .fwLoadBegin _ _ => 0x08
  | .fwLoadData _ _ => 0x09
  | .fwLoadEnd _ => 0x0A
  | .fwActivate _ => 0x0B
  | .cancel _ => 0x0C
  | .echo _ => 0x0D
  | .paramRead _ => 0x10
  | .paramWrite _ => 0x11
  | .paramGroupStage _ _ => 0x12
  | .paramCommit _ => 0x13
  | .paramGroupDiscard _ => 0x14
  | .paramInfo _ => 0x15
  | .paramImageSave => 0x16
  | .paramImageRead _ _ => 0x17
  | .paramImageLoad _ _ => 0x18
  | .paramImageInstall _ => 0x19
  | .paramFactory => 0x1A
  | .paramList _ _ => 0x1B
  | .doorRelease => 0x20
  | .doorOpen _ => 0x21
  | .doorClose _ => 0x22
  | .doorHold _ => 0x23
  | .doorIsolate => 0x24
  | .doorRestore => 0x25
  | .landfallAnnounce _ => 0x26
  | .landfallWithdraw => 0x27
  | .stepDeploy => 0x28
  | .stepRetract => 0x29
  | .maintenanceEnter => 0x2A
  | .maintenanceExit => 0x2B
  | .doorFaultClear => 0x2C
  | .doorState => 0x2D
  | .axisHome _ => 0x30
  | .axisMove _ _ => 0x31
  | .axisStop _ => 0x32
  | .axisLink _ => 0x33
  | .loopMode _ _ => 0x34
  | .loopManual _ _ => 0x35
  | .injectStart _ _ _ _ _ _ _ _ _ _ _ => 0x36
  | .captureRead _ _ => 0x37
  | .axisState _ => 0x38
  | .pilotFlags _ => 0x39
  | .pilotFlagsClear _ _ => 0x3A
  | .tableRead _ _ _ _ => 0x3B
  | .tableWrite _ _ _ _ => 0x3C
  | .latchRead => 0x3D
  | .compareArm _ _ _ _ => 0x3E
  | .driveStatus => 0x3F
  | .skinPortSet _ _ => 0x40
  | .skinPortStatus _ => 0x41
  | .skinTileList _ => 0x42
  | .skinFrameRead _ _ _ _ _ _ => 0x43
  | .skinBaselineRebuild _ => 0x44
  | .contactList _ _ _ _ => 0x45
  | .obstacleState => 0x46
  | .dragState => 0x47
  | .legacyEdgeStatus => 0x48
  | .lchSet _ _ => 0x50
  | .lchStatus => 0x51
  | .lchUnlatch _ => 0x52
  | .lchOffTest _ => 0x53
  | .juryMaskSet _ _ _ => 0x54
  | .juryStatus => 0x55
  | .sealStatus => 0x60
  | .sealConfirm _ _ => 0x61
  | .safeIo => 0x62
  | .safeFunctions => 0x63
  | .telegramStatus => 0x64
  | .binDiag => 0x65
  | .debugEnable => 0x66
  | .busStatus _ => 0x70
  | .busRecover _ _ => 0x71
  | .busSend _ _ _ _ _ _ _ _ _ _ _ => 0x72
  | .busRead _ _ _ _ _ _ => 0x73
  | .busTxCancel _ _ => 0x74
  | .busFilterLoad _ _ _ _ => 0x75
  | .busFilterApply _ => 0x75
  | .busFilterDiscard _ => 0x75
  | .chronSet _ => 0x76
  | .chronRead => 0x77
  | .logStatus => 0x78
  | .logRead _ _ => 0x79
  | .traceList _ _ => 0x7A
  | .traceRead _ _ _ => 0x7B
  | .traceCapture _ _ _ => 0x7C
  | .tracePin _ _ => 0x7D
  | .logErase _ => 0x7E

/-! ### Packing -/

/-- Fields packed in order, each as its number of bytes and its value (R9, R614). -/
def packFields : List (Nat × Nat) → List Byte
  | [] => []
  | (w, v) :: t => leBytes w v ++ packFields t

/-- Numbers packed one after the other, each in `w` bytes. -/
def packWords (w : Nat) : List Nat → List Byte
  | [] => []
  | v :: t => leBytes w v ++ packWords w t

/-- ID and value pairs packed one after the other (PARAM_WRITE). -/
def packPairs : List (Nat × Nat) → List Byte
  | [] => []
  | (a, v) :: t => leBytes 2 a ++ (leBytes 4 v ++ packPairs t)

/-- The body of a host command. -/
def encodeBody : HostCmd → List Byte
  | .identify => []
  | .status => []
  | .reset => []
  | .park => []
  | .dormant => []
  | .eventMask m => packFields [(24, m)]
  | .eventCounts g => packFields [(1, g), (3, 0)]
  | .journalRead => []
  | .fwLoadBegin b n => packFields [(1, b), (3, 0), (4, n)]
  | .fwLoadData o bs => packFields [(4, o)] ++ bs
  | .fwLoadEnd c => packFields [(4, c)]
  | .fwActivate b => packFields [(1, b), (3, 0)]
  | .cancel t => packFields [(1, t), (3, 0)]
  | .echo bs => bs
  | .paramRead ids => packWords 2 ids
  | .paramWrite ps => packPairs ps
  | .paramGroupStage g vs => packFields [(2, g), (1, vs.length), (1, 0)] ++ packWords 4 vs
  | .paramCommit gs => packFields [(1, gs.length), (1, 0)] ++ packWords 2 gs
  | .paramGroupDiscard gs => packWords 2 gs
  | .paramInfo i => packFields [(2, i)]
  | .paramImageSave => []
  | .paramImageRead o n => packFields [(4, o), (2, n)]
  | .paramImageLoad o bs => packFields [(4, o)] ++ bs
  | .paramImageInstall c => packFields [(4, c)]
  | .paramFactory => []
  | .paramList b s => packFields [(1, b), (1, 0), (2, s)]
  | .doorRelease => []
  | .doorOpen t => packFields [(8, t)]
  | .doorClose t => packFields [(8, t)]
  | .doorHold t => packFields [(4, t)]
  | .doorIsolate => []
  | .doorRestore => []
  | .landfallAnnounce s => packFields [(1, s), (3, 0)]
  | .landfallWithdraw => []
  | .stepDeploy => []
  | .stepRetract => []
  | .maintenanceEnter => []
  | .maintenanceExit => []
  | .doorFaultClear => []
  | .doorState => []
  | .axisHome a => packFields [(1, a), (3, 0)]
  | .axisMove a t => packFields [(1, a), (3, 0), (4, t)]
  | .axisStop a => packFields [(1, a), (3, 0)]
  | .axisLink l => packFields [(1, l), (3, 0)]
  | .loopMode a m => packFields [(1, a), (1, m), (2, 0)]
  | .loopManual a p => packFields [(1, a), (3, 0), (4, p)]
  | .injectStart a l p s amp p1 p2 p3 rl rp dec =>
    packFields [(1, a), (1, l), (1, p), (1, s), (4, amp), (4, p1), (4, p2), (4, p3), (1, rl), (1, rp), (1, dec), (1, 0)]
  | .captureRead o n => packFields [(2, o), (2, n)]
  | .axisState a => packFields [(1, a), (3, 0)]
  | .pilotFlags a => packFields [(1, a), (3, 0)]
  | .pilotFlagsClear a m => packFields [(1, a), (3, 0), (4, m)]
  | .tableRead t d o n => packFields [(1, t), (1, d), (2, 0), (2, o), (2, n)]
  | .tableWrite t d o es => packFields [(1, t), (1, d), (2, 0), (2, o), (2, es.length)] ++ packWords 2 es
  | .latchRead => []
  | .compareArm u a f p => packFields [(1, u), (1, a), (1, f), (1, 0), (4, p)]
  | .driveStatus => []
  | .skinPortSet p a => packFields [(1, p), (1, a), (2, 0)]
  | .skinPortStatus p => packFields [(1, p), (3, 0)]
  | .skinTileList p => packFields [(1, p), (3, 0)]
  | .skinFrameRead p m a0 an r0 rn => packFields [(1, p), (1, m), (2, a0), (2, an), (1, r0), (1, rn)]
  | .skinBaselineRebuild m => packFields [(1, m), (3, 0)]
  | .contactList p k f n => packFields [(1, p), (1, k), (1, f), (1, n)]
  | .obstacleState => []
  | .dragState => []
  | .legacyEdgeStatus => []
  | .lchSet c s => packFields [(2, c), (2, s)]
  | .lchStatus => []
  | .lchUnlatch c => packFields [(2, c), (2, 0)]
  | .lchOffTest c => packFields [(2, c), (2, 0)]
  | .juryMaskSet p m k => packFields [(1, p), (1, 0), (2, m), (3, k), (1, 0)]
  | .juryStatus => []
  | .sealStatus => []
  | .sealConfirm v g => packFields [(4, v), (1, g), (3, 0)]
  | .safeIo => []
  | .safeFunctions => []
  | .telegramStatus => []
  | .binDiag => []
  | .debugEnable => []
  | .busStatus b => packFields [(1, b), (3, 0)]
  | .busRecover b t => packFields [(1, b), (1, 0), (2, t)]
  | .busSend b o i f sdt vc sec af n life bs =>
    packFields [(1, b), (1, 0), (2, o), (4, i), (1, f), (1, sdt), (1, vc), (1, sec), (4, af), (2, n), (2, life)] ++ bs
  | .busRead b k i c o n => packFields [(1, b), (1, k), (1, i), (1, c), (2, o), (2, n)]
  | .busTxCancel b o => packFields [(1, b), (1, 0), (2, o)]
  | .busFilterLoad b p f bs =>
    if p = 1 ∨ p = 2 then packFields [(1, b), (1, p), (2, 0), (1, f), (1, bs.length / 20), (2, 0)] ++ bs
    else packFields [(1, b), (1, p), (2, 0)] ++ bs
  | .busFilterApply b => packFields [(1, b), (1, 3), (2, 0)]
  | .busFilterDiscard b => packFields [(1, b), (1, 4), (2, 0)]
  | .chronSet t => packFields [(8, t)]
  | .chronRead => []
  | .logStatus => []
  | .logRead f n => packFields [(4, f), (1, n), (3, 0)]
  | .traceList f n => packFields [(2, f), (1, n), (1, 0)]
  | .traceRead s o n => packFields [(2, s), (2, o), (2, n), (2, 0)]
  | .traceCapture t p k => packFields [(2, t), (1, p), (1, k)]
  | .tracePin s a => packFields [(2, s), (1, a), (1, 0)]
  | .logErase w => packFields [(1, w), (3, 0)]

/-! ### Reading -/

/-- Fields of the given widths from the front of a body, and what follows them; none where the body is too short. -/
def takeFields : List Nat → List Byte → Option (List Nat × List Byte)
  | [], bs => some ([], bs)
  | w :: ws, bs =>
    if bs.length < w then none
    else match takeFields ws (bs.drop w) with
      | some (vs, r) => some (leNat (bs.take w) :: vs, r)
      | none => none

/-- `n` numbers of `w` bytes each from the front of a body. -/
def takeWords (w : Nat) : Nat → List Byte → List Nat
  | 0, _ => []
  | n + 1, bs => leNat (bs.take w) :: takeWords w n (bs.drop w)

/-- `n` ID and value pairs from the front of a body. -/
def takePairs : Nat → List Byte → List (Nat × Nat)
  | 0, _ => []
  | n + 1, bs => (leNat (bs.take 2), leNat ((bs.drop 2).take 4)) :: takePairs n (bs.drop 6)

/-- A body that is a list of `lo` to `hi` entries of `w` bytes. -/
def listBody (w lo hi : Nat) (bs : List Byte) : Option Nat :=
  if bs.length % w = 0 ∧ lo ≤ bs.length / w ∧ bs.length / w ≤ hi then some (bs.length / w) else none

/-- A command with no body. -/
def noBody (c : HostCmd) (bs : List Byte) : Option HostCmd := if bs = [] then some c else none

/-- A body of one byte and three reserved bytes. -/
def byteBody (f : Nat → HostCmd) (bs : List Byte) : Option HostCmd :=
  match takeFields [1, 3] bs with
  | some ([a, 0], []) => some (f a)
  | _ => none

/-- Bodies of system commands, 0x00 to 0x0F (R614). -/
def parseSystem (op : Nat) (bs : List Byte) : Option HostCmd :=
  match op with
  | 0x00 => noBody .identify bs
  | 0x01 => noBody .status bs
  | 0x02 => noBody .reset bs
  | 0x03 => noBody .park bs
  | 0x04 => noBody .dormant bs
  | 0x05 => match takeFields [24] bs with
    | some ([m], []) => some (.eventMask m)
    | _ => none
  | 0x06 => byteBody .eventCounts bs
  | 0x07 => noBody .journalRead bs
  | 0x08 => match takeFields [1, 3, 4] bs with
    | some ([b, 0, n], []) => some (.fwLoadBegin b n)
    | _ => none
  | 0x09 => match takeFields [4] bs with
    | some ([o], r) => if 1 ≤ r.length ∧ r.length ≤ 1016 then some (.fwLoadData o r) else none
    | _ => none
  | 0x0A => match takeFields [4] bs with
    | some ([c], []) => some (.fwLoadEnd c)
    | _ => none
  | 0x0B => byteBody .fwActivate bs
  | 0x0C => byteBody .cancel bs
  | 0x0D => if bs.length ≤ 1020 then some (.echo bs) else none
  | _ => none

/-- Bodies of parameter commands, 0x10 to 0x1F (R122, R123, R614). -/
def parseParam (op : Nat) (bs : List Byte) : Option HostCmd :=
  match op with
  | 0x10 => (listBody 2 1 64 bs).map fun n => .paramRead (takeWords 2 n bs)
  | 0x11 => (listBody 6 1 32 bs).map fun n => .paramWrite (takePairs n bs)
  | 0x12 => match takeFields [2, 1, 1] bs with
    | some ([g, n, 0], r) => if r.length = 4 * n then some (.paramGroupStage g (takeWords 4 n r)) else none
    | _ => none
  | 0x13 => match takeFields [1, 1] bs with
    | some ([n, 0], r) => if 1 ≤ n ∧ n ≤ 8 ∧ r.length = 2 * n then some (.paramCommit (takeWords 2 n r)) else none
    | _ => none
  | 0x14 => (listBody 2 1 8 bs).map fun n => .paramGroupDiscard (takeWords 2 n bs)
  | 0x15 => match takeFields [2] bs with
    | some ([i], []) => some (.paramInfo i)
    | _ => none
  | 0x16 => noBody .paramImageSave bs
  | 0x17 => match takeFields [4, 2] bs with
    | some ([o, n], []) => some (.paramImageRead o n)
    | _ => none
  | 0x18 => match takeFields [4] bs with
    | some ([o], r) => if 1 ≤ r.length ∧ r.length ≤ 1016 then some (.paramImageLoad o r) else none
    | _ => none
  | 0x19 => match takeFields [4] bs with
    | some ([c], []) => some (.paramImageInstall c)
    | _ => none
  | 0x1A => noBody .paramFactory bs
  | 0x1B => match takeFields [1, 1, 2] bs with
    | some ([b, 0, s], []) => some (.paramList b s)
    | _ => none
  | _ => none

/-- Bodies of doorway commands, 0x20 to 0x2F (R184). -/
def parseDoor (op : Nat) (bs : List Byte) : Option HostCmd :=
  match op with
  | 0x20 => noBody .doorRelease bs
  | 0x21 => match takeFields [8] bs with
    | some ([t], []) => some (.doorOpen t)
    | _ => none
  | 0x22 => match takeFields [8] bs with
    | some ([t], []) => some (.doorClose t)
    | _ => none
  | 0x23 => match takeFields [4] bs with
    | some ([t], []) => some (.doorHold t)
    | _ => none
  | 0x24 => noBody .doorIsolate bs
  | 0x25 => noBody .doorRestore bs
  | 0x26 => byteBody .landfallAnnounce bs
  | 0x27 => noBody .landfallWithdraw bs
  | 0x28 => noBody .stepDeploy bs
  | 0x29 => noBody .stepRetract bs
  | 0x2A => noBody .maintenanceEnter bs
  | 0x2B => noBody .maintenanceExit bs
  | 0x2C => noBody .doorFaultClear bs
  | 0x2D => noBody .doorState bs
  | _ => none

/-- Bodies of axis, loop and test commands, 0x30 to 0x3F (R225, R266, R302). -/
def parseAxis (op : Nat) (bs : List Byte) : Option HostCmd :=
  match op with
  | 0x30 => byteBody .axisHome bs
  | 0x31 => match takeFields [1, 3, 4] bs with
    | some ([a, 0, t], []) => some (.axisMove a t)
    | _ => none
  | 0x32 => byteBody .axisStop bs
  | 0x33 => byteBody .axisLink bs
  | 0x34 => match takeFields [1, 1, 2] bs with
    | some ([a, m, 0], []) => some (.loopMode a m)
    | _ => none
  | 0x35 => match takeFields [1, 3, 4] bs with
    | some ([a, 0, p], []) => some (.loopManual a p)
    | _ => none
  | 0x36 => match takeFields [1, 1, 1, 1, 4, 4, 4, 4, 1, 1, 1, 1] bs with
    | some ([a, l, p, s, amp, p1, p2, p3, rl, rp, dec, 0], []) => some (.injectStart a l p s amp p1 p2 p3 rl rp dec)
    | _ => none
  | 0x37 => match takeFields [2, 2] bs with
    | some ([o, n], []) => some (.captureRead o n)
    | _ => none
  | 0x38 => byteBody .axisState bs
  | 0x39 => byteBody .pilotFlags bs
  | 0x3A => match takeFields [1, 3, 4] bs with
    | some ([a, 0, m], []) => some (.pilotFlagsClear a m)
    | _ => none
  | 0x3B => match takeFields [1, 1, 2, 2, 2] bs with
    | some ([t, d, 0, o, n], []) => some (.tableRead t d o n)
    | _ => none
  | 0x3C => match takeFields [1, 1, 2, 2, 2] bs with
    | some ([t, d, 0, o, n], r) => if r.length = 2 * n then some (.tableWrite t d o (takeWords 2 n r)) else none
    | _ => none
  | 0x3D => noBody .latchRead bs
  | 0x3E => match takeFields [1, 1, 1, 1, 4] bs with
    | some ([u, a, f, 0, p], []) => some (.compareArm u a f p)
    | _ => none
  | 0x3F => noBody .driveStatus bs
  | _ => none

/-- Bodies of skin and obstacle commands, 0x40 to 0x4F (R366, R400). -/
def parseSkin (op : Nat) (bs : List Byte) : Option HostCmd :=
  match op with
  | 0x40 => match takeFields [1, 1, 2] bs with
    | some ([p, a, 0], []) => some (.skinPortSet p a)
    | _ => none
  | 0x41 => byteBody .skinPortStatus bs
  | 0x42 => byteBody .skinTileList bs
  | 0x43 => match takeFields [1, 1, 2, 2, 1, 1] bs with
    | some ([p, m, a0, an, r0, rn], []) => some (.skinFrameRead p m a0 an r0 rn)
    | _ => none
  | 0x44 => match takeFields [1, 3] bs with
    | some ([m, 0], []) => if m < 8 then some (.skinBaselineRebuild m) else none
    | _ => none
  | 0x45 => match takeFields [1, 1, 1, 1] bs with
    | some ([p, k, f, n], []) => some (.contactList p k f n)
    | _ => none
  | 0x46 => noBody .obstacleState bs
  | 0x47 => noBody .dragState bs
  | 0x48 => noBody .legacyEdgeStatus bs
  | _ => none

/-- Bodies of load channel and jury commands, 0x50 to 0x5F (R428). -/
def parseLoad (op : Nat) (bs : List Byte) : Option HostCmd :=
  match op with
  | 0x50 => match takeFields [2, 2] bs with
    | some ([c, s], []) => if c < 4096 ∧ s < 4096 then some (.lchSet c s) else none
    | _ => none
  | 0x51 => noBody .lchStatus bs
  | 0x52 => match takeFields [2, 2] bs with
    | some ([c, 0], []) => if c < 4096 then some (.lchUnlatch c) else none
    | _ => none
  | 0x53 => match takeFields [2, 2] bs with
    | some ([c, 0], []) => if c < 4096 then some (.lchOffTest c) else none
    | _ => none
  | 0x54 => match takeFields [1, 1, 2, 3, 1] bs with
    | some ([p, 0, m, k, 0], []) => some (.juryMaskSet p m k)
    | _ => none
  | 0x55 => noBody .juryStatus bs
  | _ => none

/-- Bodies of safety and commissioning commands, 0x60 to 0x6F (R478). -/
def parseSafety (op : Nat) (bs : List Byte) : Option HostCmd :=
  match op with
  | 0x60 => noBody .sealStatus bs
  | 0x61 => match takeFields [4, 1, 3] bs with
    | some ([v, g, 0], []) => some (.sealConfirm v g)
    | _ => none
  | 0x62 => noBody .safeIo bs
  | 0x63 => noBody .safeFunctions bs
  | 0x64 => noBody .telegramStatus bs
  | 0x65 => noBody .binDiag bs
  | 0x66 => noBody .debugEnable bs
  | _ => none

/-- The body of BUS_FILTER_LOAD by its section (R519). -/
def parseFilter (b p : Nat) (r : List Byte) : Option HostCmd :=
  match p with
  | 0 => if r.length = 28 then some (.busFilterLoad b 0 0 r) else none
  | 1 => match takeFields [1, 1, 2] r with
    | some ([f, n, 0], e) => if e.length = 20 * n then some (.busFilterLoad b 1 f e) else none
    | _ => none
  | 2 => match takeFields [1, 1, 2] r with
    | some ([f, n, 0], e) => if e.length = 20 * n then some (.busFilterLoad b 2 f e) else none
    | _ => none
  | 3 => if r = [] then some (.busFilterApply b) else none
  | 4 => if r = [] then some (.busFilterDiscard b) else none
  | _ => none

/-- Bodies of bus and time commands, 0x70 to 0x77 (R515, R519, R546). -/
def parseBus (op : Nat) (bs : List Byte) : Option HostCmd :=
  match op with
  | 0x70 => byteBody .busStatus bs
  | 0x71 => match takeFields [1, 1, 2] bs with
    | some ([b, 0, t], []) => some (.busRecover b t)
    | _ => none
  | 0x72 => match takeFields [1, 1, 2, 4, 1, 1, 1, 1, 4, 2, 2] bs with
    | some ([b, 0, o, i, f, sdt, vc, sec, af, n, life], r) =>
      if sec < 2 then some (.busSend b o i f sdt vc sec af n life r) else none
    | _ => none
  | 0x73 => match takeFields [1, 1, 1, 1, 2, 2] bs with
    | some ([b, k, i, c, o, n], []) => if c < 2 then some (.busRead b k i c o n) else none
    | _ => none
  | 0x74 => match takeFields [1, 1, 2] bs with
    | some ([b, 0, o], []) => some (.busTxCancel b o)
    | _ => none
  | 0x75 => match takeFields [1, 1, 2] bs with
    | some ([b, p, 0], r) => parseFilter b p r
    | _ => none
  | 0x76 => match takeFields [8] bs with
    | some ([t], []) => some (.chronSet t)
    | _ => none
  | 0x77 => noBody .chronRead bs
  | _ => none

/-- Bodies of Log commands, 0x78 to 0x7F (R567). -/
def parseLog (op : Nat) (bs : List Byte) : Option HostCmd :=
  match op with
  | 0x78 => noBody .logStatus bs
  | 0x79 => match takeFields [4, 1, 3] bs with
    | some ([f, n, 0], []) => some (.logRead f n)
    | _ => none
  | 0x7A => match takeFields [2, 1, 1] bs with
    | some ([f, n, 0], []) => some (.traceList f n)
    | _ => none
  | 0x7B => match takeFields [2, 2, 2, 2] bs with
    | some ([s, o, n, 0], []) => some (.traceRead s o n)
    | _ => none
  | 0x7C => match takeFields [2, 1, 1] bs with
    | some ([t, p, k], []) => some (.traceCapture t p k)
    | _ => none
  | 0x7D => match takeFields [2, 1, 1] bs with
    | some ([s, a, 0], []) => some (.tracePin s a)
    | _ => none
  | 0x7E => match takeFields [1, 3] bs with
    | some ([w, 0], []) => if 1 ≤ w ∧ w < 8 then some (.logErase w) else none
    | _ => none
  | _ => none

/-- A body read as the command of an opcode; none where it does not fit its layout or a reserved field is not 0 (FORMAT). -/
def parseBody (op : Nat) (bs : List Byte) : Option HostCmd :=
  if op < 0x10 then parseSystem op bs
  else if op < 0x20 then parseParam op bs
  else if op < 0x30 then parseDoor op bs
  else if op < 0x40 then parseAxis op bs
  else if op < 0x50 then parseSkin op bs
  else if op < 0x60 then parseLoad op bs
  else if op < 0x70 then parseSafety op bs
  else if op < 0x78 then parseBus op bs
  else parseLog op bs

/-- A command code that the opcode map defines (R119). -/
def knownOpcode (op : Nat) : Bool :=
  decide (op ≤ 0x0D) || (decide (0x10 ≤ op) && decide (op ≤ 0x1B)) || (decide (0x20 ≤ op) && decide (op ≤ 0x2D))
    || (decide (0x30 ≤ op) && decide (op ≤ 0x48)) || (decide (0x50 ≤ op) && decide (op ≤ 0x55))
    || (decide (0x60 ≤ op) && decide (op ≤ 0x66)) || (decide (0x70 ≤ op) && decide (op ≤ 0x7E))

/-- Query opcodes; every other defined opcode is an order (R119). -/
def queryOpcodes : List Nat :=
  [0x00, 0x01, 0x06, 0x07, 0x0D, 0x10, 0x15, 0x17, 0x1B, 0x2D, 0x37, 0x38, 0x39, 0x3B, 0x3D, 0x3F, 0x41, 0x42, 0x43, 0x45, 0x46, 0x47,
    0x48, 0x51, 0x55, 0x60, 0x62, 0x63, 0x64, 0x65, 0x70, 0x73, 0x77, 0x78, 0x79, 0x7A, 0x7B]

/-- Orders that CANCEL can end, OC (R117, R119). -/
def cancellable : List Nat := [0x08, 0x09, 0x36, 0x44, 0x53, 0x7C]

/-- Data lengths of a CAN FD frame (R488). -/
def fdLengths : List Nat := [0, 1, 2, 3, 4, 5, 6, 7, 8, 12, 16, 20, 24, 32, 48, 64]

/-- The identifier and data fields of BUS_SEND are ones that R515 and R488 define. -/
def sendFields (ident format sdt vcid sec af length : Nat) (data : List Byte) : Bool :=
  let ext := bitAt ident 31
  let idOk := decide (bitsAt ident 30 29 = 0) && (ext || decide (bitsAt ident 28 0 < 0x800))
  let xl := decide (format = 4)
  let count : Bool :=
    if format = 0 ∨ format = 1 then decide (length ≤ 8)
    else if xl then decide (1 ≤ length) && decide (length ≤ 1004)
    else fdLengths.contains length
  decide (format ≤ 4) && idOk && count && (if format = 1 then data.isEmpty else decide (data.length = length))
    && (if xl then !ext else decide (sdt = 0) && decide (vcid = 0) && decide (sec = 0) && decide (af = 0))

/-- Every coded field of a command holds a code that the manual defines; another is refused with FORMAT (R118). -/
def encodingOk : HostCmd → Bool
  | .fwLoadBegin b _ => decide (b ≤ 1)
  | .fwActivate b => decide (b ≤ 1)
  | .landfallAnnounce s => decide (s ≤ 2)
  | .axisHome a => decide (a ≤ 1)
  | .axisMove a _ => decide (a ≤ 1)
  | .axisStop a => decide (a ≤ 2)
  | .axisLink l => decide (l ≤ 1)
  | .loopMode a m => decide (a ≤ 1) && decide (m ≤ 2)
  | .loopManual a _ => decide (a ≤ 1)
  | .injectStart a _ _ s _ _ _ _ _ _ _ => decide (a ≤ 1) && decide (s ≤ 2)
  | .axisState a => decide (a ≤ 1)
  | .pilotFlags a => decide (a ≤ 1)
  | .pilotFlagsClear a _ => decide (a ≤ 1)
  | .tableRead t d _ _ => (decide (t ≤ 2) || decide (t = 8)) && decide (d ≤ 1)
  | .tableWrite t d _ _ => (decide (t ≤ 2) || decide (t = 8)) && decide (d ≤ 1)
  | .skinPortSet p a => decide (p ≤ 2) && decide (a ≤ 2)
  | .skinPortStatus p => decide (p ≤ 2)
  | .skinTileList p => decide (p ≤ 2)
  | .skinFrameRead p m _ _ _ _ => decide (p ≤ 2) && decide (m ≤ 4)
  | .busStatus b => decide (b ≤ 1)
  | .busRecover b _ => decide (b ≤ 1)
  | .busSend b _ i f sdt vc sec af n _ data => decide (b ≤ 1) && sendFields i f sdt vc sec af n data
  | .busRead b k _ _ _ _ => decide (b ≤ 1) && decide (k ≤ 1)
  | .busTxCancel b _ => decide (b ≤ 1)
  | .busFilterLoad b _ _ _ => decide (b ≤ 1)
  | .busFilterApply b => decide (b ≤ 1)
  | .busFilterDiscard b => decide (b ≤ 1)
  | .traceCapture _ _ k => decide (k ≤ 1)
  | .tracePin _ a => decide (a ≤ 1)
  | _ => true

end Sys2Proof.Machine
end

