-- ==== Sys2Proof/Machine/Params.lean ====
section
/-! DEFINITION. The parameter tables of the manual: every parameter's ID, class, range, default, unit and group (R13, R15, R126), taken row by row from the Parameters section of each chapter. -/

namespace Sys2Proof.Machine

/-- The timing letters of R15; the numbers are those of R126. -/
inductive TimingClass where
  /-- L: takes effect at the next boundary of the owning block. -/
  | live
  /-- S: refused in motion, otherwise at once. -/
  | standstill
  /-- G: written only as part of its whole group. -/
  | grouped
  /-- GS: grouped, and the commit is refused in motion. -/
  | groupedStandstill
  deriving DecidableEq, Repr

/-- One row of a parameter table (R13). -/
structure ParamDef where
  /-- The 16-bit identifier. -/
  id : Nat
  /-- The timing letter. -/
  timing : TimingClass
  /-- Covered by the commissioning seal. -/
  sealed : Bool
  /-- Lower end of Range. -/
  lo : Int
  /-- Upper end of Range. -/
  hi : Int
  /-- The value the device holds after a factory image is loaded. -/
  dflt : Int
  /-- Unit code of R126. -/
  unit : Nat
  /-- Group name, 0 for none. -/
  group : Nat
  /-- Step of the Range cell, 1 where it names none (R13). -/
  step : Nat
  deriving DecidableEq, Repr

/-! ### Names -/

namespace P

/-- SYS_HOST_CHANNEL. -/
abbrev SYS_HOST_CHANNEL : Nat := 0x0100

/-- SYS_HOST_CAN_FORMAT. -/
abbrev SYS_HOST_CAN_FORMAT : Nat := 0x0101

/-- SYS_HOST_CAN_ID_IN. -/
abbrev SYS_HOST_CAN_ID_IN : Nat := 0x0102

/-- SYS_HOST_CAN_ID_OUT. -/
abbrev SYS_HOST_CAN_ID_OUT : Nat := 0x0103

/-- SYS_HOST_SEG_SIZE. -/
abbrev SYS_HOST_SEG_SIZE : Nat := 0x0104

/-- SYS_HOST_TIMEOUT. -/
abbrev SYS_HOST_TIMEOUT : Nat := 0x0105

/-- SYS_LEAF_ARRANGEMENT. -/
abbrev SYS_LEAF_ARRANGEMENT : Nat := 0x0110

/-- SYS_DRIVE_ROLE. -/
abbrev SYS_DRIVE_ROLE : Nat := 0x0111

/-- SYS_STEP_FITTED. -/
abbrev SYS_STEP_FITTED : Nat := 0x0112

/-- SYS_VHV_NOMINAL. -/
abbrev SYS_VHV_NOMINAL : Nat := 0x0120

/-- SYS_REEF1_SHED. -/
abbrev SYS_REEF1_SHED : Nat := 0x0121

/-- SYS_REEF_RECOVER_TIME. -/
abbrev SYS_REEF_RECOVER_TIME : Nat := 0x0122

/-- SYS_AVS_MODE. -/
abbrev SYS_AVS_MODE : Nat := 0x0123

/-- SYS_AVS_MIN. -/
abbrev SYS_AVS_MIN : Nat := 0x0124

/-- SYS_AVS_MAX. -/
abbrev SYS_AVS_MAX : Nat := 0x0125

/-- SYS_AVS_MARGIN. -/
abbrev SYS_AVS_MARGIN : Nat := 0x0126

/-- SYS_WDOG_TIMEOUT. -/
abbrev SYS_WDOG_TIMEOUT : Nat := 0x0127

/-- SYS_PARK_ALARM. -/
abbrev SYS_PARK_ALARM : Nat := 0x0128

/-- DOOR_SIDE. -/
abbrev DOOR_SIDE : Nat := 0x0200

/-- DOOR_CLOSE_WARN_TIME. -/
abbrev DOOR_CLOSE_WARN_TIME : Nat := 0x0201

/-- DOOR_WARN_MASK. -/
abbrev DOOR_WARN_MASK : Nat := 0x0202

/-- DOOR_START_MAX_AHEAD. -/
abbrev DOOR_START_MAX_AHEAD : Nat := 0x0203

/-- DOOR_HOST_SILENT_ACTION. -/
abbrev DOOR_HOST_SILENT_ACTION : Nat := 0x0204

/-- DOOR_EGRESS_ASSIST. -/
abbrev DOOR_EGRESS_ASSIST : Nat := 0x0205

/-- DOOR_MAINT_SPEED. -/
abbrev DOOR_MAINT_SPEED : Nat := 0x0206

/-- DOOR_REEF_RESUME_DELAY. -/
abbrev DOOR_REEF_RESUME_DELAY : Nat := 0x0207

/-- DOOR_SEEK_SPEED. -/
abbrev DOOR_SEEK_SPEED : Nat := 0x0208

/-- DOOR_CLOSED_WINDOW. -/
abbrev DOOR_CLOSED_WINDOW : Nat := 0x0209

/-- DOOR_CLOSED_WAIT. -/
abbrev DOOR_CLOSED_WAIT : Nat := 0x020A

/-- DOOR_OPEN_BACKOFF. -/
abbrev DOOR_OPEN_BACKOFF : Nat := 0x020B

/-- DOOR_RECLOSE_LIMIT. -/
abbrev DOOR_RECLOSE_LIMIT : Nat := 0x0210

/-- DOOR_RECLOSE_DELAY. -/
abbrev DOOR_RECLOSE_DELAY : Nat := 0x0211

/-- DOOR_REVERSE_MODE. -/
abbrev DOOR_REVERSE_MODE : Nat := 0x0212

/-- DOOR_REVERSE_DISTANCE. -/
abbrev DOOR_REVERSE_DISTANCE : Nat := 0x0213

/-- DOOR_LOCK_CHANNEL. -/
abbrev DOOR_LOCK_CHANNEL : Nat := 0x0220

/-- DOOR_UNLOCK_TIME. -/
abbrev DOOR_UNLOCK_TIME : Nat := 0x0221

/-- DOOR_LOCK_TIME. -/
abbrev DOOR_LOCK_TIME : Nat := 0x0222

/-- DOOR_LOCK_RETRY. -/
abbrev DOOR_LOCK_RETRY : Nat := 0x0223

/-- DOOR_LANDFALL_ENABLE. -/
abbrev DOOR_LANDFALL_ENABLE : Nat := 0x0230

/-- DOOR_LANDFALL_FORCE. -/
abbrev DOOR_LANDFALL_FORCE : Nat := 0x0231

/-- DOOR_LANDFALL_SLIP. -/
abbrev DOOR_LANDFALL_SLIP : Nat := 0x0232

/-- DOOR_LANDFALL_MAX. -/
abbrev DOOR_LANDFALL_MAX : Nat := 0x0233

/-- DOOR_LANDFALL_ARM_TIME. -/
abbrev DOOR_LANDFALL_ARM_TIME : Nat := 0x0234

/-- DOOR_STEP_DEPLOY_AT. -/
abbrev DOOR_STEP_DEPLOY_AT : Nat := 0x0240

/-- DOOR_STEP_OPEN_WAIT. -/
abbrev DOOR_STEP_OPEN_WAIT : Nat := 0x0241

/-- DOOR_STEP_RETRACT_AT. -/
abbrev DOOR_STEP_RETRACT_AT : Nat := 0x0242

/-- PLAN_DRIVE_CLASS. -/
abbrev PLAN_DRIVE_CLASS : Nat := 0x0300

/-- PLAN_OPEN_END. -/
abbrev PLAN_OPEN_END : Nat := 0x0301

/-- PLAN_OPEN_SPEED. -/
abbrev PLAN_OPEN_SPEED : Nat := 0x0302

/-- PLAN_CLOSE_SPEED. -/
abbrev PLAN_CLOSE_SPEED : Nat := 0x0303

/-- PLAN_STANDSTILL_SPEED. -/
abbrev PLAN_STANDSTILL_SPEED : Nat := 0x0304

/-- PLAN_HOLD_DELAY. -/
abbrev PLAN_HOLD_DELAY : Nat := 0x0305

/-- PLAN_LEAF_HOLD_CURRENT. -/
abbrev PLAN_LEAF_HOLD_CURRENT : Nat := 0x0306

/-- PLAN_INPOS_WINDOW. -/
abbrev PLAN_INPOS_WINDOW : Nat := 0x0307

/-- PLAN_FOLLOW_RATIO. -/
abbrev PLAN_FOLLOW_RATIO : Nat := 0x0308

/-- PLAN_FOLLOW_LAG_MAX. -/
abbrev PLAN_FOLLOW_LAG_MAX : Nat := 0x0309

/-- PLAN_OPEN_ACC. -/
abbrev PLAN_OPEN_ACC : Nat := 0x0310

/-- PLAN_OPEN_DEC. -/
abbrev PLAN_OPEN_DEC : Nat := 0x0311

/-- PLAN_OPEN_JERK. -/
abbrev PLAN_OPEN_JERK : Nat := 0x0312

/-- PLAN_OPEN_FINAL_SPEED. -/
abbrev PLAN_OPEN_FINAL_SPEED : Nat := 0x0313

/-- PLAN_OPEN_FINAL_DIST. -/
abbrev PLAN_OPEN_FINAL_DIST : Nat := 0x0314

/-- PLAN_CLOSE_ACC. -/
abbrev PLAN_CLOSE_ACC : Nat := 0x0320

/-- PLAN_CLOSE_DEC. -/
abbrev PLAN_CLOSE_DEC : Nat := 0x0321

/-- PLAN_CLOSE_JERK. -/
abbrev PLAN_CLOSE_JERK : Nat := 0x0322

/-- PLAN_CLOSE_FINAL_SPEED. -/
abbrev PLAN_CLOSE_FINAL_SPEED : Nat := 0x0323

/-- PLAN_CLOSE_FINAL_DIST. -/
abbrev PLAN_CLOSE_FINAL_DIST : Nat := 0x0324

/-- PLAN_EMERG_DEC. -/
abbrev PLAN_EMERG_DEC : Nat := 0x0330

/-- PLAN_EMERG_JERK. -/
abbrev PLAN_EMERG_JERK : Nat := 0x0331

/-- PLAN_TRAP_VSTART. -/
abbrev PLAN_TRAP_VSTART : Nat := 0x0340

/-- PLAN_TRAP_VSTOP. -/
abbrev PLAN_TRAP_VSTOP : Nat := 0x0341

/-- PLAN_TRAP_V1. -/
abbrev PLAN_TRAP_V1 : Nat := 0x0342

/-- PLAN_TRAP_A1. -/
abbrev PLAN_TRAP_A1 : Nat := 0x0343

/-- PLAN_TRAP_A2. -/
abbrev PLAN_TRAP_A2 : Nat := 0x0344

/-- PLAN_STEP_USTEP_PER_MM. -/
abbrev PLAN_STEP_USTEP_PER_MM : Nat := 0x0350

/-- PLAN_STEP_EXT_MAX. -/
abbrev PLAN_STEP_EXT_MAX : Nat := 0x0351

/-- PLAN_STEP_SPEED. -/
abbrev PLAN_STEP_SPEED : Nat := 0x0352

/-- PLAN_STEP_FIND_START. -/
abbrev PLAN_STEP_FIND_START : Nat := 0x0353

/-- PLAN_STEP_FIND_SPEED. -/
abbrev PLAN_STEP_FIND_SPEED : Nat := 0x0354

/-- PLAN_STEP_FIND_BACKOFF. -/
abbrev PLAN_STEP_FIND_BACKOFF : Nat := 0x0355

/-- PLAN_STEP_RET_ZONE. -/
abbrev PLAN_STEP_RET_ZONE : Nat := 0x0356

/-- PLAN_STEP_ACC. -/
abbrev PLAN_STEP_ACC : Nat := 0x0360

/-- PLAN_STEP_JERK. -/
abbrev PLAN_STEP_JERK : Nat := 0x0361

/-- PLAN_STEP_EMERG_DEC. -/
abbrev PLAN_STEP_EMERG_DEC : Nat := 0x0362

/-- PLAN_STEP_EMERG_JERK. -/
abbrev PLAN_STEP_EMERG_JERK : Nat := 0x0363

/-- PLAN_STEP_I_RUN. -/
abbrev PLAN_STEP_I_RUN : Nat := 0x0370

/-- PLAN_STEP_I_MIN. -/
abbrev PLAN_STEP_I_MIN : Nat := 0x0371

/-- PLAN_STEP_I_MAX. -/
abbrev PLAN_STEP_I_MAX : Nat := 0x0372

/-- PLAN_STEP_I_HOLD. -/
abbrev PLAN_STEP_I_HOLD : Nat := 0x0373

/-- PLAN_STEP_I_UP. -/
abbrev PLAN_STEP_I_UP : Nat := 0x0374

/-- PLAN_STEP_I_DOWN. -/
abbrev PLAN_STEP_I_DOWN : Nat := 0x0375

/-- PLAN_STEP_LOAD_TARGET. -/
abbrev PLAN_STEP_LOAD_TARGET : Nat := 0x0376

/-- PLAN_STEP_ADAPT_MIN_SPEED. -/
abbrev PLAN_STEP_ADAPT_MIN_SPEED : Nat := 0x0377

/-- PLAN_STEP_HOLD_DELAY. -/
abbrev PLAN_STEP_HOLD_DELAY : Nat := 0x0378

/-- PLAN_HOME_SWITCH. -/
abbrev PLAN_HOME_SWITCH : Nat := 0x0380

/-- PLAN_HOME_FAST. -/
abbrev PLAN_HOME_FAST : Nat := 0x0381

/-- PLAN_HOME_SLOW. -/
abbrev PLAN_HOME_SLOW : Nat := 0x0382

/-- PLAN_HOME_BACKOFF. -/
abbrev PLAN_HOME_BACKOFF : Nat := 0x0383

/-- PLAN_HOME_OFFSET. -/
abbrev PLAN_HOME_OFFSET : Nat := 0x0384

/-- PLAN_HOME_MAX_TRAVEL. -/
abbrev PLAN_HOME_MAX_TRAVEL : Nat := 0x0385

/-- PLAN_HOME_STABLE. -/
abbrev PLAN_HOME_STABLE : Nat := 0x0386

/-- PILOT_FORCE_CONST. -/
abbrev PILOT_FORCE_CONST : Nat := 0x0400

/-- PILOT_MASS. -/
abbrev PILOT_MASS : Nat := 0x0401

/-- PILOT_R_PHASE. -/
abbrev PILOT_R_PHASE : Nat := 0x0402

/-- PILOT_L_PHASE. -/
abbrev PILOT_L_PHASE : Nat := 0x0403

/-- PILOT_KE. -/
abbrev PILOT_KE : Nat := 0x0404

/-- PILOT_COG_EDGES_PER_REV. -/
abbrev PILOT_COG_EDGES_PER_REV : Nat := 0x0405

/-- PILOT_FORCE_LIMIT_CLOSE. -/
abbrev PILOT_FORCE_LIMIT_CLOSE : Nat := 0x0406

/-- PILOT_FORCE_LIMIT_OPEN. -/
abbrev PILOT_FORCE_LIMIT_OPEN : Nat := 0x0407

/-- PILOT_I_MAX. -/
abbrev PILOT_I_MAX : Nat := 0x0408

/-- PILOT_FF_ACC. -/
abbrev PILOT_FF_ACC : Nat := 0x0409

/-- PILOT_FF_TABLES. -/
abbrev PILOT_FF_TABLES : Nat := 0x040A

/-- PILOT_MAN_SLEW_I. -/
abbrev PILOT_MAN_SLEW_I : Nat := 0x040B

/-- PILOT_MAN_SLEW_U. -/
abbrev PILOT_MAN_SLEW_U : Nat := 0x040C

/-- PILOT_STEP_R. -/
abbrev PILOT_STEP_R : Nat := 0x040D

/-- PILOT_STEP_L. -/
abbrev PILOT_STEP_L : Nat := 0x040E

/-- PILOT_FRIC_SHIFT. -/
abbrev PILOT_FRIC_SHIFT : Nat := 0x040F

/-- PILOT_PLAUS_ISUM. -/
abbrev PILOT_PLAUS_ISUM : Nat := 0x0410

/-- PILOT_PLAUS_UQ. -/
abbrev PILOT_PLAUS_UQ : Nat := 0x0411

/-- PILOT_PLAUS_SPEED_ABS. -/
abbrev PILOT_PLAUS_SPEED_ABS : Nat := 0x0412

/-- PILOT_PLAUS_SPEED_REL. -/
abbrev PILOT_PLAUS_SPEED_REL : Nat := 0x0413

/-- PILOT_PLAUS_COUNT. -/
abbrev PILOT_PLAUS_COUNT : Nat := 0x0414

/-- PILOT_DR_CREEP_SPEED. -/
abbrev PILOT_DR_CREEP_SPEED : Nat := 0x0418

/-- PILOT_OBS_MIN_SPEED. -/
abbrev PILOT_OBS_MIN_SPEED : Nat := 0x0419

/-- PILOT_DR_ENDSTOP_TIME. -/
abbrev PILOT_DR_ENDSTOP_TIME : Nat := 0x041A

/-- PILOT_DR_MAX_TIME. -/
abbrev PILOT_DR_MAX_TIME : Nat := 0x041B

/-- PILOT_LEARN_SHIFT. -/
abbrev PILOT_LEARN_SHIFT : Nat := 0x0438

/-- PILOT_LEARN_STEP_MAX. -/
abbrev PILOT_LEARN_STEP_MAX : Nat := 0x0439

/-- PILOT_FRIC_MAX. -/
abbrev PILOT_FRIC_MAX : Nat := 0x043A

/-- PILOT_LEARN_MIN_SPEED. -/
abbrev PILOT_LEARN_MIN_SPEED : Nat := 0x043B

/-- PILOT_ANOM_SUDDEN. -/
abbrev PILOT_ANOM_SUDDEN : Nat := 0x043C

/-- PILOT_ANOM_DRIFT. -/
abbrev PILOT_ANOM_DRIFT : Nat := 0x043D

/-- PILOT_LEARN_ENABLE. -/
abbrev PILOT_LEARN_ENABLE : Nat := 0x043E

/-- PILOT_INJECT_WINDOW. -/
abbrev PILOT_INJECT_WINDOW : Nat := 0x043F

/-- SEXT_SPEED_EDGES. -/
abbrev SEXT_SPEED_EDGES : Nat := 0x0500

/-- SEXT_ANGLE_OFFSET. -/
abbrev SEXT_ANGLE_OFFSET : Nat := 0x0501

/-- SEXT_PT_SENSE. -/
abbrev SEXT_PT_SENSE : Nat := 0x0502

/-- SEXT_UM_PER_EDGE. -/
abbrev SEXT_UM_PER_EDGE : Nat := 0x0510

/-- SEXT_HALL_SENSE. -/
abbrev SEXT_HALL_SENSE : Nat := 0x0511

/-- SEXT_HALL_FILTER_N. -/
abbrev SEXT_HALL_FILTER_N : Nat := 0x0512

/-- SEXT_SPEED_TIMEOUT. -/
abbrev SEXT_SPEED_TIMEOUT : Nat := 0x0513

/-- SEXT_SPEED_MAX. -/
abbrev SEXT_SPEED_MAX : Nat := 0x0514

/-- SEXT_SOFT_LOW. -/
abbrev SEXT_SOFT_LOW : Nat := 0x0520

/-- SEXT_SOFT_HIGH. -/
abbrev SEXT_SOFT_HIGH : Nat := 0x0521

/-- SEXT_LIMIT_OVERRUN. -/
abbrev SEXT_LIMIT_OVERRUN : Nat := 0x0522

/-- SEXT_INDEX_WINDOW. -/
abbrev SEXT_INDEX_WINDOW : Nat := 0x0530

/-- SEXT_LOST_FORCE. -/
abbrev SEXT_LOST_FORCE : Nat := 0x0531

/-- SEXT_LOST_SPEED. -/
abbrev SEXT_LOST_SPEED : Nat := 0x0532

/-- DRV_GATE_SOURCE. -/
abbrev DRV_GATE_SOURCE : Nat := 0x0600

/-- DRV_GATE_SINK. -/
abbrev DRV_GATE_SINK : Nat := 0x0601

/-- DRV_NTC_R25. -/
abbrev DRV_NTC_R25 : Nat := 0x0602

/-- DRV_NTC_BETA. -/
abbrev DRV_NTC_BETA : Nat := 0x0603

/-- DRV_MOTOR_T_WARN. -/
abbrev DRV_MOTOR_T_WARN : Nat := 0x0604

/-- DRV_MOTOR_T_MAX. -/
abbrev DRV_MOTOR_T_MAX : Nat := 0x0605

/-- DRV_PWM_FREQ. -/
abbrev DRV_PWM_FREQ : Nat := 0x0610

/-- DRV_DEAD_MODE. -/
abbrev DRV_DEAD_MODE : Nat := 0x0611

/-- DRV_DEAD_MIN. -/
abbrev DRV_DEAD_MIN : Nat := 0x0612

/-- DRV_DEAD_MAX. -/
abbrev DRV_DEAD_MAX : Nat := 0x0613

/-- DRV_DEAD_MARGIN. -/
abbrev DRV_DEAD_MARGIN : Nat := 0x0614

/-- DRV_SENSE_WINDOW. -/
abbrev DRV_SENSE_WINDOW : Nat := 0x0615

/-- DRV_LEAF_SHUNT. -/
abbrev DRV_LEAF_SHUNT : Nat := 0x0620

/-- DRV_STEP_SHUNT. -/
abbrev DRV_STEP_SHUNT : Nat := 0x0621

/-- DRV_LEAF_GAIN. -/
abbrev DRV_LEAF_GAIN : Nat := 0x0622

/-- DRV_STEP_GAIN. -/
abbrev DRV_STEP_GAIN : Nat := 0x0623

/-- DRV_VDS_TRIP. -/
abbrev DRV_VDS_TRIP : Nat := 0x0624

/-- DRV_VDS_BLANK. -/
abbrev DRV_VDS_BLANK : Nat := 0x0625

/-- DRV_OC_LEAF. -/
abbrev DRV_OC_LEAF : Nat := 0x0626

/-- DRV_OC_STEP. -/
abbrev DRV_OC_STEP : Nat := 0x0627

/-- DRV_SHORT_I_LIMIT. -/
abbrev DRV_SHORT_I_LIMIT : Nat := 0x0628

/-- DRV_VBUS_REGEN_START. -/
abbrev DRV_VBUS_REGEN_START : Nat := 0x0630

/-- DRV_VBUS_OV. -/
abbrev DRV_VBUS_OV : Nat := 0x0631

/-- DRV_VBUS_HYST. -/
abbrev DRV_VBUS_HYST : Nat := 0x0632

/-- SKIN_A_LINK. -/
abbrev SKIN_A_LINK : Nat := 0x0700

/-- SKIN_A_TILES. -/
abbrev SKIN_A_TILES : Nat := 0x0701

/-- SKIN_A_ORIENT. -/
abbrev SKIN_A_ORIENT : Nat := 0x0702

/-- SKIN_A_BASE. -/
abbrev SKIN_A_BASE : Nat := 0x0703

/-- SKIN_A_EDGE. -/
abbrev SKIN_A_EDGE : Nat := 0x0704

/-- SKIN_B_LINK. -/
abbrev SKIN_B_LINK : Nat := 0x0708

/-- SKIN_B_TILES. -/
abbrev SKIN_B_TILES : Nat := 0x0709

/-- SKIN_B_ORIENT. -/
abbrev SKIN_B_ORIENT : Nat := 0x070A

/-- SKIN_B_BASE. -/
abbrev SKIN_B_BASE : Nat := 0x070B

/-- SKIN_B_EDGE. -/
abbrev SKIN_B_EDGE : Nat := 0x070C

/-- SKIN_C_LINK. -/
abbrev SKIN_C_LINK : Nat := 0x0710

/-- SKIN_C_ORIENT. -/
abbrev SKIN_C_ORIENT : Nat := 0x0711

/-- SKIN_C_BASE. -/
abbrev SKIN_C_BASE : Nat := 0x0712

/-- SKIN_C_EDGE. -/
abbrev SKIN_C_EDGE : Nat := 0x0713

/-- SKIN_SCAN_MODE. -/
abbrev SKIN_SCAN_MODE : Nat := 0x0720

/-- SKIN_DELTA_BAND. -/
abbrev SKIN_DELTA_BAND : Nat := 0x0721

/-- SKIN_BASE_UP_PERIOD. -/
abbrev SKIN_BASE_UP_PERIOD : Nat := 0x0730

/-- SKIN_BASE_DOWN_SHIFT. -/
abbrev SKIN_BASE_DOWN_SHIFT : Nat := 0x0731

/-- SKIN_FREEZE_RING. -/
abbrev SKIN_FREEZE_RING : Nat := 0x0732

/-- SKIN_OUTLIER. -/
abbrev SKIN_OUTLIER : Nat := 0x0733

/-- SKIN_THR_MIN. -/
abbrev SKIN_THR_MIN : Nat := 0x0740

/-- SKIN_THR_MAX. -/
abbrev SKIN_THR_MAX : Nat := 0x0741

/-- SKIN_THR_K. -/
abbrev SKIN_THR_K : Nat := 0x0742

/-- SKIN_THR_PERIOD. -/
abbrev SKIN_THR_PERIOD : Nat := 0x0743

/-- SKIN_THR_INIT. -/
abbrev SKIN_THR_INIT : Nat := 0x0744

/-- SKIN_RELEASE. -/
abbrev SKIN_RELEASE : Nat := 0x0745

/-- SKIN_DEAD_PER_COLUMN. -/
abbrev SKIN_DEAD_PER_COLUMN : Nat := 0x0750

/-- SKIN_DEAD_PER_TILE. -/
abbrev SKIN_DEAD_PER_TILE : Nat := 0x0751

/-- SKIN_PW_HOLD. -/
abbrev SKIN_PW_HOLD : Nat := 0x0760

/-- OBST_FORCE_CLOSE. -/
abbrev OBST_FORCE_CLOSE : Nat := 0x0800

/-- OBST_FORCE_OPEN. -/
abbrev OBST_FORCE_OPEN : Nat := 0x0801

/-- OBST_FORCE_COUNT. -/
abbrev OBST_FORCE_COUNT : Nat := 0x0802

/-- OBST_FORCE_DEGRADED. -/
abbrev OBST_FORCE_DEGRADED : Nat := 0x0803

/-- OBST_SEAL_FORCE. -/
abbrev OBST_SEAL_FORCE : Nat := 0x0804

/-- OBST_SEAL_TOUCH. -/
abbrev OBST_SEAL_TOUCH : Nat := 0x0810

/-- OBST_SEAL_SKEW. -/
abbrev OBST_SEAL_SKEW : Nat := 0x0811

/-- OBST_SEAL_COVER. -/
abbrev OBST_SEAL_COVER : Nat := 0x0812

/-- OBST_SEAL_ROW_FIRST. -/
abbrev OBST_SEAL_ROW_FIRST : Nat := 0x0813

/-- OBST_SEAL_ROW_LAST. -/
abbrev OBST_SEAL_ROW_LAST : Nat := 0x0814

/-- OBST_SEAL_PEAK_RATIO. -/
abbrev OBST_SEAL_PEAK_RATIO : Nat := 0x0815

/-- OBST_SEAL_PAIR_FRAMES. -/
abbrev OBST_SEAL_PAIR_FRAMES : Nat := 0x0816

/-- OBST_BAR_CORE. -/
abbrev OBST_BAR_CORE : Nat := 0x0820

/-- OBST_BAR_PEAK. -/
abbrev OBST_BAR_PEAK : Nat := 0x0821

/-- OBST_LIMB_EXTENT. -/
abbrev OBST_LIMB_EXTENT : Nat := 0x0822

/-- OBST_THIN_ROWS. -/
abbrev OBST_THIN_ROWS : Nat := 0x0823

/-- OBST_THIN_CORE. -/
abbrev OBST_THIN_CORE : Nat := 0x0824

/-- OBST_THIN_EXTENT. -/
abbrev OBST_THIN_EXTENT : Nat := 0x0825

/-- OBST_THIN_LEVEL. -/
abbrev OBST_THIN_LEVEL : Nat := 0x0826

/-- OBST_THIN_COLS. -/
abbrev OBST_THIN_COLS : Nat := 0x0827

/-- OBST_PRECIP_PEAK. -/
abbrev OBST_PRECIP_PEAK : Nat := 0x0828

/-- OBST_PRECIP_TAXELS. -/
abbrev OBST_PRECIP_TAXELS : Nat := 0x0829

/-- OBST_PRECIP_ROW. -/
abbrev OBST_PRECIP_ROW : Nat := 0x082A

/-- OBST_PRECIP_COUNT. -/
abbrev OBST_PRECIP_COUNT : Nat := 0x082B

/-- OBST_ICE_EXTENT. -/
abbrev OBST_ICE_EXTENT : Nat := 0x082C

/-- OBST_PINCH_RATIO. -/
abbrev OBST_PINCH_RATIO : Nat := 0x0830

/-- OBST_PINCH_WIDTH. -/
abbrev OBST_PINCH_WIDTH : Nat := 0x0831

/-- OBST_PINCH_ROWS. -/
abbrev OBST_PINCH_ROWS : Nat := 0x0832

/-- OBST_PINCH_BLIND. -/
abbrev OBST_PINCH_BLIND : Nat := 0x0833

/-- OBST_DRAG_GRADIENT. -/
abbrev OBST_DRAG_GRADIENT : Nat := 0x0834

/-- OBST_DRAG_RISE. -/
abbrev OBST_DRAG_RISE : Nat := 0x0835

/-- OBST_DRAG_SLIDE. -/
abbrev OBST_DRAG_SLIDE : Nat := 0x0836

/-- OBST_PLAT_EXTENT. -/
abbrev OBST_PLAT_EXTENT : Nat := 0x0840

/-- OBST_PLAT_ROWS. -/
abbrev OBST_PLAT_ROWS : Nat := 0x0841

/-- OBST_EDGE_A_ROLE. -/
abbrev OBST_EDGE_A_ROLE : Nat := 0x0850

/-- OBST_EDGE_B_ROLE. -/
abbrev OBST_EDGE_B_ROLE : Nat := 0x0851

/-- OBST_EDGE_C_ROLE. -/
abbrev OBST_EDGE_C_ROLE : Nat := 0x0852

/-- OBST_EDGE_MUTE. -/
abbrev OBST_EDGE_MUTE : Nat := 0x0853

/-- OBST_DEGRADED_SPEED. -/
abbrev OBST_DEGRADED_SPEED : Nat := 0x0860

/-- LCH_RETRY_PAUSE. -/
abbrev LCH_RETRY_PAUSE : Nat := 0x0960

/-- LCH_OFF_TEST_PERIOD. -/
abbrev LCH_OFF_TEST_PERIOD : Nat := 0x0961

/-- LCH_SNSA_SEL. -/
abbrev LCH_SNSA_SEL : Nat := 0x0962

/-- LCH_SNSB_SEL. -/
abbrev LCH_SNSB_SEL : Nat := 0x0963

/-- LCH_PAIR_ENABLE. -/
abbrev LCH_PAIR_ENABLE : Nat := 0x0970

/-- LCH_JURY_MASK. -/
abbrev LCH_JURY_MASK : Nat := 0x0971

/-- LCH_JURY_MAP. -/
abbrev LCH_JURY_MAP : Nat := 0x0972

/-- BIN_SIN_SRC. -/
abbrev BIN_SIN_SRC : Nat := 0x0A00

/-- BIN_TP_PERIOD. -/
abbrev BIN_TP_PERIOD : Nat := 0x0A01

/-- BIN_TP_WIDTH. -/
abbrev BIN_TP_WIDTH : Nat := 0x0A02

/-- BIN_IN_FILTER. -/
abbrev BIN_IN_FILTER : Nat := 0x0A03

/-- BIN_UM_PER_EDGE. -/
abbrev BIN_UM_PER_EDGE : Nat := 0x0A20

/-- BIN_HALL_SENSE. -/
abbrev BIN_HALL_SENSE : Nat := 0x0A21

/-- BIN_MASS. -/
abbrev BIN_MASS : Nat := 0x0A22

/-- BIN_ENERGY_MAX. -/
abbrev BIN_ENERGY_MAX : Nat := 0x0A23

/-- BIN_DIR_TOLERANCE. -/
abbrev BIN_DIR_TOLERANCE : Nat := 0x0A24

/-- BIN_UNPROVEN_MAX. -/
abbrev BIN_UNPROVEN_MAX : Nat := 0x0A25

/-- BIN_PROVE_TIME. -/
abbrev BIN_PROVE_TIME : Nat := 0x0A30

/-- BIN_PINCH_USE. -/
abbrev BIN_PINCH_USE : Nat := 0x0A31

/-- BIN_RELEASE_SOURCE. -/
abbrev BIN_RELEASE_SOURCE : Nat := 0x0A32

/-- BIN_SOUT1_ENABLE. -/
abbrev BIN_SOUT1_ENABLE : Nat := 0x0A40

/-- CHRON_ROLE. -/
abbrev CHRON_ROLE : Nat := 0x0C00

/-- CHRON_RANK. -/
abbrev CHRON_RANK : Nat := 0x0C01

/-- CHRON_REF_BUS. -/
abbrev CHRON_REF_BUS : Nat := 0x0C02

/-- CHRON_REF_ID. -/
abbrev CHRON_REF_ID : Nat := 0x0C03

/-- CHRON_REF_PERIOD. -/
abbrev CHRON_REF_PERIOD : Nat := 0x0C04

/-- CHRON_STEP_LIMIT. -/
abbrev CHRON_STEP_LIMIT : Nat := 0x0C05

/-- CHRON_HOLDOVER. -/
abbrev CHRON_HOLDOVER : Nat := 0x0C06

/-- CHRON_LEADER_WAIT. -/
abbrev CHRON_LEADER_WAIT : Nat := 0x0C08

/-- LOG_TRACE_PERIOD. -/
abbrev LOG_TRACE_PERIOD : Nat := 0x0D00

/-- LOG_TRACE_PRE. -/
abbrev LOG_TRACE_PRE : Nat := 0x0D01

/-- LOG_TRACE_TRIGGERS. -/
abbrev LOG_TRACE_TRIGGERS : Nat := 0x0D02

/-- LOG_PIN_MAX. -/
abbrev LOG_PIN_MAX : Nat := 0x0D03

/-- LOG_QUIET_MAX. -/
abbrev LOG_QUIET_MAX : Nat := 0x0D04

/-- Loop group field `k` of loop `c` (0 POS, 1 SPD, 2 CUR, 3 STEP), R270. -/
abbrev loopField (c k : Nat) : Nat := 0x0420 + 6 * c + k

/-- Field `k` of section `n` (from 1) of loop `c`, R271. -/
abbrev sectionField (c n k : Nat) : Nat := 0x0440 + 48 * c + 6 * (n - 1) + k

/-- Field `k` of load channel `n`, R432: 0 KIND, 1 OC_LEVEL, 2 INRUSH_TIME, 3 RETRY_MAX, 4 THERM_MODE, 5 OPEN_LEVEL, 6 OFF_TEST. -/
abbrev loadField (n k : Nat) : Nat := 0x0900 + 8 * n + k

/-- BIN_PAIR_p_FUNC, R486. -/
abbrev pairFunc (p : Nat) : Nat := 0x0A10 + 2 * p

/-- BIN_PAIR_p_DISC, R486. -/
abbrev pairDisc (p : Nat) : Nat := 0x0A11 + 2 * p

/-- Bus parameter `k` of controller `x` (0 A, 1 B), R520. -/
abbrev busField (x k : Nat) : Nat := 0x0B00 + 0x20 * x + k

/-- Field `k` of telegram connection `c`, R548: 0 KIND, 1 BUS, 2 CAN_ID, 3 IDENTITY, 4 FORMAT, 5 WINDOW, 6 JITTER. -/
abbrev connField (c k : Nat) : Nat := 0x0C10 + 8 * c + k

end P

/-! ### Tables -/

/-- System parameters, 0x0100 to 0x0128. -/
def systemParams1 : List ParamDef := [
  ⟨P.SYS_HOST_CHANNEL, .groupedStandstill, true, 0, 2, 0, 0, 0x0100, 1⟩,
  ⟨P.SYS_HOST_CAN_FORMAT, .groupedStandstill, true, 0, 1, 0, 0, 0x0100, 1⟩,
  ⟨P.SYS_HOST_CAN_ID_IN, .groupedStandstill, true, 0x00000000, 0x9FFFFFFF, 0x000000F0, 0, 0x0100, 1⟩,
  ⟨P.SYS_HOST_CAN_ID_OUT, .groupedStandstill, true, 0x00000000, 0x9FFFFFFF, 0x000000F1, 0, 0x0100, 1⟩,
  ⟨P.SYS_HOST_SEG_SIZE, .groupedStandstill, true, 32, 2048, 64, 0, 0x0100, 1⟩,
  ⟨P.SYS_HOST_TIMEOUT, .live, false, 0, 60000, 0, 10, 0, 1⟩,
  ⟨P.SYS_LEAF_ARRANGEMENT, .groupedStandstill, true, 0, 2, 1, 0, 0x0110, 1⟩,
  ⟨P.SYS_DRIVE_ROLE, .groupedStandstill, true, 0, 2, 0, 0, 0x0110, 1⟩,
  ⟨P.SYS_STEP_FITTED, .groupedStandstill, true, 0, 1, 1, 0, 0x0110, 1⟩,
  ⟨P.SYS_VHV_NOMINAL, .standstill, true, 0, 5, 0, 0, 0, 1⟩,
  ⟨P.SYS_REEF1_SHED, .live, false, 0x000, 0xFFF, 0x000, 0, 0, 1⟩,
  ⟨P.SYS_REEF_RECOVER_TIME, .live, false, 100, 5000, 500, 10, 0, 1⟩,
  ⟨P.SYS_AVS_MODE, .standstill, true, 0, 1, 1, 0, 0, 1⟩,
  ⟨P.SYS_AVS_MIN, .groupedStandstill, false, 850, 1850, 900, 7, 0x0124, 1⟩,
  ⟨P.SYS_AVS_MAX, .groupedStandstill, false, 900, 1900, 1350, 7, 0x0124, 1⟩,
  ⟨P.SYS_AVS_MARGIN, .live, false, 4, 16, 8, 13, 0, 1⟩,
  ⟨P.SYS_WDOG_TIMEOUT, .standstill, false, 10, 1000, 100, 10, 0, 1⟩,
  ⟨P.SYS_PARK_ALARM, .live, false, 0, 4294967295, 0, 11, 0, 1⟩]

/-- Doorway parameters, 0x0200 to 0x0223. -/
def doorwayParams1 : List ParamDef := [
  ⟨P.DOOR_SIDE, .standstill, true, 0, 1, 0, 0, 0, 1⟩,
  ⟨P.DOOR_CLOSE_WARN_TIME, .live, false, 0, 5000, 0, 10, 0, 1⟩,
  ⟨P.DOOR_WARN_MASK, .live, false, 0x000, 0xFFF, 0x000, 0, 0, 1⟩,
  ⟨P.DOOR_START_MAX_AHEAD, .live, false, 100, 60000, 10000, 10, 0, 1⟩,
  ⟨P.DOOR_HOST_SILENT_ACTION, .standstill, true, 0, 1, 0, 0, 0, 1⟩,
  ⟨P.DOOR_EGRESS_ASSIST, .standstill, true, 0, 5000, 0, 6, 0, 1⟩,
  ⟨P.DOOR_MAINT_SPEED, .standstill, true, 10000, 300000, 100000, 2, 0, 1⟩,
  ⟨P.DOOR_REEF_RESUME_DELAY, .live, false, 0, 10000, 1000, 10, 0, 1⟩,
  ⟨P.DOOR_SEEK_SPEED, .standstill, true, 5000, 100000, 50000, 2, 0, 1⟩,
  ⟨P.DOOR_CLOSED_WINDOW, .standstill, true, 1000, 20000, 8000, 1, 0, 1⟩,
  ⟨P.DOOR_CLOSED_WAIT, .standstill, false, 100, 2000, 500, 10, 0, 1⟩,
  ⟨P.DOOR_OPEN_BACKOFF, .standstill, false, 0, 100000, 20000, 1, 0, 1⟩,
  ⟨P.DOOR_RECLOSE_LIMIT, .groupedStandstill, false, 1, 10, 3, 0, 0x0210, 1⟩,
  ⟨P.DOOR_RECLOSE_DELAY, .groupedStandstill, false, 500, 30000, 2000, 10, 0x0210, 1⟩,
  ⟨P.DOOR_REVERSE_MODE, .groupedStandstill, false, 0, 1, 0, 0, 0x0210, 1⟩,
  ⟨P.DOOR_REVERSE_DISTANCE, .groupedStandstill, false, 0, 2000000, 300000, 1, 0x0210, 1⟩,
  ⟨P.DOOR_LOCK_CHANNEL, .groupedStandstill, true, 0, 7, 0, 0, 0x0220, 1⟩,
  ⟨P.DOOR_UNLOCK_TIME, .groupedStandstill, true, 50, 1000, 350, 10, 0x0220, 1⟩,
  ⟨P.DOOR_LOCK_TIME, .groupedStandstill, true, 50, 1000, 350, 10, 0x0220, 1⟩,
  ⟨P.DOOR_LOCK_RETRY, .groupedStandstill, true, 0, 1, 1, 0, 0x0220, 1⟩]

/-- Doorway parameters, 0x0230 to 0x0242. -/
def doorwayParams2 : List ParamDef := [
  ⟨P.DOOR_LANDFALL_ENABLE, .groupedStandstill, true, 0, 1, 0, 0, 0x0230, 1⟩,
  ⟨P.DOOR_LANDFALL_FORCE, .groupedStandstill, true, 50000, 400000, 150000, 5, 0x0230, 1⟩,
  ⟨P.DOOR_LANDFALL_SLIP, .groupedStandstill, true, 1000, 20000, 5000, 1, 0x0230, 1⟩,
  ⟨P.DOOR_LANDFALL_MAX, .groupedStandstill, true, 5, 600, 120, 11, 0x0230, 1⟩,
  ⟨P.DOOR_LANDFALL_ARM_TIME, .groupedStandstill, true, 1, 600, 90, 11, 0x0230, 1⟩,
  ⟨P.DOOR_STEP_DEPLOY_AT, .groupedStandstill, false, 0, 2, 2, 0, 0x0240, 1⟩,
  ⟨P.DOOR_STEP_OPEN_WAIT, .groupedStandstill, false, 0, 1, 1, 0, 0x0240, 1⟩,
  ⟨P.DOOR_STEP_RETRACT_AT, .groupedStandstill, false, 0, 1, 0, 0, 0x0240, 1⟩]

/-- Planner parameters, 0x0300 to 0x0324. -/
def plannerParams1 : List ParamDef := [
  ⟨P.PLAN_DRIVE_CLASS, .standstill, true, 0, 1, 0, 0, 0, 1⟩,
  ⟨P.PLAN_OPEN_END, .standstill, true, 100000, 4000000, 600000, 1, 0, 1⟩,
  ⟨P.PLAN_OPEN_SPEED, .live, false, 10000, 1500000, 500000, 2, 0, 1⟩,
  ⟨P.PLAN_CLOSE_SPEED, .live, false, 10000, 1000000, 400000, 2, 0, 1⟩,
  ⟨P.PLAN_STANDSTILL_SPEED, .live, false, 500, 20000, 2000, 2, 0, 1⟩,
  ⟨P.PLAN_HOLD_DELAY, .live, false, 0, 10000, 500, 10, 0, 1⟩,
  ⟨P.PLAN_LEAF_HOLD_CURRENT, .live, false, 0, 20000, 800, 6, 0, 1⟩,
  ⟨P.PLAN_INPOS_WINDOW, .live, false, 100, 10000, 1000, 1, 0, 1⟩,
  ⟨P.PLAN_FOLLOW_RATIO, .standstill, true, 0x00008000, 0x00020000, 0x00010000, 0, 0, 1⟩,
  ⟨P.PLAN_FOLLOW_LAG_MAX, .live, false, 1000, 100000, 20000, 1, 0, 1⟩,
  ⟨P.PLAN_OPEN_ACC, .grouped, false, 50000, 5000000, 800000, 3, 0x0310, 1⟩,
  ⟨P.PLAN_OPEN_DEC, .grouped, false, 50000, 5000000, 800000, 3, 0x0310, 1⟩,
  ⟨P.PLAN_OPEN_JERK, .grouped, false, 100000, 100000000, 4000000, 4, 0x0310, 1⟩,
  ⟨P.PLAN_OPEN_FINAL_SPEED, .grouped, false, 0, 200000, 50000, 2, 0x0310, 1⟩,
  ⟨P.PLAN_OPEN_FINAL_DIST, .grouped, false, 0, 200000, 40000, 1, 0x0310, 1⟩,
  ⟨P.PLAN_CLOSE_ACC, .grouped, false, 50000, 5000000, 800000, 3, 0x0320, 1⟩,
  ⟨P.PLAN_CLOSE_DEC, .grouped, false, 50000, 5000000, 800000, 3, 0x0320, 1⟩,
  ⟨P.PLAN_CLOSE_JERK, .grouped, false, 100000, 100000000, 4000000, 4, 0x0320, 1⟩,
  ⟨P.PLAN_CLOSE_FINAL_SPEED, .grouped, false, 0, 200000, 50000, 2, 0x0320, 1⟩,
  ⟨P.PLAN_CLOSE_FINAL_DIST, .grouped, false, 0, 200000, 40000, 1, 0x0320, 1⟩]

/-- Planner parameters, 0x0330 to 0x0371. -/
def plannerParams2 : List ParamDef := [
  ⟨P.PLAN_EMERG_DEC, .groupedStandstill, true, 500000, 20000000, 6000000, 3, 0x0330, 1⟩,
  ⟨P.PLAN_EMERG_JERK, .groupedStandstill, true, 1000000, 1000000000, 400000000, 4, 0x0330, 1⟩,
  ⟨P.PLAN_TRAP_VSTART, .grouped, false, 0, 50000, 20000, 2, 0x0340, 1⟩,
  ⟨P.PLAN_TRAP_VSTOP, .grouped, false, 0, 50000, 20000, 2, 0x0340, 1⟩,
  ⟨P.PLAN_TRAP_V1, .grouped, false, 10000, 1000000, 150000, 2, 0x0340, 1⟩,
  ⟨P.PLAN_TRAP_A1, .grouped, false, 50000, 5000000, 400000, 3, 0x0340, 1⟩,
  ⟨P.PLAN_TRAP_A2, .grouped, false, 50000, 5000000, 700000, 3, 0x0340, 1⟩,
  ⟨P.PLAN_STEP_USTEP_PER_MM, .standstill, true, 256, 65535, 10240, 0, 0, 1⟩,
  ⟨P.PLAN_STEP_EXT_MAX, .standstill, true, 1000, 400000, 200000, 1, 0, 1⟩,
  ⟨P.PLAN_STEP_SPEED, .live, false, 1000, 300000, 100000, 2, 0, 1⟩,
  ⟨P.PLAN_STEP_FIND_START, .standstill, true, 0, 400000, 100000, 1, 0, 1⟩,
  ⟨P.PLAN_STEP_FIND_SPEED, .live, false, 1000, 100000, 30000, 2, 0, 1⟩,
  ⟨P.PLAN_STEP_FIND_BACKOFF, .standstill, false, 0, 20000, 3000, 1, 0, 1⟩,
  ⟨P.PLAN_STEP_RET_ZONE, .standstill, true, 500, 10000, 2000, 1, 0, 1⟩,
  ⟨P.PLAN_STEP_ACC, .grouped, false, 10000, 5000000, 500000, 3, 0x0360, 1⟩,
  ⟨P.PLAN_STEP_JERK, .grouped, false, 20000, 100000000, 5000000, 4, 0x0360, 1⟩,
  ⟨P.PLAN_STEP_EMERG_DEC, .grouped, false, 10000, 20000000, 2000000, 3, 0x0360, 1⟩,
  ⟨P.PLAN_STEP_EMERG_JERK, .grouped, false, 20000, 1000000000, 100000000, 4, 0x0360, 1⟩,
  ⟨P.PLAN_STEP_I_RUN, .grouped, false, 50, 5000, 1200, 6, 0x0370, 1⟩,
  ⟨P.PLAN_STEP_I_MIN, .grouped, false, 50, 5000, 600, 6, 0x0370, 1⟩]

/-- Planner parameters, 0x0372 to 0x0386. -/
def plannerParams3 : List ParamDef := [
  ⟨P.PLAN_STEP_I_MAX, .grouped, false, 50, 5000, 2500, 6, 0x0370, 1⟩,
  ⟨P.PLAN_STEP_I_HOLD, .grouped, false, 0, 5000, 400, 6, 0x0370, 1⟩,
  ⟨P.PLAN_STEP_I_UP, .grouped, false, 1, 500, 50, 6, 0x0370, 1⟩,
  ⟨P.PLAN_STEP_I_DOWN, .grouped, false, 1, 500, 10, 6, 0x0370, 1⟩,
  ⟨P.PLAN_STEP_LOAD_TARGET, .grouped, false, 200, 800, 500, 14, 0x0370, 1⟩,
  ⟨P.PLAN_STEP_ADAPT_MIN_SPEED, .grouped, false, 1000, 100000, 10000, 2, 0x0370, 1⟩,
  ⟨P.PLAN_STEP_HOLD_DELAY, .live, false, 0, 10000, 200, 10, 0, 1⟩,
  ⟨P.PLAN_HOME_SWITCH, .groupedStandstill, true, 0, 1, 0, 0, 0x0380, 1⟩,
  ⟨P.PLAN_HOME_FAST, .groupedStandstill, true, 1000, 100000, 40000, 2, 0x0380, 1⟩,
  ⟨P.PLAN_HOME_SLOW, .groupedStandstill, true, 500, 50000, 5000, 2, 0x0380, 1⟩,
  ⟨P.PLAN_HOME_BACKOFF, .groupedStandstill, true, 500, 20000, 5000, 1, 0x0380, 1⟩,
  ⟨P.PLAN_HOME_OFFSET, .groupedStandstill, true, 0, 20000, 4000, 1, 0x0380, 1⟩,
  ⟨P.PLAN_HOME_MAX_TRAVEL, .groupedStandstill, true, 10000, 500000, 250000, 1, 0x0380, 1⟩,
  ⟨P.PLAN_HOME_STABLE, .groupedStandstill, true, 1, 10, 2, 10, 0x0380, 1⟩]

/-- Pilot parameters, 0x0400 to 0x0413. -/
def pilotParams1 : List ParamDef := [
  ⟨P.PILOT_FORCE_CONST, .standstill, true, 1000, 1000000, 50000, 0, 0, 1⟩,
  ⟨P.PILOT_MASS, .standstill, true, 1000, 2000000, 60000, 0, 0, 1⟩,
  ⟨P.PILOT_R_PHASE, .standstill, true, 10, 100000, 500, 0, 0, 1⟩,
  ⟨P.PILOT_L_PHASE, .standstill, true, 1, 100000, 1000, 0, 0, 1⟩,
  ⟨P.PILOT_KE, .standstill, true, 1000, 1000000, 40000, 0, 0, 1⟩,
  ⟨P.PILOT_COG_EDGES_PER_REV, .standstill, true, 6, 96, 24, 0, 0, 6⟩,
  ⟨P.PILOT_FORCE_LIMIT_CLOSE, .standstill, true, 10000, 400000, 150000, 5, 0, 1⟩,
  ⟨P.PILOT_FORCE_LIMIT_OPEN, .standstill, true, 10000, 600000, 250000, 5, 0, 1⟩,
  ⟨P.PILOT_I_MAX, .standstill, true, 100, 60000, 10000, 6, 0, 1⟩,
  ⟨P.PILOT_FF_ACC, .live, false, 0, 1, 1, 0, 0, 1⟩,
  ⟨P.PILOT_FF_TABLES, .live, false, 0, 1, 1, 0, 0, 1⟩,
  ⟨P.PILOT_MAN_SLEW_I, .live, false, 1, 100000, 1000, 0, 0, 1⟩,
  ⟨P.PILOT_MAN_SLEW_U, .live, false, 1, 100000, 2000, 0, 0, 1⟩,
  ⟨P.PILOT_STEP_R, .standstill, true, 10, 100000, 2000, 0, 0, 1⟩,
  ⟨P.PILOT_STEP_L, .standstill, true, 1, 100000, 3000, 0, 0, 1⟩,
  ⟨P.PILOT_FRIC_SHIFT, .standstill, true, 0, 8, 6, 0, 0, 1⟩,
  ⟨P.PILOT_PLAUS_ISUM, .groupedStandstill, true, 50, 10000, 500, 6, 0x0410, 1⟩,
  ⟨P.PILOT_PLAUS_UQ, .groupedStandstill, true, 100, 20000, 3000, 7, 0x0410, 1⟩,
  ⟨P.PILOT_PLAUS_SPEED_ABS, .groupedStandstill, true, 1000, 100000, 20000, 2, 0x0410, 1⟩,
  ⟨P.PILOT_PLAUS_SPEED_REL, .groupedStandstill, true, 50, 500, 200, 14, 0x0410, 1⟩]

/-- Pilot parameters, 0x0414 to 0x043F. -/
def pilotParams2 : List ParamDef := [
  ⟨P.PILOT_PLAUS_COUNT, .groupedStandstill, true, 2, 40, 8, 0, 0x0410, 1⟩,
  ⟨P.PILOT_DR_CREEP_SPEED, .groupedStandstill, true, 5000, 100000, 50000, 2, 0x0418, 1⟩,
  ⟨P.PILOT_OBS_MIN_SPEED, .groupedStandstill, true, 1000, 50000, 10000, 2, 0x0418, 1⟩,
  ⟨P.PILOT_DR_ENDSTOP_TIME, .groupedStandstill, true, 20, 1000, 100, 10, 0x0418, 1⟩,
  ⟨P.PILOT_DR_MAX_TIME, .groupedStandstill, true, 1, 120, 30, 11, 0x0418, 1⟩,
  ⟨P.PILOT_LEARN_SHIFT, .groupedStandstill, true, 1, 8, 3, 0, 0x0438, 1⟩,
  ⟨P.PILOT_LEARN_STEP_MAX, .groupedStandstill, true, 10, 20000, 2000, 5, 0x0438, 1⟩,
  ⟨P.PILOT_FRIC_MAX, .groupedStandstill, true, 1000, 300000, 100000, 5, 0x0438, 1⟩,
  ⟨P.PILOT_LEARN_MIN_SPEED, .groupedStandstill, true, 5000, 500000, 50000, 2, 0x0438, 1⟩,
  ⟨P.PILOT_ANOM_SUDDEN, .groupedStandstill, true, 1000, 200000, 30000, 5, 0x0438, 1⟩,
  ⟨P.PILOT_ANOM_DRIFT, .groupedStandstill, true, 1000, 300000, 60000, 5, 0x0438, 1⟩,
  ⟨P.PILOT_LEARN_ENABLE, .live, false, 0, 1, 1, 0, 0, 1⟩,
  ⟨P.PILOT_INJECT_WINDOW, .live, false, 1000, 200000, 20000, 1, 0, 1⟩]

/-- Sextant parameters, 0x0500 to 0x0532. -/
def sextantParams1 : List ParamDef := [
  ⟨P.SEXT_SPEED_EDGES, .live, false, 1, 6, 1, 0, 0, 1⟩,
  ⟨P.SEXT_ANGLE_OFFSET, .standstill, true, 0, 65535, 0, 0, 0, 1⟩,
  ⟨P.SEXT_PT_SENSE, .standstill, true, 0, 1, 0, 0, 0, 1⟩,
  ⟨P.SEXT_UM_PER_EDGE, .groupedStandstill, true, 100, 20000, 2000, 1, 0x0510, 1⟩,
  ⟨P.SEXT_HALL_SENSE, .groupedStandstill, true, 0, 1, 0, 0, 0x0510, 1⟩,
  ⟨P.SEXT_HALL_FILTER_N, .groupedStandstill, true, 1, 500, 20, 0, 0x0510, 1⟩,
  ⟨P.SEXT_SPEED_TIMEOUT, .groupedStandstill, true, 5, 2000, 1000, 10, 0x0510, 1⟩,
  ⟨P.SEXT_SPEED_MAX, .groupedStandstill, true, 100000, 5000000, 2000000, 2, 0x0510, 1⟩,
  ⟨P.SEXT_SOFT_LOW, .groupedStandstill, true, (-200000), (-1000), (-20000), 1, 0x0520, 1⟩,
  ⟨P.SEXT_SOFT_HIGH, .groupedStandstill, true, 100000, 4200000, 4100000, 1, 0x0520, 1⟩,
  ⟨P.SEXT_LIMIT_OVERRUN, .groupedStandstill, true, 1, 24, 6, 0, 0x0520, 1⟩,
  ⟨P.SEXT_INDEX_WINDOW, .groupedStandstill, true, 3, 200, 24, 0, 0x0530, 1⟩,
  ⟨P.SEXT_LOST_FORCE, .groupedStandstill, true, 300, 1000, 500, 14, 0x0530, 1⟩,
  ⟨P.SEXT_LOST_SPEED, .groupedStandstill, true, 5000, 300000, 100000, 2, 0x0530, 1⟩]

/-- Drive parameters, 0x0600 to 0x0627. -/
def driveParams1 : List ParamDef := [
  ⟨P.DRV_GATE_SOURCE, .standstill, true, 0, 3, 2, 0, 0, 1⟩,
  ⟨P.DRV_GATE_SINK, .standstill, true, 0, 3, 2, 0, 0, 1⟩,
  ⟨P.DRV_NTC_R25, .standstill, true, 1000, 100000, 10000, 0, 0, 1⟩,
  ⟨P.DRV_NTC_BETA, .standstill, true, 2000, 5000, 3435, 0, 0, 1⟩,
  ⟨P.DRV_MOTOR_T_WARN, .live, false, 0, 2000, 1300, 8, 0, 1⟩,
  ⟨P.DRV_MOTOR_T_MAX, .standstill, true, 0, 2000, 1500, 8, 0, 1⟩,
  ⟨P.DRV_PWM_FREQ, .groupedStandstill, true, 0, 1, 0, 0, 0x0610, 1⟩,
  ⟨P.DRV_DEAD_MODE, .groupedStandstill, true, 0, 1, 1, 0, 0x0610, 1⟩,
  ⟨P.DRV_DEAD_MIN, .groupedStandstill, true, 50, 2000, 100, 0, 0x0610, 1⟩,
  ⟨P.DRV_DEAD_MAX, .groupedStandstill, true, 50, 2000, 500, 0, 0x0610, 1⟩,
  ⟨P.DRV_DEAD_MARGIN, .groupedStandstill, true, 10, 500, 40, 0, 0x0610, 1⟩,
  ⟨P.DRV_SENSE_WINDOW, .groupedStandstill, true, 500, 5000, 2000, 0, 0x0610, 1⟩,
  ⟨P.DRV_LEAF_SHUNT, .groupedStandstill, true, 500, 100000, 5000, 0, 0x0620, 1⟩,
  ⟨P.DRV_STEP_SHUNT, .groupedStandstill, true, 500, 500000, 20000, 0, 0x0620, 1⟩,
  ⟨P.DRV_LEAF_GAIN, .groupedStandstill, true, 0, 3, 2, 0, 0x0620, 1⟩,
  ⟨P.DRV_STEP_GAIN, .groupedStandstill, true, 0, 3, 2, 0, 0x0620, 1⟩,
  ⟨P.DRV_VDS_TRIP, .groupedStandstill, true, 200, 2000, 1000, 7, 0x0620, 1⟩,
  ⟨P.DRV_VDS_BLANK, .groupedStandstill, true, 100, 2000, 300, 0, 0x0620, 1⟩,
  ⟨P.DRV_OC_LEAF, .groupedStandstill, true, 1000, 60000, 15000, 6, 0x0620, 1⟩,
  ⟨P.DRV_OC_STEP, .groupedStandstill, true, 100, 20000, 3500, 6, 0x0620, 1⟩]

/-- Drive parameters, 0x0628 to 0x0632. -/
def driveParams2 : List ParamDef := [
  ⟨P.DRV_SHORT_I_LIMIT, .groupedStandstill, true, 500, 60000, 12000, 6, 0x0620, 1⟩,
  ⟨P.DRV_VBUS_REGEN_START, .groupedStandstill, true, 20000, 150000, 130000, 7, 0x0630, 1⟩,
  ⟨P.DRV_VBUS_OV, .groupedStandstill, true, 25000, 154000, 140000, 7, 0x0630, 1⟩,
  ⟨P.DRV_VBUS_HYST, .groupedStandstill, true, 500, 10000, 3000, 7, 0x0630, 1⟩]

/-- Skin parameters, 0x0700 to 0x0733. -/
def skinParams1 : List ParamDef := [
  ⟨P.SKIN_A_LINK, .groupedStandstill, true, 0, 1, 1, 0, 0x0700, 1⟩,
  ⟨P.SKIN_A_TILES, .groupedStandstill, true, 1, 16, 16, 0, 0x0700, 1⟩,
  ⟨P.SKIN_A_ORIENT, .groupedStandstill, true, 0, 1, 0, 0, 0x0700, 1⟩,
  ⟨P.SKIN_A_BASE, .groupedStandstill, true, 0, 500000, 50000, 1, 0x0700, 1⟩,
  ⟨P.SKIN_A_EDGE, .groupedStandstill, true, 0, 2, 0, 0, 0x0700, 1⟩,
  ⟨P.SKIN_B_LINK, .groupedStandstill, true, 0, 1, 1, 0, 0x0708, 1⟩,
  ⟨P.SKIN_B_TILES, .groupedStandstill, true, 1, 16, 16, 0, 0x0708, 1⟩,
  ⟨P.SKIN_B_ORIENT, .groupedStandstill, true, 0, 1, 0, 0, 0x0708, 1⟩,
  ⟨P.SKIN_B_BASE, .groupedStandstill, true, 0, 500000, 50000, 1, 0x0708, 1⟩,
  ⟨P.SKIN_B_EDGE, .groupedStandstill, true, 0, 2, 0, 0, 0x0708, 1⟩,
  ⟨P.SKIN_C_LINK, .groupedStandstill, true, 0, 1, 1, 0, 0x0710, 1⟩,
  ⟨P.SKIN_C_ORIENT, .groupedStandstill, true, 0, 1, 0, 0, 0x0710, 1⟩,
  ⟨P.SKIN_C_BASE, .groupedStandstill, true, 0, 500000, 10000, 1, 0x0710, 1⟩,
  ⟨P.SKIN_C_EDGE, .groupedStandstill, true, 0, 2, 0, 0, 0x0710, 1⟩,
  ⟨P.SKIN_SCAN_MODE, .grouped, true, 0, 1, 0, 0, 0x0720, 1⟩,
  ⟨P.SKIN_DELTA_BAND, .grouped, true, 1, 15, 2, 0, 0x0720, 1⟩,
  ⟨P.SKIN_BASE_UP_PERIOD, .groupedStandstill, true, 1, 255, 16, 0, 0x0730, 1⟩,
  ⟨P.SKIN_BASE_DOWN_SHIFT, .groupedStandstill, true, 2, 8, 6, 0, 0x0730, 1⟩,
  ⟨P.SKIN_FREEZE_RING, .groupedStandstill, true, 0, 8, 2, 0, 0x0730, 1⟩,
  ⟨P.SKIN_OUTLIER, .groupedStandstill, true, 16, 1024, 96, 0, 0x0730, 1⟩]

/-- Skin parameters, 0x0740 to 0x0760. -/
def skinParams2 : List ParamDef := [
  ⟨P.SKIN_THR_MIN, .groupedStandstill, true, 4, 127, 12, 0, 0x0740, 1⟩,
  ⟨P.SKIN_THR_MAX, .groupedStandstill, true, 8, 127, 48, 0, 0x0740, 1⟩,
  ⟨P.SKIN_THR_K, .groupedStandstill, true, 8, 64, 24, 0, 0x0740, 1⟩,
  ⟨P.SKIN_THR_PERIOD, .groupedStandstill, true, 1, 255, 16, 0, 0x0740, 1⟩,
  ⟨P.SKIN_THR_INIT, .groupedStandstill, true, 4, 127, 16, 0, 0x0740, 1⟩,
  ⟨P.SKIN_RELEASE, .groupedStandstill, true, 250, 900, 500, 14, 0x0740, 1⟩,
  ⟨P.SKIN_DEAD_PER_COLUMN, .groupedStandstill, true, 1, 32, 4, 0, 0x0750, 1⟩,
  ⟨P.SKIN_DEAD_PER_TILE, .groupedStandstill, true, 1, 1024, 64, 0, 0x0750, 1⟩,
  ⟨P.SKIN_PW_HOLD, .standstill, true, 20, 2000, 200, 10, 0, 1⟩]

/-- Obstacle parameters, 0x0800 to 0x0827. -/
def obstacleParams1 : List ParamDef := [
  ⟨P.OBST_FORCE_CLOSE, .groupedStandstill, true, 10000, 400000, 100000, 5, 0x0800, 1⟩,
  ⟨P.OBST_FORCE_OPEN, .groupedStandstill, true, 10000, 600000, 150000, 5, 0x0800, 1⟩,
  ⟨P.OBST_FORCE_COUNT, .groupedStandstill, true, 2, 16, 4, 0, 0x0800, 1⟩,
  ⟨P.OBST_FORCE_DEGRADED, .groupedStandstill, true, 10000, 400000, 80000, 5, 0x0800, 1⟩,
  ⟨P.OBST_SEAL_FORCE, .groupedStandstill, true, 0, 200000, 40000, 5, 0x0800, 1⟩,
  ⟨P.OBST_SEAL_TOUCH, .groupedStandstill, true, 0, 40000, 6000, 1, 0x0810, 1⟩,
  ⟨P.OBST_SEAL_SKEW, .groupedStandstill, true, 500, 10000, 3000, 1, 0x0810, 1⟩,
  ⟨P.OBST_SEAL_COVER, .groupedStandstill, true, 500, 1000, 900, 14, 0x0810, 1⟩,
  ⟨P.OBST_SEAL_ROW_FIRST, .groupedStandstill, true, 0, 31, 8, 0, 0x0810, 1⟩,
  ⟨P.OBST_SEAL_ROW_LAST, .groupedStandstill, true, 0, 31, 23, 0, 0x0810, 1⟩,
  ⟨P.OBST_SEAL_PEAK_RATIO, .groupedStandstill, true, 1000, 10000, 3000, 14, 0x0810, 1⟩,
  ⟨P.OBST_SEAL_PAIR_FRAMES, .groupedStandstill, true, 1, 10, 3, 0, 0x0810, 1⟩,
  ⟨P.OBST_BAR_CORE, .groupedStandstill, true, 100, 900, 400, 14, 0x0820, 1⟩,
  ⟨P.OBST_BAR_PEAK, .groupedStandstill, true, 16, 2000, 64, 0, 0x0820, 1⟩,
  ⟨P.OBST_LIMB_EXTENT, .groupedStandstill, true, 2, 512, 40, 0, 0x0820, 1⟩,
  ⟨P.OBST_THIN_ROWS, .groupedStandstill, true, 4, 32, 12, 0, 0x0820, 1⟩,
  ⟨P.OBST_THIN_CORE, .groupedStandstill, true, 1, 64, 8, 0, 0x0820, 1⟩,
  ⟨P.OBST_THIN_EXTENT, .groupedStandstill, true, 2, 128, 32, 0, 0x0820, 1⟩,
  ⟨P.OBST_THIN_LEVEL, .groupedStandstill, true, 250, 1000, 500, 14, 0x0820, 1⟩,
  ⟨P.OBST_THIN_COLS, .groupedStandstill, true, 1, 32, 8, 0, 0x0820, 1⟩]

/-- Obstacle parameters, 0x0828 to 0x0860. -/
def obstacleParams2 : List ParamDef := [
  ⟨P.OBST_PRECIP_PEAK, .groupedStandstill, true, 8, 255, 32, 0, 0x0820, 1⟩,
  ⟨P.OBST_PRECIP_TAXELS, .groupedStandstill, true, 1, 255, 24, 0, 0x0820, 1⟩,
  ⟨P.OBST_PRECIP_ROW, .groupedStandstill, true, 0, 31, 20, 0, 0x0820, 1⟩,
  ⟨P.OBST_PRECIP_COUNT, .groupedStandstill, true, 2, 64, 4, 0, 0x0820, 1⟩,
  ⟨P.OBST_ICE_EXTENT, .groupedStandstill, true, 40, 4096, 200, 0, 0x0820, 1⟩,
  ⟨P.OBST_PINCH_RATIO, .groupedStandstill, true, 1200, 10000, 2000, 14, 0x0830, 1⟩,
  ⟨P.OBST_PINCH_WIDTH, .groupedStandstill, true, 2, 64, 24, 0, 0x0830, 1⟩,
  ⟨P.OBST_PINCH_ROWS, .groupedStandstill, true, 4, 32, 20, 0, 0x0830, 1⟩,
  ⟨P.OBST_PINCH_BLIND, .groupedStandstill, true, 0, 1, 1, 0, 0x0830, 1⟩,
  ⟨P.OBST_DRAG_GRADIENT, .groupedStandstill, true, 50, 1000, 300, 14, 0x0830, 1⟩,
  ⟨P.OBST_DRAG_RISE, .groupedStandstill, true, 1, 255, 8, 0, 0x0830, 1⟩,
  ⟨P.OBST_DRAG_SLIDE, .groupedStandstill, true, 1, 64, 2, 0, 0x0830, 1⟩,
  ⟨P.OBST_PLAT_EXTENT, .groupedStandstill, true, 4, 256, 40, 0, 0x0840, 1⟩,
  ⟨P.OBST_PLAT_ROWS, .groupedStandstill, true, 1, 32, 4, 0, 0x0840, 1⟩,
  ⟨P.OBST_EDGE_A_ROLE, .groupedStandstill, true, 0, 3, 0, 0, 0x0850, 1⟩,
  ⟨P.OBST_EDGE_B_ROLE, .groupedStandstill, true, 0, 3, 1, 0, 0x0850, 1⟩,
  ⟨P.OBST_EDGE_C_ROLE, .groupedStandstill, true, 0, 3, 3, 0, 0x0850, 1⟩,
  ⟨P.OBST_EDGE_MUTE, .groupedStandstill, true, 0, 40000, 10000, 1, 0x0850, 1⟩,
  ⟨P.OBST_DEGRADED_SPEED, .standstill, true, 10000, 500000, 150000, 2, 0, 1⟩]

/-- Load parameters, 0x0960 to 0x0972. -/
def loadParams1 : List ParamDef := [
  ⟨P.LCH_RETRY_PAUSE, .live, false, 1, 1000, 10, 10, 0, 1⟩,
  ⟨P.LCH_OFF_TEST_PERIOD, .live, false, 100, 60000, 1000, 10, 0, 1⟩,
  ⟨P.LCH_SNSA_SEL, .live, false, 0, 13, 13, 0, 0, 1⟩,
  ⟨P.LCH_SNSB_SEL, .live, false, 0, 13, 13, 0, 0, 1⟩,
  ⟨P.LCH_PAIR_ENABLE, .groupedStandstill, true, 0, 3, 0, 0, 0x0970, 1⟩,
  ⟨P.LCH_JURY_MASK, .groupedStandstill, true, 0x000, 0xFFF, 0x000, 0, 0x0970, 1⟩,
  ⟨P.LCH_JURY_MAP, .groupedStandstill, true, 0x000000, 0xFFFFFF, 0x000000, 0, 0x0970, 1⟩]

/-- Binnacle parameters, 0x0A00 to 0x0A40. -/
def binnacleParams1 : List ParamDef := [
  ⟨P.BIN_SIN_SRC, .groupedStandstill, true, 0x00000000, 0xFFFFFFFF, 0xE4E4E4E4, 0, 0x0A00, 1⟩,
  ⟨P.BIN_TP_PERIOD, .groupedStandstill, true, 20, 1000, 100, 10, 0x0A00, 1⟩,
  ⟨P.BIN_TP_WIDTH, .groupedStandstill, true, 100, 800, 400, 9, 0x0A00, 1⟩,
  ⟨P.BIN_IN_FILTER, .groupedStandstill, true, 1, 10, 3, 0, 0x0A00, 1⟩,
  ⟨P.BIN_UM_PER_EDGE, .groupedStandstill, true, 100, 20000, 2000, 1, 0x0A20, 1⟩,
  ⟨P.BIN_HALL_SENSE, .groupedStandstill, true, 0, 1, 0, 0, 0x0A20, 1⟩,
  ⟨P.BIN_MASS, .groupedStandstill, true, 1000, 2000000, 60000, 0, 0x0A20, 1⟩,
  ⟨P.BIN_ENERGY_MAX, .groupedStandstill, true, 100, 50000, 10000, 0, 0x0A20, 1⟩,
  ⟨P.BIN_DIR_TOLERANCE, .groupedStandstill, true, 1, 24, 4, 0, 0x0A20, 1⟩,
  ⟨P.BIN_UNPROVEN_MAX, .groupedStandstill, true, 1, 120, 35, 11, 0x0A20, 1⟩,
  ⟨P.BIN_PROVE_TIME, .groupedStandstill, true, 0, 30, 20, 0, 0x0A30, 1⟩,
  ⟨P.BIN_PINCH_USE, .groupedStandstill, true, 0, 1, 1, 0, 0x0A30, 1⟩,
  ⟨P.BIN_RELEASE_SOURCE, .groupedStandstill, true, 0, 2, 0, 0, 0x0A30, 1⟩,
  ⟨P.BIN_SOUT1_ENABLE, .standstill, true, 0, 1, 1, 0, 0, 1⟩]

/-- Chron parameters, 0x0C00 to 0x0C08. -/
def chronParams1 : List ParamDef := [
  ⟨P.CHRON_ROLE, .groupedStandstill, false, 0, 2, 0, 0, 0x0C00, 1⟩,
  ⟨P.CHRON_RANK, .groupedStandstill, false, 0, 7, 7, 0, 0x0C00, 1⟩,
  ⟨P.CHRON_REF_BUS, .groupedStandstill, false, 0, 1, 0, 0, 0x0C00, 1⟩,
  ⟨P.CHRON_REF_ID, .groupedStandstill, false, 0x000, 0x7F8, 0x010, 0, 0x0C00, 1⟩,
  ⟨P.CHRON_REF_PERIOD, .groupedStandstill, false, 10, 1000, 100, 10, 0x0C00, 1⟩,
  ⟨P.CHRON_STEP_LIMIT, .groupedStandstill, false, 10, 1000000, 1000, 9, 0x0C00, 1⟩,
  ⟨P.CHRON_HOLDOVER, .groupedStandstill, false, 10, 3600, 120, 11, 0x0C00, 1⟩,
  ⟨P.CHRON_LEADER_WAIT, .standstill, true, 100, 10000, 2000, 10, 0, 1⟩]

/-- Log parameters, 0x0D00 to 0x0D04. -/
def logParams1 : List ParamDef := [
  ⟨P.LOG_TRACE_PERIOD, .live, false, 1, 64, 8, 0, 0, 1⟩,
  ⟨P.LOG_TRACE_PRE, .live, false, 0, 253, 64, 0, 0, 1⟩,
  ⟨P.LOG_TRACE_TRIGGERS, .live, false, 0x000, 0x3FF, 0x3FF, 0, 0, 1⟩,
  ⟨P.LOG_PIN_MAX, .live, false, 0, 448, 256, 0, 0, 1⟩,
  ⟨P.LOG_QUIET_MAX, .live, false, 3600, 604800, 86400, 11, 0, 1⟩]

/-- The loop group of loop `c` (R270). -/
def loopParams (c : Nat) : List ParamDef :=
  let g := P.loopField c 0
  [ ⟨g, .grouped, false, 1, 8, 1, 0, g, 1⟩,
    ⟨g + 1, .grouped, false, 0, 8, 0, 0, g, 1⟩,
    ⟨g + 2, .grouped, false, 0, 2147483647, 2147483647, 0, g, 1⟩,
    ⟨g + 3, .grouped, false, (-2147483648), 2147483647, 2147483647, 0, g, 1⟩,
    ⟨g + 4, .grouped, false, (-2147483648), 2147483647, (-2147483648), 0, g, 1⟩,
    ⟨g + 5, .grouped, false, 1, 2147483647, 2147483647, 0, g, 1⟩ ]

/-- The group of section `n` of loop `c` (R271). -/
def sectionParams (c n : Nat) : List ParamDef :=
  let g := P.sectionField c n 0
  [ ⟨g, .grouped, false, (-2147483648), 2147483647, 1073741824, 0, g, 1⟩,
    ⟨g + 1, .grouped, false, (-2147483648), 2147483647, 0, 0, g, 1⟩,
    ⟨g + 2, .grouped, false, (-2147483648), 2147483647, 0, 0, g, 1⟩,
    ⟨g + 3, .grouped, false, (-2147483648), 2147483647, 0, 0, g, 1⟩,
    ⟨g + 4, .grouped, false, (-2147483648), 2147483647, 0, 0, g, 1⟩,
    ⟨g + 5, .grouped, false, 0x00000, 0xFFFFF, 0x00001, 0, g, 1⟩ ]

/-- The group of load channel `n` (R432): the first value of a cell holds for LC0 to LC7, the second for LC8 to LC11. -/
def loadChannelParams (n : Nat) : List ParamDef :=
  let g := P.loadField n 0
  let big := decide (n < 8)
  [ ⟨g, .grouped, true, 0, 3, if big then 1 else 2, 0, g, 1⟩,
    ⟨g + 1, .grouped, true, if big then 100 else 20, if big then 2500 else 500, if big then 1750 else 500, 6, g, 1⟩,
    ⟨g + 2, .grouped, true, 1, 500, if big then 20 else 5, 10, g, 1⟩,
    ⟨g + 3, .grouped, true, 1, 15, 4, 0, g, 1⟩,
    ⟨g + 4, .grouped, true, 0, 1, 0, 0, g, 1⟩,
    ⟨g + 5, .grouped, true, 0, if big then 500 else 100, if big then 50 else 10, 6, g, 1⟩,
    ⟨g + 6, .grouped, true, 0, 1, 1, 0, g, 1⟩ ]

/-- The default function of safe-input pair `p` (R437). -/
def pairFuncDefault (p : Nat) : Int := [1, 2, 3, 4, 5, 6, 8, 7].getD p 0

/-- The group of safe-input pair `p` (R486). -/
def pairParams (p : Nat) : List ParamDef :=
  let g := P.pairFunc p
  [ ⟨g, .groupedStandstill, true, 0, 9, pairFuncDefault p, 0, g, 1⟩,
    ⟨g + 1, .groupedStandstill, true, 5, 50, 20, 10, g, 1⟩ ]

/-- The parameters of bus controller `x` (R520): the timing group, and BUS_x_TX_ATTEMPTS. -/
def busParams (x : Nat) : List ParamDef :=
  let g := P.busField x 0
  let t (k : Nat) (lo hi d : Int) : ParamDef := ⟨g + k, .groupedStandstill, true, lo, hi, d, 0, g, 1⟩
  [ t 0 0 3 (if x = 0 then 2 else 0), t 1 1 32 1, t 2 2 255 63, t 3 1 128 16, t 4 1 128 16, t 5 1 8 1,
    t 6 1 63 15, t 7 1 32 4, t 8 1 32 4, t 9 0 1 1, t 0x0A 0 127 16, t 0x0B 0 1 0, t 0x0C 1 63 5,
    t 0x0D 1 63 15, t 0x0E 0 63 0, t 0x0F 0 1 0, ⟨g + 0x10, .live, false, 0, 255, 8, 0, 0, 1⟩ ]

/-- The group of telegram connection `c` (R548). -/
def connParams (c : Nat) : List ParamDef :=
  let g := P.connField c 0
  let t (k : Nat) (lo hi d : Int) (unit : Nat) : ParamDef := ⟨g + k, .groupedStandstill, true, lo, hi, d, unit, g, 1⟩
  [ t 0 0 5 0 0, t 1 0 1 0 0, t 2 0 0x9FFFFFFF 0 0, t 3 1 0xFFFFFFFF 1 0, t 4 0 2 1 0, t 5 5 100 25 10, t 6 1 20 5 10 ]

/-- The parameters of one block, named by the high byte of their IDs, in ascending order. -/
def blockParams (block : Nat) : List ParamDef :=
  if block = 0x01 then systemParams1
  else if block = 0x02 then doorwayParams1 ++ doorwayParams2
  else if block = 0x03 then plannerParams1 ++ plannerParams2 ++ plannerParams3
  else if block = 0x04 then
    pilotParams1.filter (fun d => decide (d.id < 0x0420)) ++ pilotParams2.filter (fun d => decide (d.id < 0x0420))
      ++ (upTo 4).flatMap loopParams
      ++ pilotParams1.filter (fun d => decide (0x0438 ≤ d.id)) ++ pilotParams2.filter (fun d => decide (0x0438 ≤ d.id))
      ++ (upTo 4).flatMap (fun c => (upTo 8).flatMap (fun n => sectionParams c (n + 1)))
  else if block = 0x05 then sextantParams1
  else if block = 0x06 then driveParams1 ++ driveParams2
  else if block = 0x07 then skinParams1 ++ skinParams2
  else if block = 0x08 then obstacleParams1 ++ obstacleParams2
  else if block = 0x09 then (upTo 12).flatMap loadChannelParams ++ loadParams1
  else if block = 0x0A then
    binnacleParams1.filter (fun d => decide (d.id < 0x0A10)) ++ (upTo 8).flatMap pairParams
      ++ binnacleParams1.filter (fun d => decide (0x0A20 ≤ d.id))
  else if block = 0x0B then busParams 0 ++ busParams 1
  else if block = 0x0C then chronParams1 ++ (upTo 12).flatMap connParams
  else if block = 0x0D then logParams1
  else []

/-- Every parameter in ascending order of ID: also the entries of a parameter image (R128). -/
def allParams : List ParamDef := (upTo 13).flatMap (fun b => blockParams (b + 1))

/-- Finds a parameter by its ID within a table. -/
def findParam (id : Nat) : List ParamDef → Option ParamDef
  | [] => none
  | d :: ds => if d.id = id then some d else findParam id ds

/-- The table row of an ID. -/
def paramDef? (id : Nat) : Option ParamDef := findParam id (blockParams (id / 256))

/-- The default of a parameter, 0 where the ID names none. -/
def paramDefault (id : Nat) : Int := match paramDef? id with
  | some d => d.dflt
  | none => 0

/-- Within Range, on the step of the Range cell (R13). -/
def ParamDef.inRange (d : ParamDef) (v : Int) : Bool :=
  decide (d.lo ≤ v) && decide (v ≤ d.hi) && decide ((v - d.lo) % (d.step : Int) = 0)

/-- The type code of R126: 0 uint16, 1 int16, 2 uint32, 3 int32. -/
def ParamDef.typeCode (d : ParamDef) : Nat :=
  if d.unit = 8 then 1
  else if 1 ≤ d.unit ∧ d.unit ≤ 7 then 3
  else if d.lo < 0 then 3
  else if 65535 < d.hi then 2
  else 0

/-- The value that 4 bytes on the wire carry for the parameter (R121): sign-extended or zero-extended from its type, so a signed type is read as two's complement. -/
def ParamDef.ofWire (d : ParamDef) (w : Nat) : Int :=
  if d.typeCode = 1 ∨ d.typeCode = 3 then toSigned 32 w else (w : Int)

/-- The fields of the group that an ID names as its lowest field, in ascending order (R122). -/
def groupFields (g : Nat) : List ParamDef :=
  if g = 0 then [] else (blockParams (g / 256)).filter (fun d => decide (d.group = g))

/-- The number of R126 for a timing class. -/
def TimingClass.code : TimingClass → Nat
  | .live => 0
  | .standstill => 1
  | .grouped => 2
  | .groupedStandstill => 3

end Sys2Proof.Machine
end

