-- ==== Sys2Proof/Machine/Checks.lean ====
section
/-! DEFINITION. The consistency checks of parameter groups by their codes (R124), each on the values that would be in force after the commit (rule stated with R229): R35, R97, R139, R188, R229, R272, R305, R330, R373, R406, R434, R487, R521, R549. -/

namespace Sys2Proof.Machine

/-- Values by parameter ID. -/
abbrev Values := Nat → Int

/-- `a` requires `b`. -/
def needs (a b : Bool) : Bool := !a || b

/-! ### System (R35, R97, R139) -/

/-- An identifier of R139, "host-id-form". -/
def hostIdForm (id : Int) : Bool :=
  if id < 0x80000000 then decide (id ≤ 0x7FF) else decide (id < 0xA0000000)

/-- Checks 0x0101 to 0x0106. -/
def checkSystem (code : Nat) (v : Values) : Bool :=
  let arr := v P.SYS_LEAF_ARRANGEMENT
  let role := v P.SYS_DRIVE_ROLE
  let idIn := v P.SYS_HOST_CAN_ID_IN
  let idOut := v P.SYS_HOST_CAN_ID_OUT
  let seg := v P.SYS_HOST_SEG_SIZE
  let xl := decide (v P.SYS_HOST_CAN_FORMAT = 1)
  match code with
  | 0x0101 => if arr = 2 then decide (role = 1 ∨ role = 2) else decide (role = 0)
  | 0x0102 => needs (decide (role = 2)) (decide (v P.SYS_STEP_FITTED = 0))
  | 0x0103 => decide (v P.SYS_AVS_MIN ≤ v P.SYS_AVS_MAX - 50) && decide (v P.SYS_AVS_MIN ≤ 1200) && decide (1200 ≤ v P.SYS_AVS_MAX)
  | 0x0104 => hostIdForm idIn && hostIdForm idOut && needs xl (decide (idIn < 0x80000000) && decide (idOut < 0x80000000))
  | 0x0105 => decide (idIn ≠ idOut)
  | _ => if xl then decide (64 ≤ seg) && decide (seg ≤ 2048) else decide (seg = 32 ∨ seg = 48 ∨ seg = 64)

/-! ### Doorway (R188) -/

/-- Checks 0x0201 to 0x0205. -/
def checkDoorway (code : Nat) (v : Values) : Bool :=
  let landfall := decide (v P.DOOR_LANDFALL_ENABLE = 1)
  let lockFast := decide (v P.DOOR_LOCK_TIME ≤ 350)
  match code with
  | 0x0201 => if v P.DOOR_REVERSE_MODE = 0 then decide (20000 ≤ v P.DOOR_REVERSE_DISTANCE) else decide (v P.DOOR_REVERSE_DISTANCE = 0)
  | 0x0202 => needs landfall lockFast
  | 0x0203 => needs landfall (lockFast && !(decide (v P.SYS_LEAF_ARRANGEMENT = 2) && decide (v P.SYS_DRIVE_ROLE = 2)))
  | 0x0204 => !bitAt (v P.LCH_JURY_MASK).toNat (v P.DOOR_LOCK_CHANNEL).toNat
  | _ => needs (decide (v P.DOOR_STEP_DEPLOY_AT ≠ 0)) (decide (v P.SYS_STEP_FITTED = 1))

/-! ### Planner (R229) -/

/-- Jerk against the ramps of the group at a base (checks 0x0301 and 0x0303). -/
def jerkHolds (base : Nat) (v : Values) : Bool :=
  decide (2 * v base ≤ v (base + 2)) && decide (2 * v (base + 1) ≤ v (base + 2)) && decide (v (base + 1) ≤ v P.PLAN_EMERG_DEC)

/-- The final distance against D(FINAL_SPEED, 0) of R196, exactly (checks 0x0302 and 0x0304). -/
def finalHolds (base : Nat) (v : Values) : Bool :=
  let a := v (base + 1)
  let j := v (base + 2)
  let s := v (base + 3)
  let dist := v (base + 4)
  if s = 0 then decide (dist = 0)
  else if a * a ≤ s * j then decide (s * (s * j + a * a) ≤ 2 * dist * a * j)
  else decide (s * s * s ≤ dist * dist * j)

/-- Checks 0x0301 to 0x0309. -/
def checkPlanner (code : Nat) (v : Values) : Bool :=
  let emerg := v P.PLAN_EMERG_DEC
  match code with
  | 0x0301 => jerkHolds P.PLAN_OPEN_ACC v
  | 0x0302 => finalHolds P.PLAN_OPEN_ACC v
  | 0x0303 => jerkHolds P.PLAN_CLOSE_ACC v
  | 0x0304 => finalHolds P.PLAN_CLOSE_ACC v
  | 0x0305 => decide (v P.PLAN_OPEN_DEC ≤ emerg) && decide (v P.PLAN_CLOSE_DEC ≤ emerg) && decide (2 * emerg ≤ v P.PLAN_EMERG_JERK)
  | 0x0306 => decide (v P.PLAN_TRAP_VSTART ≤ v P.PLAN_TRAP_V1) && decide (v P.PLAN_TRAP_VSTOP ≤ v P.PLAN_TRAP_V1)
  | 0x0307 =>
    decide (2 * v P.PLAN_STEP_ACC ≤ v P.PLAN_STEP_JERK) && decide (v P.PLAN_STEP_ACC ≤ v P.PLAN_STEP_EMERG_DEC)
      && decide (2 * v P.PLAN_STEP_EMERG_DEC ≤ v P.PLAN_STEP_EMERG_JERK)
  | 0x0308 =>
    decide (v P.PLAN_STEP_I_MIN ≤ v P.PLAN_STEP_I_RUN) && decide (v P.PLAN_STEP_I_RUN ≤ v P.PLAN_STEP_I_MAX)
      && decide (v P.PLAN_STEP_I_HOLD ≤ v P.PLAN_STEP_I_MAX)
  | _ =>
    decide (2 * v P.PLAN_HOME_SLOW ≤ v P.PLAN_HOME_FAST)
      && decide (v P.PLAN_STEP_EXT_MAX + v P.PLAN_HOME_OFFSET ≤ v P.PLAN_HOME_MAX_TRAVEL)
      && needs (decide (v P.PLAN_HOME_SWITCH = 0)) (decide (v P.PLAN_STEP_RET_ZONE < v P.PLAN_HOME_OFFSET))

/-! ### Pilot (R272) -/

/-- A coefficient of the section group at `g` in units of 2⁻³¹ (R233): field 0 b0, 1 b1, 2 b2, 3 a1, 4 a2. -/
def coefOf (g field : Nat) (v : Values) : Int := v (g + field) * 2 ^ bitsAt (v (g + 5)).toNat (4 * field + 3) (4 * field)

/-- One in units of 2⁻³¹. -/
abbrev coefOne : Int := 2147483648

/-- The loop of a loop group or section group. -/
def loopOfGroup (g : Nat) : Nat := if g < 0x0440 then (g - 0x0420) / 6 else (g - 0x0440) / 48

/-- "section-stable" for the section group `g`. -/
def sectionStable (g : Nat) (v : Values) : Bool :=
  let c := loopOfGroup g
  let n := (g - 0x0440) % 48 / 6 + 1
  let a1 := coefOf g 3 v
  let a2 := coefOf g 4 v
  decide (v (P.loopField c 1) = n) || (decide (a2.natAbs < coefOne) && decide (a1.natAbs < coefOne + a2))

/-- "loop-form" for a loop. -/
def loopForm (c : Nat) (v : Values) : Bool :=
  let sections := (v (P.loopField c 0)).toNat
  let int := (v (P.loopField c 1)).toNat
  let at0 := P.sectionField c int 0
  let positive (n : Nat) : Bool :=
    let g := P.sectionField c n 0
    decide (0 < (coefOf g 0 v + coefOf g 1 v + coefOf g 2 v) * (coefOne + coefOf g 3 v + coefOf g 4 v))
  decide (v (P.loopField c 4) < v (P.loopField c 3)) && decide (int ≤ sections)
    && (int = 0 || (decide (coefOf at0 3 v = -coefOne) && decide (coefOf at0 4 v = 0)
      && (List.range (sections - int)).all fun k => positive (int + 1 + k)))

/-- Checks 0x0401 to 0x0405, the first two for the item that owns group `g`. -/
def checkPilot (code g : Nat) (v : Values) : Bool :=
  match code with
  | 0x0401 => sectionStable g v
  | 0x0402 => loopForm (loopOfGroup g) v
  | 0x0403 => decide (v P.PILOT_OBS_MIN_SPEED ≤ v P.PILOT_PLAUS_SPEED_ABS)
  | 0x0404 => decide (2 * v P.PILOT_OBS_MIN_SPEED ≤ v P.PILOT_DR_CREEP_SPEED) && decide (v P.PILOT_DR_CREEP_SPEED ≤ v P.PLAN_TRAP_V1)
  | _ => decide (8 * v P.PILOT_LEARN_STEP_MAX ≤ v P.PILOT_FRIC_MAX) && decide (v P.PILOT_ANOM_SUDDEN < v P.PILOT_FRIC_MAX)

/-! ### Sextant and power stage (R305, R330) -/

/-- Checks 0x0501 to 0x0504. -/
def checkSextant (code : Nat) (v : Values) : Bool :=
  let um := v P.SEXT_UM_PER_EDGE
  let inside (lim : Int) : Bool := decide ((roundDiv (lim * 256) um.toNat).natAbs ≤ 8000000)
  match code with
  | 0x0501 => decide (4 * v P.SEXT_HALL_FILTER_N * v P.SEXT_SPEED_MAX ≤ um * 10000000)
  | 0x0502 => decide (um * 1000 ≤ v P.PLAN_STANDSTILL_SPEED * v P.SEXT_SPEED_TIMEOUT)
  | 0x0503 => decide (16 * um ≤ v P.SEXT_SOFT_HIGH - v P.SEXT_SOFT_LOW) && inside (v P.SEXT_SOFT_LOW) && inside (v P.SEXT_SOFT_HIGH)
  | _ => decide (2 * v P.SEXT_INDEX_WINDOW * um ≤ v P.PLAN_OPEN_END)

/-- A current in mA is at most 0.95 of the full scale of its chain (R312): gain code and shunt in µΩ. -/
def belowScale (i gain shunt : Int) : Bool := decide (i * (5 * 2 ^ gain.toNat * shunt) * 100 ≤ 95 * 1650000000)

/-- Checks 0x0601 to 0x0605. -/
def checkDrive (code : Nat) (v : Values) : Bool :=
  let eighth : Int := if v P.DRV_PWM_FREQ = 1 then 3125 else 6250
  match code with
  | 0x0601 => decide (v P.DRV_DEAD_MIN ≤ v P.DRV_DEAD_MAX) && decide (v P.DRV_DEAD_MARGIN < v P.DRV_DEAD_MAX)
  | 0x0602 => decide (v P.DRV_SENSE_WINDOW + 2 * v P.DRV_DEAD_MAX ≤ eighth)
  | 0x0603 =>
    belowScale (v P.DRV_OC_LEAF) (v P.DRV_LEAF_GAIN) (v P.DRV_LEAF_SHUNT)
      && belowScale (v P.DRV_OC_STEP) (v P.DRV_STEP_GAIN) (v P.DRV_STEP_SHUNT)
      && decide (v P.DRV_SHORT_I_LIMIT < v P.DRV_OC_LEAF)
  | 0x0604 => decide (v P.DRV_VDS_BLANK ≤ v P.DRV_SENSE_WINDOW)
  | _ => decide (v P.DRV_VBUS_REGEN_START + v P.DRV_VBUS_HYST ≤ v P.DRV_VBUS_OV)

/-! ### Skin and obstacle (R373, R406) -/

/-- Checks 0x0701 to 0x0705. -/
def checkSkin (code : Nat) (v : Values) : Bool :=
  match code with
  | 0x0701 => needs (decide (v P.SKIN_B_LINK = 1)) (decide (v P.SYS_LEAF_ARRANGEMENT = 1))
  | 0x0702 => needs (decide (v P.SKIN_C_LINK = 1)) (decide (v P.SYS_STEP_FITTED = 1))
  | 0x0703 => decide (2 * v P.SKIN_DELTA_BAND ≤ v P.SKIN_THR_MIN)
  | 0x0704 => decide (v P.SKIN_THR_MIN ≤ v P.SKIN_THR_INIT) && decide (v P.SKIN_THR_INIT ≤ v P.SKIN_THR_MAX)
  | _ => decide (2 * v P.SKIN_THR_MAX ≤ v P.SKIN_OUTLIER)

/-- Roles of the fitted edges (R388). -/
def fittedRoles (v : Values) : List Int :=
  ([(P.SKIN_A_EDGE, P.OBST_EDGE_A_ROLE), (P.SKIN_B_EDGE, P.OBST_EDGE_B_ROLE), (P.SKIN_C_EDGE, P.OBST_EDGE_C_ROLE)].filter
    fun e => decide (v e.1 ≠ 0)).map fun e => v e.2

/-- Checks 0x0801 to 0x0805. -/
def checkObstacle (code : Nat) (v : Values) : Bool :=
  let touch := v P.OBST_SEAL_TOUCH + v P.OBST_SEAL_SKEW
  let both := decide (v P.SYS_LEAF_ARRANGEMENT = 1)
  let roles := fittedRoles v
  match code with
  | 0x0801 =>
    decide (v P.OBST_FORCE_CLOSE + v P.OBST_SEAL_FORCE < v P.PILOT_FORCE_LIMIT_CLOSE)
      && decide (v P.OBST_FORCE_DEGRADED ≤ v P.OBST_FORCE_CLOSE) && decide (v P.OBST_FORCE_OPEN < v P.PILOT_FORCE_LIMIT_OPEN)
  | 0x0802 =>
    decide (touch ≤ 40000) && decide (touch ≤ v P.PLAN_CLOSE_FINAL_DIST) && decide (v P.PLAN_CLOSE_FINAL_SPEED ≠ 0)
      && decide (v P.OBST_SEAL_ROW_FIRST < v P.OBST_SEAL_ROW_LAST)
  | 0x0803 =>
    decide (v P.OBST_THIN_CORE ≤ v P.OBST_THIN_EXTENT) && decide (v P.OBST_THIN_COLS ≤ v P.OBST_THIN_EXTENT)
      && decide (v P.OBST_PRECIP_PEAK < v P.OBST_BAR_PEAK)
  | 0x0804 => decide (v P.OBST_SEAL_ROW_LAST - v P.OBST_SEAL_ROW_FIRST + 1 < v P.OBST_PINCH_ROWS)
  | _ =>
    needs (roles.contains 1) both && needs (roles.contains 3) (decide (v P.SYS_STEP_FITTED = 1))
      && (decide (v P.SKIN_A_LINK = 1) || roles.contains 0) && needs both (decide (v P.SKIN_B_LINK = 1) || roles.contains 1)

/-! ### Load channels (R434) -/

/-- The enabled lamp pairs, primary and secondary (R420). -/
def enabledPairs (v : Values) : List (Nat × Nat) :=
  [(0, 8), (1, 10)].filterMap fun e => if bitAt (v P.LCH_PAIR_ENABLE).toNat e.1 then some (e.2, e.2 + 1) else none

/-- Checks 0x0901 to 0x0905. -/
def checkLoad (code : Nat) (v : Values) : Bool :=
  let mask := (v P.LCH_JURY_MASK).toNat
  let map (n : Nat) : Nat := bitsAt (v P.LCH_JURY_MAP).toNat (2 * n + 1) (2 * n)
  let kind (n : Nat) : Int := v (P.loadField n 0)
  let all12 (p : Nat → Bool) : Bool := (List.range 12).all p
  match code with
  | 0x0901 => decide (((List.range 12).map fun n => if kind n = 0 then 0 else v (P.loadField n 1)).foldl (· + ·) 0 ≤ 16000)
  | 0x0902 => !bitAt mask (v P.DOOR_LOCK_CHANNEL).toNat
  | 0x0903 => all12 fun n => bitAt mask n || decide (map n = 0)
  | 0x0904 =>
    (all12 fun n => needs (bitAt mask n) (decide (kind n ≠ 0)))
      && (enabledPairs v).all fun p => decide (kind p.1 = 2) && decide (kind p.2 = 2)
  | _ => (enabledPairs v).all fun p => decide (bitAt mask p.1 = bitAt mask p.2) && needs (bitAt mask p.1) (decide (map p.1 = map p.2))

/-! ### Binnacle (R487) -/

/-- Checks 0x0A01 to 0x0A05, "pair-unique" for the pair that owns group `g`. -/
def checkBinnacle (code g : Nat) (v : Values) : Bool :=
  let func (p : Nat) : Int := v (P.pairFunc p)
  let carried (f : Int) : Bool := (List.range 8).any fun p => decide (func p = f)
  let src := (v P.BIN_SIN_SRC).toNat
  let room (s : Int) : Bool := decide (s * s * v P.BIN_MASS * 400 ≤ 361 * (2 * v P.BIN_ENERGY_MAX * 1000000000000))
  match code with
  | 0x0A01 => (List.range 8).all fun p => decide (bitsAt src (4 * p + 1) (4 * p) ≠ bitsAt src (4 * p + 3) (4 * p + 2))
  | 0x0A02 =>
    let p := (g - 0x0A10) / 2
    decide (func p = 0) || (List.range 8).all fun q => decide (q = p) || decide (func q ≠ func p)
  | 0x0A03 =>
    carried 1 && carried 2 && carried 7 && decide (carried 3 = decide (v P.SYS_LEAF_ARRANGEMENT = 1))
      && decide (carried 8 = decide (v P.SYS_STEP_FITTED = 1)) && decide (carried 9 = decide (v P.BIN_RELEASE_SOURCE ≠ 0))
  | 0x0A04 => decide (v P.BIN_UM_PER_EDGE = v P.SEXT_UM_PER_EDGE) && decide (v P.BIN_HALL_SENSE = v P.SEXT_HALL_SENSE)
  | _ => room (v P.PLAN_OPEN_SPEED) && room (v P.PLAN_CLOSE_SPEED)

/-! ### Bus (R521) -/

/-- Checks 0x0B01 to 0x0B05 for the controller that owns group `g`; bit times in CANCLK periods. -/
def checkBus (code g : Nat) (v : Values) : Bool :=
  let f (k : Nat) : Int := v (g + k)
  let nominal := f 1 * (1 + f 2 + f 3)
  let data := f 5 * (1 + f 6 + f 7)
  match code with
  | 0x0B01 => decide (40 ≤ nominal) && decide (nominal ≤ 4000)
  | 0x0B02 => needs (decide (2 ≤ f 0)) (decide ((if f 0 = 2 then (5 : Int) else 4) ≤ data) && decide (data ≤ nominal))
  | 0x0B03 => decide (f 4 ≤ f 3) && decide (f 4 ≤ f 2) && decide (f 8 ≤ f 7)
  | 0x0B04 => needs (decide (data < 40)) (decide (f 9 = 1)) && decide (f 0x0A ≤ data)
  | _ =>
    needs (decide (f 0x0B = 1))
      (decide (f 0 = 3) && decide (f 0x0C < f 0x0D) && decide (f 0x0C + f 0x0D = data) && decide (f 0x0E < f 0x0C + f 0x0D))

/-! ### Chronometer (R549) -/

/-- Field `k` of connection `c`. -/
def connVal (v : Values) (c k : Nat) : Int := v (P.connField c k)

/-- An identifier is one of the eight reference identifiers. -/
def isReference (v : Values) (id : Int) : Bool := decide (v P.CHRON_REF_ID ≤ id) && decide (id ≤ v P.CHRON_REF_ID + 7)

/-- An identifier is one of the host's. -/
def isHostId (v : Values) (id : Int) : Bool := decide (id = v P.SYS_HOST_CAN_ID_IN) || decide (id = v P.SYS_HOST_CAN_ID_OUT)

/-- "tg-ids" for connection `c`. -/
def connIds (v : Values) (c : Nat) : Bool :=
  let id := connVal v c 2
  let bus := connVal v c 1
  decide (connVal v c 0 = 0)
    || ((List.range 12).all (fun e => decide (e = c) || decide (connVal v e 0 = 0) || decide (connVal v e 2 ≠ id) || decide (connVal v e 1 ≠ bus))
      && needs (decide (v P.SYS_HOST_CHANNEL = bus + 1)) (!isHostId v id)
      && needs (decide (v P.CHRON_ROLE ≠ 0) && decide (v P.CHRON_REF_BUS = bus)) (!isReference v id)
      && needs (decide (connVal v c 4 = 2)) (decide (id ≤ 0x7FF)))

/-- Checks 0x0C01 to 0x0C07, those of a connection for the item that owns group `g`; the time group stands for every connection. -/
def checkChron (code g : Nat) (v : Values) : Bool :=
  let c := (g - 0x0C10) / 8
  let used := decide (connVal v c 0 ≠ 0)
  let count (k : Int) : Nat := ((List.range 12).filter fun e => decide (connVal v e 0 = k)).length
  let mode (bus : Int) : Int := v (P.busField bus.toNat 0)
  let role := v P.SYS_DRIVE_ROLE
  match code with
  | 0x0C01 =>
    needs (decide (v P.CHRON_ROLE ≠ 0)) (decide (2 ≤ mode (v P.CHRON_REF_BUS)))
      && needs (decide (v P.SYS_HOST_CHANNEL = v P.CHRON_REF_BUS + 1))
        (!isReference v (v P.SYS_HOST_CAN_ID_IN) && !isReference v (v P.SYS_HOST_CAN_ID_OUT))
  | 0x0C02 =>
    decide (count 1 ≤ 1) && decide (count 2 ≤ 1) && decide (count 3 ≤ 1) && decide (count 4 = if role = 2 then 1 else 0)
      && decide (count 5 = if role = 1 ∧ v P.SYS_LEAF_ARRANGEMENT = 2 then 1 else 0)
  | 0x0C03 => if g < 0x0C10 then (List.range 12).all (connIds v) else connIds v c
  | 0x0C04 =>
    !used || (List.range 12).all fun e => decide (e = c) || decide (connVal v e 0 = 0) || decide (connVal v e 3 ≠ connVal v c 3)
  | 0x0C05 =>
    let m := mode (connVal v c 1)
    !used || (if connVal v c 4 = 2 then decide (m = 3) else decide (2 ≤ m))
  | 0x0C06 => decide (0 < count 3) || (decide (v P.DOOR_LANDFALL_ENABLE = 0) && decide (v P.BIN_RELEASE_SOURCE = 1))
  | _ => decide (connVal v c 6 < connVal v c 5)

/-! ### Groups and their checks -/

/-- The checks that a group's commit runs, in ascending order of code. -/
def codesOf (g : Nat) : List Nat :=
  if 0x0420 ≤ g ∧ g < 0x0438 then [0x0402]
  else if 0x0440 ≤ g ∧ g < 0x0500 then [0x0401, 0x0402]
  else if 0x0900 ≤ g ∧ g < 0x0960 then [0x0901, 0x0904]
  else if 0x0A10 ≤ g ∧ g < 0x0A20 then [0x0A02, 0x0A03]
  else if g = 0x0B00 ∨ g = 0x0B20 then [0x0B01, 0x0B02, 0x0B03, 0x0B04, 0x0B05]
  else if 0x0C10 ≤ g ∧ g < 0x0C70 then [0x0C02, 0x0C03, 0x0C04, 0x0C05, 0x0C06, 0x0C07]
  else match g with
    | 0x0100 => [0x0104, 0x0105, 0x0106]
    | 0x0110 => [0x0101, 0x0102]
    | 0x0124 => [0x0103]
    | 0x0210 => [0x0201]
    | 0x0220 => [0x0202, 0x0204]
    | 0x0230 => [0x0203]
    | 0x0240 => [0x0205]
    | 0x0310 => [0x0301, 0x0302]
    | 0x0320 => [0x0303, 0x0304]
    | 0x0330 => [0x0305]
    | 0x0340 => [0x0306]
    | 0x0360 => [0x0307]
    | 0x0370 => [0x0308]
    | 0x0380 => [0x0309]
    | 0x0410 => [0x0403]
    | 0x0418 => [0x0404]
    | 0x0438 => [0x0405]
    | 0x0510 => [0x0501, 0x0502]
    | 0x0520 => [0x0503]
    | 0x0530 => [0x0504]
    | 0x0610 => [0x0601, 0x0602]
    | 0x0620 => [0x0603, 0x0604]
    | 0x0630 => [0x0605]
    | 0x0708 => [0x0701]
    | 0x0710 => [0x0702]
    | 0x0720 => [0x0703]
    | 0x0730 => [0x0705]
    | 0x0740 => [0x0703, 0x0704, 0x0705]
    | 0x0800 => [0x0801]
    | 0x0810 => [0x0802]
    | 0x0820 => [0x0803]
    | 0x0830 => [0x0804]
    | 0x0850 => [0x0805]
    | 0x0970 => [0x0902, 0x0903, 0x0904, 0x0905]
    | 0x0A00 => [0x0A01]
    | 0x0A20 => [0x0A04, 0x0A05]
    | 0x0A30 => [0x0A03]
    | 0x0C00 => [0x0C01, 0x0C03]
    | _ => []

/-- A check holds for the item that owns a group (R123). -/
def checkHolds (code g : Nat) (v : Values) : Bool :=
  match code / 256 with
  | 1 => checkSystem code v
  | 2 => checkDoorway code v
  | 3 => checkPlanner code v
  | 4 => checkPilot code g v
  | 5 => checkSextant code v
  | 6 => checkDrive code v
  | 7 => checkSkin code v
  | 8 => checkObstacle code v
  | 9 => checkLoad code v
  | 10 => checkBinnacle code g v
  | 11 => checkBus code g v
  | _ => checkChron code g v

/-- Numbers put into an ascending list without repeats. -/
def insertNew (n : Nat) : List Nat → List Nat
  | [] => [n]
  | m :: ms => if n = m then m :: ms else if n < m then n :: m :: ms else m :: insertNew n ms

/-- A list in ascending order, each number once. -/
def ascending (l : List Nat) : List Nat := l.foldr insertNew []

/-- The first failure of the checks of some groups, in ascending order of code: group and code (R123). -/
def firstFailure (groups : List Nat) (v : Values) : Option (Nat × Nat) :=
  let gs := ascending groups
  let codes := ascending (gs.flatMap codesOf)
  codes.findSome? fun c => (gs.find? fun g => (codesOf g).contains c && !checkHolds c g v).map fun g => (g, c)

/-- The names of every group. -/
def groupNames : List Nat := (allParams.filter fun p => decide (p.group = p.id)).map (·.id)

end Sys2Proof.Machine
end

