-- ==== Sys2Proof/Config.lean ====
section
/-! DEFINITION. What one module or one implementation fixes and the manual leaves open, as constants with no body: nothing can be proved of their values. -/

namespace Sys2Proof.Machine

/-- The grade letter of the module, one ASCII byte (R41). -/
opaque Config.grade : Nat

/-- The silicon revision that IDENTIFY reports (R614). -/
opaque Config.revision : Nat

/-- The serial number marked on the module (R67). -/
opaque Config.serial : Nat

/-- The firmware version in the header of an image of a length and CRC-32C (R614): the manual lays the header out nowhere. -/
opaque Config.fwVersion : Nat → Nat → Nat

/-- The safety build in the header of an image of a length and CRC-32C (R470, R474). -/
opaque Config.safetyBuild : Nat → Nat → Nat

/-- Whether bytes that verify against their CRC form an image with a valid header. -/
opaque Config.imageHeader : Nat → Nat → Bool

/-- A free bit for the n-th draw: what the manual says may or may not happen. -/
opaque Config.freeBit : Nat → Bool

/-- A free number for the n-th draw. -/
opaque Config.freeValue : Nat → Nat

end Sys2Proof.Machine
end

