-- ==== Sys2Proof/Machine/State.lean ====
section
/-! DEFINITION. The state of the device: every register, buffer, count, mode and pad level the manual names, as plain data; the faults and refusals; the state after reset. -/

namespace Sys2Proof.Machine

/-! ### Host interface (chapter 04) -/

/-- One entry of the command journal, as its newer slot holds it (R129, R130). -/
structure JSlot where
  /-- 0 free, 1 received, 2 executing, 3 reply queued, 4 reply sent. -/
  state : Nat := 0
  opcode : Nat := 0
  tag : Nat := 0
  flags : Nat := 0
  length : Nat := 0
  /-- Journal write count, modulo 65,536, at its last write. -/
  seq : Nat := 0
  /-- Chronometer time at receipt. -/
  accept : Nat := 0
  /-- Chronometer time of the last state change. -/
  change : Nat := 0
  bodyCheck : Nat := 0
  /-- Completion status, from state 3 on. -/
  status : Nat := 0
  progress : Nat := 0
  deriving DecidableEq, Repr

/-- A journal entry (R130): the slot written last, and the other one, as it stood before. -/
structure JEntry extends JSlot where
  /-- Both slots fail their checks. -/
  torn : Bool := false
  /-- The slot that the next write goes to. -/
  older : JSlot := {}
  deriving DecidableEq, Repr

/-- A command in flight: accepted, its reply not yet left (R112). -/
structure Flight where
  /-- Its journal entry. -/
  slot : Nat
  tag : Nat
  opcode : Nat
  /-- Its completion reply is queued. -/
  replied : Bool := false
  deriving DecidableEq, Repr

/-- A packet waiting to leave (R134: events and replies leave in the order they were queued). -/
structure OutPacket where
  /-- An event packet; otherwise a reply. -/
  event : Bool
  /-- The event's sequence number, or the reply's journal entry. -/
  key : Nat
  /-- The event's source; 0 for a reply. -/
  source : Nat := 0
  bytes : List Byte
  deriving DecidableEq, Repr

/-- An event that arose before the host interface opened (R577). -/
structure HeldEvent where
  source : Nat
  severity : Nat
  data : List Byte
  time : Nat
  deriving DecidableEq, Repr

/-- A condition of a standing source that holds (R576). -/
structure Standing where
  source : Nat
  subject : Nat
  severity : Nat
  deriving DecidableEq, Repr

/-- The host channel settings in force (R98, R99). -/
structure HostChannel where
  /-- 0 SPI, 1 controller A, 2 controller B. -/
  channel : Nat := 0
  /-- 0 CAN FD, 1 CAN XL. -/
  format : Nat := 0
  idIn : Nat := 0xF0
  idOut : Nat := 0xF1
  segSize : Nat := 64
  deriving DecidableEq, Repr

/-- The packet being joined from CAN segments (R108 to R110). -/
structure Reassembly where
  bytes : List Byte
  /-- The next segment number. -/
  next : Nat
  /-- The packet sequence of its segments. -/
  seq : Nat
  /-- Time of the last segment. -/
  last : Nat
  deriving DecidableEq, Repr

/-- Work of an accepted order that ends outside the command engine, by ORDER_COMPLETED: the flash, the smart-power link or the memory. -/
inductive Job where
  /-- FW_LOAD_BEGIN: erase of a bank for an image of a length. -/
  | fwErase (bank length : Nat)
  /-- FW_LOAD_DATA: bytes at an offset. -/
  | fwWrite (off : Nat) (data : List Byte)
  /-- FW_LOAD_END: verification against a CRC-32C. -/
  | fwVerify (crc : Nat)
  /-- PARAM_IMAGE_SAVE: the working set and the tables saved with it. -/
  | imageSave
  /-- PARAM_IMAGE_INSTALL of a checked image. -/
  | imageInstall (values : List (Nat × Int))
  /-- PARAM_FACTORY. -/
  | factory
  /-- JURY_MASK_SET, or a commit that names the pair and jury group: its writes, and the staged groups it clears. -/
  | juryWrite (writes : List (Nat × Int)) (groups : List Nat)
  /-- SEAL_CONFIRM: the seal record. -/
  | sealStore (value : Nat)
  /-- LOG_ERASE of the ring and/or the trace slots. -/
  | logErase (what : Nat)
  /-- The bridge check of R324, for DOOR_FAULT_CLEAR or STEP_RETRACT. -/
  | bridgeCheck (step : Bool)
  deriving DecidableEq, Repr

/-- An accepted order waiting for its job. -/
structure JobOrder where
  slot : Nat
  job : Job
  deriving DecidableEq, Repr

/-- The host interface (subsystem 1). -/
structure HostSide where
  /-- The interface is open: step 8 of start-up or the boot ROM (R84, R85). -/
  isOpen : Bool := false
  chan : HostChannel := {}
  /-- A committed host channel group waits for its reply to leave (R99): the settings and the reply's journal entry. -/
  chanSwitch : Option (HostChannel × Nat) := none
  /-- SCS_N is low. -/
  selected : Bool := false
  /-- The bytes of the inbound SPI packet so far. -/
  spiIn : List Byte := []
  /-- Time of the last inbound byte of it. -/
  spiLast : Nat := 0
  /-- Bytes the last SPI transaction shifted out on SDO, status byte first. -/
  spiOut : List Byte := []
  reasm : Option Reassembly := none
  /-- Packet sequence of the host's previous packet (R110). -/
  prevSeq : Option Nat := none
  /-- Packet sequence whose further segments are dropped (R111). -/
  dropSeq : Option Nat := none
  /-- Packet sequence of the device's next packet on CAN (R108). -/
  txSeq : Nat := 0
  flights : List Flight := []
  jobs : List JobOrder := []
  out : List OutPacket := []
  /-- Bytes of the front packet that have left. -/
  outPos : Nat := 0
  /-- 192 event mask bits, bit per source, 1 enables sending (R135). -/
  mask : BitVec 192 := BitVec.allOnes 192
  /-- Masked counts per source (R136). -/
  masked : List (Nat × Nat) := []
  /-- Lost counts per source (R136). -/
  lost : List (Nat × Nat) := []
  /-- Events lost per group since the last "events lost" event (R136). -/
  lostSince : List Nat := [0, 0, 0, 0, 0, 0]
  held : List HeldEvent := []
  standing : List Standing := []
  /-- Time of the last valid packet, or of the opening of the interface (R138). -/
  lastValid : Nat := 0
  /-- Sequence of the event that reports the cause for which orders are ending, where it is not the event raised last (R116). -/
  cause : Option Nat := none
  deriving DecidableEq, Repr

/-! ### Parameters (chapters 00 and 04) -/

/-- Writes of one accepted PARAM_WRITE or PARAM_COMMIT that wait for their block boundaries (R16, R114). -/
structure PendingWrite where
  /-- Its journal entry. -/
  slot : Nat
  /-- The writes not yet in force. -/
  writes : List (Nat × Int)
  /-- The staged groups that a commit clears; none for PARAM_WRITE. -/
  groups : List Nat := []
  /-- The command took the device out of the Sealed state. -/
  broke : Bool := false
  deriving DecidableEq, Repr

/-- A staged parameter group (R122). -/
structure Staged where
  group : Nat
  values : List Int
  deriving DecidableEq, Repr

/-- The parameter store in SRAM (R125, R127). -/
structure Params where
  /-- The working set: every value that differs from its default. -/
  working : List (Nat × Int) := []
  waiting : List PendingWrite := []
  staged : List Staged := []
  /-- The image staging buffer of 12,304 bytes: the bytes loaded. -/
  buffer : List (Nat × Option Byte) := []
  deriving DecidableEq, Repr

/-- One firmware bank in flash (R119, R614). -/
structure Bank where
  /-- It holds an image that verified. -/
  valid : Bool := false
  version : Nat := 0
  length : Nat := 0
  crc : Nat := 0
  bytes : List Host.Cell := []
  deriving DecidableEq, Repr

/-- A firmware load in progress (R119). -/
structure FwLoad where
  bank : Nat
  length : Nat
  deriving DecidableEq, Repr

/-! ### Doorway sequencer (chapter 05) -/

/-- The copies of Binnacle's inputs as the sequencer last read them (R143 to R145). -/
structure Copies where
  lockMade : Bool := false
  closedA : Bool := false
  closedB : Bool := false
  egress : Bool := false
  access : Bool := false
  isolation : Bool := false
  refsw : Bool := false
  /-- 0 Standstill, 1 Moving, 2 Unknown (R144). -/
  view : Nat := 2
  permit : Bool := false
  inhibit : Bool := false
  deriving DecidableEq, Repr

/-- A doorway order in flight (R150, R185). The opcode is 0x20 DOOR_RELEASE, 0x21 DOOR_OPEN, 0x22 DOOR_CLOSE, 0x23 DOOR_HOLD, 0x24 DOOR_ISOLATE, 0x27 LANDFALL_WITHDRAW or 0x2C DOOR_FAULT_CLEAR. -/
structure DoorOrder where
  opcode : Nat
  /-- Its journal entry; none for an order made inside the device (R183, R174). -/
  slot : Option Nat
  /-- Chronometer start time, 0 for at once (R150). -/
  start : Nat := 0
  /-- Hold time of DOOR_HOLD in ms, or the announced side. -/
  value : Nat := 0
  deriving DecidableEq, Repr

/-- The Landfall sequence (R163 to R169). -/
inductive LandfallPhase where
  | none
  /-- Armed: waits for standstill until its deadline. -/
  | armed (slot deadline : Nat)
  /-- Entry: hold force building, since a time. -/
  | entering (slot start : Nat)
  /-- Entry: lock channel on, waiting for the lock pair. -/
  | unlocking (slot : Nat)
  /-- In Landfall, since a time. -/
  | held (since : Nat)
  /-- Withdrawal from a cause (offset 4 of R541). -/
  | withdrawing (cause : Nat)
  deriving DecidableEq, Repr

/-- The doorway sequencer (subsystem 2). -/
structure Door where
  /-- Code of R140. -/
  state : Nat := 13
  prev : Nat := 13
  /-- Chronometer time of the last change. -/
  changed : Nat := 0
  /-- Code of R141. -/
  step : Nat := 0
  copies : Copies := {}
  /-- Faulted cause of R179. -/
  fault : Nat := 0
  /-- Emergency-released cause of R176. -/
  emerg : Nat := 0
  /-- Holding origin of R160. -/
  origin : Nat := 0
  closingCount : Nat := 0
  openingCount : Nat := 0
  /-- Accepted orders that wait for the next profile update (R146, row 5). -/
  inbox : List DoorOrder := []
  order : Option DoorOrder := none
  /-- An order that waits for its start time (R150). -/
  waitOrder : Option DoorOrder := none
  /-- The copies as the sequencer handled them at the last profile update. -/
  seen : Copies := {}
  /-- Step order in flight: opcode 0x28 or 0x29 and its journal entry. -/
  stepOrder : Option (Nat × Nat) := none
  /-- The sequencer's demand on the lock channel. -/
  lockOn : Bool := false
  /-- Deadline of the lock pair's opening (R149). -/
  unlockBy : Option Nat := none
  /-- Deadline of the lock pair's making (R154). -/
  lockBy : Option Nat := none
  lockRetried : Bool := false
  /-- End of the 200 ms retry pulse (R154). -/
  pulseEnd : Option Nat := none
  /-- End of the closing warning; the leaves move then (R153). -/
  warnEnd : Option Nat := none
  /-- The warning channels flash (R153). -/
  flashing : Bool := false
  /-- The lit half of the 1 Hz flash. -/
  flashOn : Bool := false
  /-- Next change of the flash. -/
  flashNext : Nat := 0
  /-- In the window with the pairs not both made since (R154). -/
  waitPairs : Option Nat := none
  /-- Both pairs made outside the window since (R154). -/
  waitWindow : Option Nat := none
  /-- End of the Holding timer (R160). -/
  holdEnd : Option Nat := none
  /-- A back-off after an opening obstruction runs; otherwise a reversal (R152, R155). -/
  backingOff : Bool := false
  /-- The planner stops the leaves before a reversal or back-off. -/
  stopping : Bool := false
  landfall : LandfallPhase := .none
  /-- The doorway closes to become Isolated (R174). -/
  isolating : Bool := false
  /-- The isolation pair became made in a state that keeps it pending (R174). -/
  isolationPending : Bool := false
  /-- Position nearest the datum since the gates went off, in sub-edges (R176). -/
  nearest : Int := 0
  assist : Bool := false
  /-- The assisted leaves stand since (R176). -/
  assistStill : Option Nat := none
  /-- Reef-suspended flag and, once Reef 2 is back, the resume time (R182). -/
  suspended : Bool := false
  resumeAt : Option Nat := none
  /-- A step order waits for Reef 2 to be left (R182). -/
  stepWaiting : Bool := false
  /-- What waits is a deployment; otherwise it is a retraction. -/
  waitDeploy : Bool := false
  /-- Start of the step's move (R173). -/
  stepSince : Option Nat := none
  /-- The step retracts again from this time (R172). -/
  stepAgain : Option Nat := none
  /-- Obstructed waits for the leaves to rest (R172). -/
  obstructAtRest : Bool := false
  /-- Obstructed waits for the leaves to rest, which then get zero current (R156). -/
  zeroAtRest : Bool := false
  /-- The step homes before its first deployment (R181). -/
  deployAfterHome : Bool := false
  /-- Leaves open once the step is Deployed (R170). -/
  openAfterStep : Bool := false
  /-- Cause of a Landfall withdrawal that the next sequencer report carries (R465). -/
  withdrawFlag : Option Nat := none
  /-- The closing runs at DOOR_SEEK_SPEED until REFSW sets the datum (R180). -/
  seeking : Bool := false
  deriving DecidableEq, Repr

/-! ### Course planner (chapter 06) -/

/-- A set-point: position, speed and acceleration of an axis, each in units of 2^-20 µm, µm/s and µm/s² (R190: 64-bit fixed point). -/
structure Motion where
  p : Int := 0
  v : Int := 0
  a : Int := 0
  deriving DecidableEq, Repr

/-- One phase of a profile, evaluated in closed form from its start (R190). -/
structure Phase where
  /-- Number of R198; 0 for a trapezoid segment. -/
  num : Nat
  /-- The acceleration steps to this, in 2^-20 µm/s², at the start of the phase (trapezoid, R201). -/
  acc : Option Int := none
  /-- Jerk in µm/s³. -/
  jerk : Int := 0
  /-- Duration in ticks; none: until something ends it. -/
  dur : Option Nat
  deriving DecidableEq, Repr

/-- The limits of one direction of the leaf in force (R198, R228), µm/s, µm/s², µm/s³ and µm. -/
structure Limits where
  speed : Nat := 0
  acc : Nat := 0
  dec : Nat := 0
  jerk : Nat := 0
  finalSpeed : Nat := 0
  finalDist : Nat := 0
  deriving DecidableEq, Repr

/-- A move ordered of the leaf axis. -/
structure Move where
  /-- Target in 2⁻²⁰ µm, a whole number of sub-edges (R6). -/
  target : Int
  /-- It ends at the open end or at the closed datum, so the approach applies (R198). -/
  toEnd : Bool
  /-- Speed cap, 0 for none (Maintenance, seek, dead reckoning, follower). -/
  cap : Nat := 0
  /-- It runs on the trapezoid from its start (homing, R224). -/
  trapezoid : Bool := false
  deriving DecidableEq, Repr

/-- The leaf axis of the planner (R189 to R209). -/
structure LeafPlan where
  /-- Mode of R227: 0 idle, 1 S-curve, 2 trapezoid, 3 emergency stop, 4 programmed stop, 5 homing, 6 geared, 7 dead reckoning, 8 manual. -/
  mode : Nat := 0
  /-- The set-point in force. -/
  sp : Motion := {}
  /-- State and time at the start of the present phase. -/
  base : Motion := {}
  baseTime : Nat := 0
  phases : List Phase := []
  /-- Target in 2⁻²⁰ µm, a whole number of sub-edges (R6). -/
  target : Int := 0
  opening : Bool := true
  /-- The move in force. -/
  move : Option Move := none
  /-- The move that follows a programmed stop (R192). -/
  next : Option Move := none
  /-- The limits with which the present profile was planned (R203). -/
  limits : Limits := {}
  /-- A stop of R207 runs; otherwise the programmed stop of R193. -/
  stopping : Bool := false
  fallback : Bool := false
  /-- Cases of R200 that the move has raised. -/
  fallen : List Nat := []
  limited : Bool := false
  /-- The trapezoid is decelerating. -/
  slowing : Bool := false
  /-- The conditions of R195 hold since. -/
  inPosSince : Option Nat := none
  atTarget : Bool := false
  /-- Measured standstill since (R209). -/
  stillSince : Option Nat := none
  reduced : Bool := false
  /-- The 50 ms fall of the current limit began (R209). -/
  reduceFrom : Nat := 0
  /-- AXIS_MOVE, AXIS_HOME or AXIS_STOP in flight: opcode, journal entry, axis. -/
  orders : List (Nat × Nat × Nat) := []
  /-- Axis orders that wait for the next profile update (R191): opcode, journal entry, axis, target in µm. -/
  inbox : List (Nat × Nat × Nat × Int) := []
  linked : Bool := false
  /-- The profile that a geared follower would run by itself, its start and the state there (R38). -/
  own : List Phase := []
  ownBase : Motion := {}
  ownTime : Nat := 0
  /-- Gearing to the leader (R212). -/
  gearing : Bool := false
  gearLagged : Bool := false
  leaderLost : Bool := false
  /-- The leader's telegram is awaited until (R545). -/
  leaderWait : Option Nat := none
  /-- Homing sequence 1: last result of R226, and the transition times of REFSW within the last 20 ms (R222). -/
  homeResult : Nat := 0
  homeEdges : List Nat := []
  deriving DecidableEq, Repr

/-- A filtered step switch or REFSW (R221). -/
structure SwitchFilter where
  level : Bool := false
  /-- Start of the present level, and the position there: 2⁻²⁰ µm for a step switch, 1/256 sub-edge for REFSW. -/
  since : Nat := 0
  pos : Int := 0
  /-- The present assertion has been taken as stable. -/
  stable : Bool := false
  deriving DecidableEq, Repr

/-- The step axis of the planner (R210 to R223). -/
structure StepPlan where
  mode : Nat := 0
  sp : Motion := {}
  base : Motion := {}
  baseTime : Nat := 0
  phases : List Phase := []
  target : Int := 0
  /-- Speed of the present move in µm/s, before the cap of R213. -/
  speed : Nat := 0
  /-- A stop on the step's emergency ramp runs (R215). -/
  stopping : Bool := false
  /-- Signed 32-bit microstep count, 0 at the retracted home position. -/
  count : Int := 0
  /-- Count at the update before, for interpolation (R189). -/
  countPrev : Int := 0
  /-- Coil current amplitude in mA. -/
  amplitude : Nat := 0
  unverified : Bool := false
  /-- Load angle in per mille of 90°. -/
  loadAngle : Nat := 0
  /-- Consecutive evaluations of a stall (R218). -/
  stallCount : Nat := 0
  stalled : Bool := false
  /-- The set-point has reached the target of the move. -/
  arrived : Bool := false
  /-- The conditions of R195 hold since; they have held for 10 ms. -/
  inPosSince : Option Nat := none
  atTarget : Bool := false
  /-- A limit switch has tripped; the stop begins at the next profile update (R191, R215). -/
  tripped : Bool := false
  reduced : Bool := false
  /-- The count has not changed since (R210). -/
  stillSince : Nat := 0
  /-- Platform find step of R219, 0 when none runs. -/
  find : Nat := 0
  /-- Stops of the deployment (R392). -/
  findStops : Nat := 0
  /-- Position at which the step was last Deployed, in µm (R172). -/
  deployedAt : Int := 0
  /-- Homing sequence step 1 to 6 of R223, 0 when none runs. -/
  home : Nat := 0
  /-- Count at the start of the homing step. -/
  homeStart : Int := 0
  /-- Position of the accepted assertion. -/
  homeEdge : Int := 0
  /-- Start of homing step 6. -/
  homeWait : Nat := 0
  homeResult : Nat := 0
  /-- Transition times of the homing switch within the last 20 ms (R222). -/
  homeEdges : List Nat := []
  /-- SHOME accepted in step 2 (R222). -/
  accepted : Bool := false
  shome : SwitchFilter := {}
  slimRet : SwitchFilter := {}
  slimExt : SwitchFilter := {}
  refsw : SwitchFilter := {}
  /-- Microstep table entries that differ from the factory table (R214). -/
  table : List (Nat × Int) := []
  deriving DecidableEq, Repr

/-! ### Pilot (chapter 07) -/

/-- Histories of one second-order section, Q15.16 words (R233, R234). -/
structure Section where
  x1 : Int := 0
  x2 : Int := 0
  y1 : Int := 0
  y2 : Int := 0
  deriving DecidableEq, Repr

/-- One loop of R230. -/
structure Loop where
  sections : List Section := []
  /-- The output in force (R232). -/
  out : Int := 0
  /-- The output computed, applied at the next sample. -/
  nextOut : Int := 0
  /-- Limited upward or downward in the previous sample (R239). -/
  satHigh : Bool := false
  satLow : Bool := false
  deriving DecidableEq, Repr

/-- The flag words of one axis (R240, R241). -/
structure AxisFlags where
  sticky : Nat := 0
  present : Nat := 0
  firstSet : Nat := 0
  deriving DecidableEq, Repr

/-- The mode of one axis under Pilot (R258 to R261). -/
structure AxisMode where
  /-- 0 automatic, 1 manual current, 2 manual voltage. -/
  mode : Nat := 0
  /-- The manual set-point asked for, mA or mV. -/
  want : Int := 0
  /-- The manual point in force, in 1/65,536 of mA or mV. -/
  point : Int := 0
  /-- A transfer to automatic waits for the next position sample. -/
  toAuto : Bool := false
  /-- Loops whose preset was clamped and whose outputs slew toward them (R261). -/
  residual : List Nat := []
  /-- LOOP_MODE in flight: its journal entry. -/
  modeSlot : Option Nat := none
  /-- LOOP_MANUAL in flight: its journal entry. -/
  manualSlot : Option Nat := none
  deriving DecidableEq, Repr

/-- A test-signal injection (R262 to R265). -/
structure Injection where
  axis : Nat
  loop : Nat
  point : Nat
  signal : Nat
  amplitude : Int
  p1 : Nat
  p2 : Nat
  p3 : Nat
  respLoop : Nat
  respPoint : Nat
  decimation : Nat
  slot : Nat
  /-- Samples of the loop since the first of the injection. -/
  t : Nat := 0
  /-- The PRBS register. -/
  lfsr : Nat := 0
  /-- The injected loop ran in this sample; the value at its point with the signal; the latest value at the response point. -/
  fresh : Bool := false
  chan0 : Int := 0
  chan1 : Int := 0
  deriving DecidableEq, Repr

/-- Accumulated residuals of one table entry: sum in mN and count (R256). -/
structure LearnCell where
  sum : Int := 0
  count : Nat := 0
  deriving DecidableEq, Repr

/-- One counted learning sample of the move in progress: direction, position in sub-edges, friction entry, r_lp and r_hp in mN (R256, R293). -/
structure LearnSample where
  dir : Nat
  pos : Int
  entry : Int
  lp : Int
  hp : Int
  deriving DecidableEq, Repr

/-- Pilot (subsystem 4). -/
structure Pilot where
  /-- The six loops of R230. -/
  loops : List Loop := [{}, {}, {}, {}, {}, {}]
  leafFlags : AxisFlags := {}
  stepFlags : AxisFlags := {}
  leafMode : AxisMode := {}
  stepMode : AxisMode := {}
  /-- Current samples since start-up step 10, the grid of R231. -/
  samples : Nat := 0
  /-- q-axis current reference in force before the clamps, and the one computed for the next speed sample, Q15.16 A (R232, R236). -/
  iqRef : Int := 0
  iqNext : Int := 0
  /-- Force-limited current of the present sample, in mA (R237). -/
  iF : Int := 0
  /-- Measured dq currents of the latest current sample, in mA. -/
  iq : Int := 0
  id : Int := 0
  /-- q current of the sample before, for L·di/dt. -/
  iqPrev : Int := 0
  /-- Applied dq voltages in mV. -/
  uq : Int := 0
  ud : Int := 0
  /-- Measured q currents of the running speed sample (R243). -/
  iqWindow : List Int := []
  /-- Mean measured q current of the last speed sample, in mA (R243). -/
  iqMean : Int := 0
  /-- W2 residuals of the running speed sample. -/
  uqWindow : List Int := []
  /-- One of its samples fell while the bridge was not modulating. -/
  windowDirty : Bool := false
  /-- Sextant speeds of the last 8 speed samples, µm/s, newest first. -/
  speedHist : List Int := []
  /-- Force estimate in mN and its validity code (R243). -/
  force : Int := 0
  validity : Nat := 2
  /-- Violation counts and failure marks of W1 to W4 (R245). -/
  wCount : List Nat := [0, 0, 0, 0]
  wFailed : List Bool := [false, false, false, false]
  /-- Speed samples in which W1 and W2 have held since the fault. -/
  wClean : Nat := 0
  forceFault : Bool := false
  feedbackLost : Bool := false
  /-- Cause of the present loss: 1 overdue, 2 illegal, 3 W3, 4 frozen. -/
  lostCause : Nat := 0
  /-- Consecutive legal agreeing edges (R252). -/
  goodEdges : Nat := 0
  /-- Observer speed in µm/s, position in 2⁻²⁴ sub-edge, angle in 2⁻³² turn (R244). -/
  vObs : Int := 0
  pObs : Int := 0
  angObs : Nat := 0
  /-- Dead reckoning: 0 off, 1 running, 2 ended (R268). -/
  dr : Nat := 0
  drStart : Nat := 0
  /-- The end-stop condition holds since (R250). -/
  stopSince : Option Nat := none
  endStop : Bool := false
  /-- A stop after lost feedback ends in winding short (R251). -/
  shortAfterStop : Bool := false
  /-- The stop request that ends dead reckoning has been reported; its stop is under way (R250, R251). -/
  drEnding : Bool := false
  /-- Winding temperature in 0.1 °C. -/
  temp : Int := 250
  /-- Direction of the last move: opening (R237). -/
  lastOpening : Bool := false
  /-- Table 0 and 1 per direction, and the reference table 2, in 10 mN (R253). -/
  fric : List (List (Nat × Int)) := [[], []]
  cog : List (List (Nat × Int)) := [[], []]
  fricRef : List (List (Nat × Int)) := [[], []]
  /-- TABLE_WRITE waiting for the next current sample or profile update: table, direction, offset, entries, journal entry. -/
  tableWrites : List (Nat × Nat × Nat × List Int × Nat) := []
  /-- PILOT_FLAGS_CLEAR waiting for the next current sample: axis, mask, journal entry. -/
  flagClears : List (Nat × Nat × Nat) := []
  /-- Samples of the move in progress, newest first. -/
  learnMove : List LearnSample := []
  /-- The move in progress may still be learned (R255). -/
  learnOk : Bool := false
  /-- Sums of the cycle by direction and friction entry, and by direction and cogging entry. -/
  fricSums : List (List (Nat × LearnCell)) := [[], []]
  cogSums : List (List (Nat × LearnCell)) := [[], []]
  /-- Friction means of the previous cycle that learned (R257). -/
  prevMeans : List (List (Nat × Int)) := [[], []]
  inject : Option Injection := none
  /-- Captured samples, oldest first. -/
  capture : List (Int × Int) := []
  captureTime : Nat := 0
  capturePeriod : Nat := 0
  /-- The leaf is held in winding short by Pilot (R246, R248). -/
  short : Bool := false
  /-- Pilot keeps the gates off (R176, R248 row 4). -/
  gatesOff : Bool := false
  deriving DecidableEq, Repr

/-! ### Sextant (chapter 08) -/

/-- A compare unit (R296 to R299). -/
structure CompareUnit where
  armed : Bool := false
  position : Int := 0
  action : Nat := 0
  /-- 0 either, 1 opening, 2 closing. -/
  filter : Nat := 0
  /-- Sign of the compare position minus the interpolated position when armed. -/
  side : Int := 0
  behind : Bool := false
  /-- Fired since it was armed. -/
  fired : Bool := false
  latched : Bool := false
  fireTime : Nat := 0
  firePos : Int := 0
  deriving DecidableEq, Repr

/-- The edge latch, one set (R288). -/
structure EdgeLatch where
  counter : Int := 0
  time : Nat := 0
  /-- Speed in 1/65,536 sub-edge per ms. -/
  speed : Int := 0
  valid : Bool := false
  opening : Bool := false
  code : Nat := 0
  deriving DecidableEq, Repr

/-- Sextant (subsystem 5). -/
structure Sextant where
  /-- Filtered Hall code (R275). -/
  code : Nat := 0
  /-- Present sector, once a legal code has been seen. -/
  sector : Option Nat := none
  /-- Code 0 or 7 stands (R276). -/
  illegal : Bool := false
  /-- Position counter in sub-edges (R278). -/
  counter : Int := 0
  overrun : Int := 0
  frozen : Bool := false
  /-- 0 unknown, 1 established, 2 lost (R294). -/
  ref : Nat := 0
  /-- Chronometer times of the last 7 counted edges, newest first (R273, R283). -/
  edgeTimes : List Nat := []
  /-- When the last of them became known, on the control clock (R284, R247). -/
  edgeKnown : Nat := 0
  /-- Direction of the last counted edge: opening; none after a reset or a resynchronisation. -/
  lastDir : Option Bool := none
  intervals : Nat := 0
  /-- Speed magnitude of R283 in 1/65,536 sub-edge per ms, and its validity. -/
  speed : Nat := 0
  speedValid : Bool := false
  /-- Direction of that speed: opening. -/
  opening : Bool := false
  /-- The speed timeout has passed without an edge (R284). -/
  timedOut : Bool := true
  latch : EdgeLatch := {}
  /-- Interpolated position of the latest current sample, in 1/256 sub-edge, and its time (R286). -/
  pInt : Int := 0
  pIntTime : Nat := 0
  /-- Electrical angle (R287). -/
  angle : Nat := 0
  silentCount : Nat := 0
  windowCount : Nat := 0
  illegalCount : Nat := 0
  unexpectedCount : Nat := 0
  /-- The last correction in sub-edges. -/
  lastCorrection : Int := 0
  /-- An index edge has been used since the present closing move began (R290). -/
  indexUsed : Bool := false
  /-- Correction waiting for the next position sample (R292). -/
  correction : Option Int := none
  /-- Friction entries by which the learning samples move with it (R293). -/
  shift : Option Int := none
  units : List CompareUnit := [{}, {}, {}, {}]
  /-- COMPARE_ARM waiting for the next current sample: unit, action, direction filter, position in µm, journal entry. -/
  arms : List (Nat × Nat × Nat × Int × Nat) := []
  /-- The Hall code that HOU, HOV and HOW drive; none while they are high-impedance inputs (R36, R300). -/
  hallOut : Option Nat := none
  /-- Pass-through: filtered levels, sector, counter (R300, R301). -/
  ptCode : Nat := 0
  ptSector : Option Nat := none
  /-- Direction of the last counted pass-through edge: opening; none after an illegal code (R276). -/
  ptDir : Option Bool := none
  ptCounter : Int := 0
  /-- Time of the last pass-through edge. -/
  ptTime : Nat := 0
  deriving DecidableEq, Repr

/-! ### Power stage (chapter 09) -/

/-- One leg of the bridges (R306, R316, R319). -/
structure Leg where
  /-- Dead times in ns. -/
  rising : Nat := 500
  falling : Nat := 500
  /-- Filtered switching delays in 1/16 ns (R319); they start where the default margin leaves DRV_DEAD_MAX in force. -/
  fRising : Int := 7360
  fFalling : Int := 7360
  /-- Measurements in succession beyond the limit (R319). -/
  limRising : Nat := 0
  limFalling : Nat := 0
  /-- BSx − SWx in mV as last read. -/
  boot : Nat := 0
  /-- Carrier periods in succession below the falling level (R316). -/
  bootLow : Nat := 0
  /-- The bootstrap comparator reads good: risen through 8.5 V and not fallen through 8.0 V. -/
  bootGood : Bool := false
  /-- Short-circuit suspects (R320). -/
  suspectHigh : Bool := false
  suspectLow : Bool := false
  /-- Latched gate fault (R315). -/
  gateFault : Bool := false
  deriving DecidableEq, Repr

/-- One of the three bridges: leaf, step A, step B (R322). -/
structure Bridge where
  /-- 0 off, 1 precharge, 2 modulating, 3 low-side short, 4 high-side short. -/
  mode : Nat := 0
  /-- Latched over-current (R320). -/
  overCurrent : Bool := false
  /-- A latched short-circuit, gate or over-current fault. -/
  latched : Bool := false
  /-- Trip count since reset, saturating at 15. -/
  trips : Nat := 0
  /-- All gates off since (R313). -/
  offSince : Nat := 0
  /-- End of the precharge of R317. -/
  precharge : Option Nat := none
  /-- Every gate is off for the rest of the carrier period (R321). -/
  limited : Bool := false
  deriving DecidableEq, Repr

/-- The power stage (subsystem 6). -/
structure Drive where
  legs : List Leg := [{}, {}, {}, {}, {}, {}, {}]
  leaf : Bridge := {}
  stepA : Bridge := {}
  stepB : Bridge := {}
  /-- Sense offsets in µV at the input, U, V, W, A, B (R313). -/
  offsets : List Int := [0, 0, 0, 0, 0]
  /-- Phase and coil currents of the latest sample in mA: U, V, W, A, B. -/
  currents : List Int := [0, 0, 0, 0, 0]
  /-- VBUS_S in mV. -/
  vbus : Nat := 0
  /-- Over-voltage; the regeneration clamp acts (R325). -/
  overVoltage : Bool := false
  regenClamp : Bool := false
  /-- Motor temperature in 0.1 °C and its states (R326). -/
  motorTemp : Int := 250
  motorWarm : Bool := false
  motorHot : Bool := false
  ntcFault : Bool := false
  /-- The gate drivers are enabled (R84, step 10). -/
  enabled : Bool := false
  /-- A short demanded after a drive inhibit released (R322, row 6). -/
  shortHeld : Bool := false
  deriving DecidableEq, Repr

/-! ### Sounding engine (chapter 10) -/

/-- A tile of a port as enumerated (R337, R338, R369). -/
structure Tile where
  type : Nat
  serial : Nat
  hw : Nat
  fw : Nat
  endOfChain : Bool
  /-- Status byte and temperature of the last header. -/
  status : Nat := 0
  temp : Int := 0
  /-- Fault bits of R360. -/
  faults : Nat := 0
  /-- Frames in succession with every row received. -/
  goodFrames : Nat := 0
  /-- Frames in succession with the status bits clear. -/
  goodStatus : Nat := 0
  /-- Tested row and test result of the present frame's header. -/
  tested : Nat := 0
  testMap : Nat := 0
  /-- The present frame's header was kept, with its row mask. -/
  header : Option Nat := none
  deriving DecidableEq, Repr

/-- One row of taxels of a tile; a list shorter than the row stands for defaults (R346). -/
structure TaxelRow where
  /-- Present values, 12 bits, or the running sum in a rebuild. -/
  x : List Nat := []
  sum : List Nat := []
  /-- Baselines, UQ12.4. -/
  base : List Nat := []
  /-- Thresholds, UQ7.1. -/
  thr : List Nat := []
  label : List Nat := []
  suspect : List Bool := []
  /-- Values of the packet kept in the present frame, which the evaluation takes up. -/
  fresh : List Nat := []
  /-- Packet of the present frame kept. -/
  received : Bool := false
  /-- Lost in the previous frame. -/
  lost : Bool := false
  deriving DecidableEq, Repr

/-- A contact record with what the arbiter adds (R356, R377, R401). -/
structure Contact where
  identity : Nat := 0
  isNew : Bool := false
  merged : Bool := false
  split : Bool := false
  besideSuspect : Bool := false
  aggregate : Bool := false
  binned : Bool := false
  taxels : Nat := 0
  alongFirst : Nat := 0
  alongLast : Nat := 0
  aroundFirst : Nat := 0
  aroundLast : Nat := 0
  peak : Nat := 0
  peakAlong : Nat := 0
  peakRow : Nat := 0
  frames : Nat := 0
  core : Nat := 0
  coreWidth : Nat := 0
  centroid : Nat := 0
  motion : Int := 0
  peakChange : Int := 0
  devSum : Nat := 0
  /-- Taxels of the contact, along and row. -/
  cells : List (Nat × Nat) := []
  /-- Class of R376. -/
  cls : Nat := 9
  demanded : Bool := false
  held : Bool := false
  inBand : Bool := false
  deriving DecidableEq, Repr

/-- A thin line, candidate line or pinch line (R386, R396, R402). -/
structure Line where
  /-- 1 thin line, 2 pinch line. -/
  kind : Nat
  frames : Nat := 1
  first : Nat
  last : Nat
  rows : Nat
  peak : Nat := 0
  ratio : Nat := 0
  gradient : Int := 0
  motion : Int := 0
  identity : Nat := 0
  tension : Bool := false
  deriving DecidableEq, Repr

/-- A skin port (R331 to R361, R381 to R398). -/
structure Port where
  /-- Code of R368. -/
  state : Nat := 0
  /-- Scan mode in force: 0 full, 1 delta, 2 binned. -/
  scan : Nat := 0
  /-- Fault cause of R368. -/
  cause : Nat := 0
  tiles : List Tile := []
  /-- Rows by tile, 32 each. -/
  rows : List TaxelRow := []
  /-- 0 none, 1 full, 2 binned-only. -/
  baselines : Nat := 0
  load : Nat := 0
  /-- Characters of the present frame. -/
  chars : Nat := 0
  /-- Code violations of the present frame. -/
  frameCodes : Nat := 0
  frameNo : Nat := 0
  frameTime : Nat := 0
  codeCount : Nat := 0
  checkCount : Nat := 0
  lostCount : Nat := 0
  trainCount : Nat := 0
  /-- Training began; none when it does not run. -/
  trainStart : Option Nat := none
  /-- Next retry after a fault (R361). -/
  retryAt : Option Nat := none
  suspended : Bool := false
  /-- Frames summed of a rebuild; none when no rebuild runs (R350). -/
  rebuild : Option Nat := none
  /-- The rebuild sums binned frames. -/
  rebuildBinned : Bool := false
  /-- Taxels given the row median at the last rebuild. -/
  medians : Nat := 0
  /-- Frames in succession with every row received (R345). -/
  goodFrames : Nat := 0
  /-- Re-alignment at the next full frame (R353). -/
  realign : Bool := false
  /-- Rows asked for by REFRESH for the next frame: tile and row. -/
  refresh : List (Nat × Nat) := []
  /-- Commands sent down the chain since the last sync, each of 8 bytes (R340). -/
  sent : List (List Byte) := []
  /-- Argument of the last SET_MODE (R340). -/
  modeArg : Nat := 0
  contacts : List Contact := []
  nextId : Nat := 1
  /-- Candidate lines of the latest frame. -/
  candidates : List Line := []
  lines : List Line := []
  /-- Coverage of the latest frame in per mille; highest of the closure (R381, R385). -/
  coverage : Nat := 0
  highest : Nat := 0
  /-- Frames since the port reached OBST_SEAL_COVER. -/
  coveredAgo : Option Nat := none
  confirmed : Bool := false
  /-- Seal band of R383. -/
  band : Option (Nat × Nat) := none
  /-- A pinch line stands; the onset has been raised. -/
  pinch : Bool := false
  deriving DecidableEq, Repr

/-- A legacy edge input (R362 to R364, R371). -/
structure LegacyEdge where
  /-- State of R371. -/
  state : Nat := 0
  /-- Reading being confirmed and its samples in succession. -/
  candidate : Nat := 0
  samples : Nat := 0
  ratio : Nat := 0
  actuations : Nat := 0
  changed : Nat := 0
  /-- End of the pressure-wave hold. -/
  hold : Option Nat := none
  deriving DecidableEq, Repr

/-- The Sounding engine (subsystem 7). -/
structure Skin where
  ports : List Port := [{}, {}, {}]
  edges : List LegacyEdge := [{}, {}, {}]
  /-- Frames since start-up. -/
  frame : Nat := 0
  frameTime : Nat := 0
  /-- A frame runs: its sync has been sent and it has not been evaluated. -/
  running : Bool := false
  /-- The frame runs binned. -/
  binned : Bool := false
  /-- Level of the pinch-line line (R358). -/
  line : Bool := false
  excMv : Nat := 0
  /-- EXC out of range since; within range since. -/
  excBad : Option Nat := none
  excGood : Option Nat := none
  excFault : Bool := false
  /-- SKIN_PORT_SET orders in flight: port, action, journal entry. -/
  setOrders : List (Nat × Nat × Nat) := []
  /-- SKIN_BASELINE_REBUILD in flight: mask, journal entry. -/
  rebuildOrder : Option (Nat × Nat) := none
  deriving DecidableEq, Repr

/-! ### Obstacle arbiter (chapter 11) -/

/-- The motion of one axis as the arbiter counts it (R389, R390). -/
structure AxisWatch where
  /-- 0 at rest, 1 opening or deploying, 2 closing or retracting. -/
  motion : Nat := 0
  /-- The first profile update of the motion has been judged. -/
  judged : Bool := false
  /-- The motion has raised its demand. -/
  demanded : Bool := false
  /-- Sources of the motion, offset 5 of R403. -/
  sources : Nat := 0
  /-- A demand raised at the update before, to be handled at this one (R391). -/
  due : Bool := false
  /-- Obstacle conditions present at the update before, by channel. -/
  present : Nat := 0
  /-- Sequence of the event that reports the demand (R116). -/
  seq : Nat := 0
  deriving DecidableEq, Repr

/-- The obstacle arbiter and the drag watch (subsystem 8). -/
structure Obstacle where
  leaf : AxisWatch := {}
  step : AxisWatch := {}
  /-- Consecutive speed samples of force excess (R387). -/
  forceCount : Nat := 0
  forceExcess : Bool := false
  /-- The closing threshold is raised for the seals (R384). -/
  sealRaise : Bool := false
  /-- An obstacle contact stood on a leaf port during the move (R255). -/
  contactInMove : Bool := false
  /-- Identities that were obstacle contacts at the update before: port and identity. -/
  seen : List (Nat × Nat) := []
  /-- Edges actuated at the update before, bit per edge. -/
  edgesSeen : Nat := 0
  /-- A step stall is an onset (R218). -/
  stepStall : Bool := false
  /-- Closing degraded per leaf, channels unavailable (R393). -/
  degradedA : Nat := 0
  degradedB : Nat := 0
  blind : Bool := false
  /-- Drag state of R398. -/
  drag : Nat := 0
  tension : Bool := false
  demands : Nat := 0
  /-- Last demand: axis, sources, class, time, leaf position in µm. -/
  lastAxis : Nat := 0
  lastSources : Nat := 0
  lastClass : Nat := 0
  lastTime : Nat := 0
  lastPos : Int := 0
  /-- Onset of the present pinch line and of drag, and their counts since reset. -/
  pinchSince : Nat := 0
  dragSince : Nat := 0
  pinchCount : Nat := 0
  dragCount : Nat := 0
  tensionCount : Nat := 0
  /-- No step obstacle since (R392, R172). -/
  stepClearSince : Nat := 0
  deriving DecidableEq, Repr

/-! ### Load channels and jury (chapter 12) -/

/-- One load channel LC0 to LC11 (R407 to R424). -/
structure Channel where
  /-- The host's last LCH_SET order (R410). -/
  order : Bool := false
  /-- The demand of R409. -/
  demand : Bool := false
  /-- The channel conducts. -/
  on : Bool := false
  /-- Time of the last switch-on and end of its inrush window (R411). -/
  onSince : Nat := 0
  inrushEnd : Nat := 0
  /-- Time of the last switch-off, and the end of conduction to watch (R424). -/
  offAt : Nat := 0
  /-- The demand has been off since (R418). -/
  demandOff : Nat := 0
  /-- Try count k of R412. -/
  tries : Nat := 0
  latched : Bool := false
  pauseEnd : Option Nat := none
  thermal : Bool := false
  /-- Cause code of R411 of the last trip. -/
  lastTrip : Nat := 0
  /-- Consecutive samples below, and at or above, LCH_n_OPEN_LEVEL (R417). -/
  below : Nat := 0
  above : Nat := 0
  darkOn : Bool := false
  darkOff : Bool := false
  /-- Open results in succession of the off-state test (R418). -/
  opens : Nat := 0
  /-- Last off-state test result, coded as in R429, and its time. -/
  test : Nat := 0
  testAt : Nat := 0
  freewheel : Bool := false
  /-- Hardware limit in force, mA (R416). -/
  limit : Nat := 6000
  /-- Present current in mA and junction temperature in 0.1 °C. -/
  current : Nat := 0
  temp : Int := 250
  /-- A failed primary (R421). -/
  failed : Bool := false
  /-- A secondary that carries its failed primary's demand. -/
  lit : Bool := false
  deriving DecidableEq, Repr

/-- Load channels, lamp pairs, jury and sense pins (subsystem 9). -/
structure Load where
  channels : List Channel :=
    [{}, {}, {}, {}, {}, {}, {}, {}, { limit := 1200 }, { limit := 1200 }, { limit := 1200 }, { limit := 1200 }]
  /-- Filtered levels of JURY and JIN0 to JIN3 (R425). -/
  jury : Bool := false
  jin : List Bool := [false, false, false, false]
  /-- Time of the last change of each JIN. -/
  jinAt : List Nat := [0, 0, 0, 0]
  /-- Jury assertions since reset and the time of the last change (R431). -/
  assertions : Nat := 0
  juryAt : Nat := 0
  /-- Sum of the channel currents, mA (R416). -/
  group : Nat := 0
  overSince : Option Nat := none
  underSince : Option Nat := none
  /-- Last step by which the limits were raised or lowered. -/
  limitAt : Nat := 0
  derating : Bool := false
  /-- The sense pins are configured (R423, step 10). -/
  snsOn : Bool := false
  /-- Voltages of SNSA and SNSB in mV. -/
  snsA : Nat := 2800
  snsB : Nat := 2800
  /-- LCH_OFF_TEST in flight: journal entry, channels still to test, results so far. -/
  testOrder : Option (Nat × Nat × List Nat) := none
  deriving DecidableEq, Repr

/-! ### Binnacle (chapter 13) -/

/-- One safe input channel SIN0 to SIN15 (R439, R442). -/
structure SafeChannel where
  /-- Filtered level as sampled. -/
  level : Bool := false
  /-- Consecutive samples that read the other level. -/
  run : Nat := 0
  /-- Latched test fault, and its successive checks passed. -/
  testFault : Bool := false
  passes : Nat := 0
  /-- Time of the first sample that read the level now filtered or being filtered, and the interpolated leaf position then (R290). -/
  firstAt : Nat := 0
  firstPos : Int := 0
  /-- The same of the run in progress, which may yet be broken off. -/
  runAt : Nat := 0
  runPos : Int := 0
  deriving DecidableEq, Repr

/-- The course of a pair through its safe value and back together (R442, R445). -/
structure PairWatch where
  /-- Consecutive disagreeing ticks. -/
  disc : Nat := 0
  /-- The value on which the channels last agreed. -/
  agreed : Bool := false
  /-- Since the latch, both have returned together to the safe value. -/
  returned : Bool := false
  deriving DecidableEq, Repr

/-- One safe input pair (R437 to R446). -/
structure SafePair where
  /-- On the levels that the rules act on. -/
  watch : PairWatch := {}
  /-- On the sampled levels, for a test fault. -/
  raw : PairWatch := {}
  latched : Bool := false
  /-- Both channels last changed together at (R482). -/
  changed : Nat := 0
  deriving DecidableEq, Repr

/-- One safe output (R447 to R450). -/
structure SafeOutput where
  energised : Bool := false
  stuckA : Bool := false
  stuckB : Bool := false
  /-- Latched switch fault. -/
  fault : Bool := false
  loopOpen : Bool := false
  /-- Loop current in µA. -/
  current : Nat := 0
  /-- Below 2 mA since. -/
  lowSince : Option Nat := none
  /-- Off-pulses passed, and the switch whose turn is next: B. -/
  pulses : Nat := 0
  turnB : Bool := false
  /-- Time of the last off-pulse, or of the energising. -/
  pulsed : Nat := 0
  /-- Held open after a loop current limit until (R600). -/
  holdUntil : Option Nat := none
  /-- Ticks for which its conditions have held since 1 s after such an opening (R600). -/
  proved : Nat := 0
  /-- Chronometer time of the last change. -/
  changed : Nat := 0
  deriving DecidableEq, Repr

/-- The sequencer report as Binnacle last took it (R465). -/
structure Report where
  /-- Sequence of the last report received. -/
  seq : Option Nat := none
  /-- One that passed has arrived since the last tick. -/
  fresh : Bool := false
  /-- Ticks in succession without one. -/
  missing : Nat := 0
  door : Nat := 13
  step : Nat := 0
  /-- Demanded motion of leaf and step: 0 none, 1 opening or deploying, 2 closing or retracting. -/
  leafMotion : Nat := 0
  stepMotion : Nat := 0
  deriving DecidableEq, Repr

/-- The seal record beside the parameter image (R471). -/
structure SealRecord where
  value : Nat
  grade : Nat
  build : Nat
  time : Nat
  /-- A smart-power copy was rewritten since: not Sealed until confirmed again (R85). -/
  void : Bool := false
  deriving DecidableEq, Repr

/-- Binnacle (subsystem 10). -/
structure Binnacle where
  /-- Safety ticks since reset. -/
  ticks : Nat := 0
  channels : List SafeChannel := List.replicate 16 {}
  pairs : List SafePair := List.replicate 8 {}
  /-- TPO faults and successive windows passed (R440). -/
  tpoFault : List Bool := [false, false, false, false]
  tpoPasses : List Nat := [0, 0, 0, 0]
  out0 : SafeOutput := {}
  out1 : SafeOutput := {}
  /-- Ticks for which D1 to D6 have held (R452). -/
  prove : Nat := 0
  /-- Conditions D1 to D7 at the last tick, bit n for D(n + 1). -/
  conds : Nat := 0
  /-- The conditions but for D7, which SOUT0's rule takes with it. -/
  permit : Bool := false
  /-- Pinch-line reading (R454): the level and frame mode last observed, ticks since the last observed change of either. -/
  lineLevel : Bool := false
  lineMode : Bool := false
  lineCount : Nat := 0
  /-- Level changes observed since reset, saturating at 2. -/
  lineChanges : Nat := 0
  /-- Ticks since the last level change, and whether the mode has changed since. -/
  lineGap : Nat := 0
  modeChanged : Bool := false
  lineFault : Bool := false
  goodIntervals : Nat := 0
  /-- Reading code of R483: 0 clear, 1 pinch line, 2 line fault, 3 not used, 4 not yet clear. -/
  reading : Nat := 4
  /-- Drag latch (R456), the causes that have stood while it is set, its onsets. -/
  drag : Bool := false
  byPinch : Bool := false
  byDirection : Bool := false
  dragOnsets : Nat := 0
  /-- View Standstill and no cause since. -/
  dragStill : Option Nat := none
  /-- Vehicle view of R458 and the release bits of the last accepted telegram. -/
  view : Nat := 2
  releaseLeft : Bool := false
  releaseRight : Bool := false
  /-- Hall edge timer (R461, R462): last code, last legal sector and time of the last edge. -/
  hallCode : Nat := 0
  sector : Option Nat := none
  lastEdge : Nat := 0
  anyEdge : Bool := false
  /-- Direction of the last edge: opening; length of the last interval of one direction in ticks of 10 ns. -/
  lastOpening : Bool := false
  interval : Option Nat := none
  /-- Net edges of R461, and since SOUT0 was energised (D7). -/
  net : Int := 0
  netProved : Int := 0
  illegalProved : Bool := false
  violation : Bool := false
  overspeed : Bool := false
  /-- Speed unproven (R463), since, and legal edges counted. -/
  unproven : Bool := false
  unprovenSince : Nat := 0
  legalEdges : Nat := 0
  /-- Motion demanded in every tick since; last time it was demanded. -/
  demandSince : Option Nat := none
  demandLast : Nat := 0
  unprovenInhibit : Bool := false
  report : Report := {}
  reportLost : Bool := false
  classA : Bool := false
  /-- Fault bits of R466. -/
  faults : Nat := 0
  selfTest : Bool := false
  isSealed : Bool := false
  /-- Reason of R481. -/
  sealReason : Nat := 1
  /-- Parameter whose change broke the seal; acted on at the next tick (R473). -/
  sealBroken : Option Nat := none
  /-- The parameter that "seal lost" has named. -/
  sealLost : Nat := 0
  debug : Bool := false
  /-- Landfall withdrawals since reset and the last cause (R541). -/
  withdrawals : Nat := 0
  withdrawCause : Nat := 0
  /-- Payload bits of the doorway telegram last built, for its changes (R535). -/
  lastBits : Nat := 0
  /-- Diagnostic readings and counts of R485. -/
  ecc : Nat := 0
  march : Nat := 0
  crcPasses : Nat := 0
  rcDeviation : Int := 0
  regulator : Nat := 1200
  reportErrors : Nat := 0
  lineFaults : Nat := 0
  deriving DecidableEq, Repr

/-! ### Bus controllers (chapter 14) -/

/-- A CAN frame (R515). The identifier is coded with bit 31 for 29 bits. -/
structure Frame where
  ident : Nat := 0
  /-- 0 Classical data, 1 Classical remote, 2 CAN FD, 3 CAN FD with bit rate switching, 4 CAN XL. -/
  format : Nat := 0
  sdt : Nat := 0
  vcid : Nat := 0
  sec : Bool := false
  /-- Acceptance field. -/
  af : Nat := 0
  /-- Data bytes, or the DLC of a remote frame. -/
  length : Nat := 0
  data : List Byte := []
  /-- Error state indicator as received. -/
  esi : Bool := false
  deriving DecidableEq, Repr

/-- An entry of the receive FIFO (R494, R495, R511). -/
structure RxEntry where
  frame : Frame
  stamp : Nat
  inBusOff : Bool
  /-- The bus table in force when it entered. -/
  table : Nat
  deriving DecidableEq, Repr

/-- A receive buffer (R498). -/
structure RxBuffer where
  entry : Option (Frame × Nat × Bool) := none
  newData : Bool := false
  overrun : Bool := false
  updates : Nat := 0
  deriving DecidableEq, Repr

/-- A pending frame of a host send object (R503 to R507). -/
structure SendObject where
  object : Nat
  frame : Frame
  /-- Journal entry of its BUS_SEND. -/
  slot : Nat
  /-- Attempts that ended in error. -/
  attempts : Nat := 0
  collisions : Nat := 0
  collided : Bool := false
  deadline : Option Nat := none
  /-- BUS_TX_CANCEL waiting for the end of the attempt: its journal entry. -/
  cancel : Option Nat := none
  deriving DecidableEq, Repr

/-- A pending frame of a device send object: 3 reference message, 4 to 15 telegram. -/
structure DeviceFrame where
  object : Nat
  frame : Frame
  /-- Chronometer tick at which it was built. -/
  built : Nat
  collisions : Nat := 0
  collided : Bool := false
  deriving DecidableEq, Repr

/-- A priority entry or rule (R519). -/
structure TableEntry where
  action : Nat := 0
  object : Nat := 0
  formats : Nat := 0
  ident : Nat := 0
  mask : Nat := 0
  af : Nat := 0
  afMask : Nat := 0
  deriving DecidableEq, Repr

/-- A bus table (R519); an index not listed holds an unused entry. -/
structure BusTable where
  /-- Bit i for object 16 + i: 1 send. -/
  dirs : Nat := 0
  events : Nat := 0
  prios : List (Nat × TableEntry) := []
  rules : List (Nat × TableEntry) := []
  deriving DecidableEq, Repr

/-- The counts of R517. -/
structure BusCounts where
  received : Nat := 0
  sent : Nat := 0
  most : Nat := 0
  overflows : Nat := 0
  unmatched : Nat := 0
  overruns : Nat := 0
  bitErrors : Nat := 0
  stuff : Nat := 0
  crc : Nat := 0
  form : Nat := 0
  ack : Nat := 0
  collisions : Nat := 0
  busOffs : Nat := 0
  exceptions : Nat := 0
  deriving DecidableEq, Repr

/-- A bus controller (R488 to R521). -/
structure Bus where
  /-- Mode running, and whether R489 raised it. -/
  mode : Nat := 0
  raised : Bool := false
  listen : Bool := false
  /-- State of R517. -/
  state : Nat := 0
  /-- Error state held while the clock is lost or the controller integrates again. -/
  heldBusOff : Bool := false
  txErr : Nat := 0
  rxErr : Nat := 0
  warning : Bool := false
  lastError : Nat := 0
  counts : BusCounts := {}
  delay : Nat := 0
  changed : Nat := 0
  fifo : List RxEntry := []
  /-- Frames lost since the FIFO was last below its limit; the loss is still to be reported. -/
  lost : Nat := 0
  /-- Chronometer time of the first of them. -/
  lostAt : Nat := 0
  buffers : List (Nat × RxBuffer) := []
  prioBuffers : List (Nat × RxBuffer) := []
  sends : List SendObject := []
  device : List DeviceFrame := []
  /-- Object whose frame is committed (R501). -/
  committed : Option Nat := none
  /-- Time at which its start-of-frame begins. -/
  sofAt : Nat := 0
  /-- Collision count of object 1 for its present segment (R507). -/
  hostCollisions : Nat := 0
  /-- Its collision has been reported (R507). -/
  hostCollided : Bool := false
  table : BusTable := {}
  /-- Number of the table in force, and earlier tables that frames in the FIFO still use. -/
  tableNo : Nat := 0
  oldTables : List (Nat × BusTable) := []
  shadow : Option BusTable := none
  /-- BUS_RECOVER in flight: journal entry, deadline. -/
  recover : Option (Nat × Nat) := none
  deriving DecidableEq, Repr

/-- Both controllers and CANCLK. -/
structure Buses where
  a : Bus := {}
  b : Bus := {}
  clockLost : Bool := false
  deriving DecidableEq, Repr

/-! ### Chronometer and telegrams (chapter 15) -/

/-- A telegram connection (R532 to R540). -/
structure Conn where
  /-- Valid; otherwise resynchronising. -/
  valid : Bool := false
  /-- Its watchdog expired and it has not been valid since. -/
  expired : Bool := false
  /-- Last accepted sequence and whether any was accepted. -/
  seq : Nat := 0
  /-- Time stamp and arrival of the last accepted telegram, or of the candidate. -/
  stamp : Nat := 0
  arrival : Nat := 0
  /-- Candidate's sequence while resynchronising. -/
  candidate : Option Nat := none
  /-- Safety ticks since the last acceptance. -/
  ticks : Nat := 0
  checkErrors : Nat := 0
  identErrors : Nat := 0
  seqErrors : Nat := 0
  timeErrors : Nat := 0
  expiries : Nat := 0
  /-- Last acceptance, or last attempt that succeeded. -/
  last : Option Nat := none
  /-- Payload of the last accepted telegram (kinds 3 and 4). -/
  payload : List Byte := []
  /-- Sequence of the next telegram sent; last one built. -/
  next : Nat := 0
  sent : Nat := 0
  /-- Safety ticks since the last telegram was built (R535). -/
  sinceBuilt : Nat := 0
  /-- Device time at which it was built. -/
  builtAt : Nat := 0
  deriving DecidableEq, Repr

/-- The Chronometer (R522 to R531). -/
structure Chron where
  /-- Time in ticks of 10 ns and its fraction in 10⁻⁹ ticks. -/
  time : Nat := 0
  frac : Nat := 0
  /-- State of R523. -/
  state : Nat := 0
  /-- Rate correction c, trim and slew in ppb. -/
  c : Int := 0
  trim : Int := 0
  slew : Int := 0
  /-- Rank followed or held. -/
  rank : Option Nat := none
  offset : Int := 0
  references : Nat := 0
  steps : Nat := 0
  masterChanges : Nat := 0
  lastRef : Nat := 0
  /-- Device time of the last reference with "Time valid", for S of R528 and CHRON_SET. -/
  refSeen : Nat := 0
  /-- Device time of the last reference message of any kind. -/
  heard : Option Nat := none
  /-- Device time of the last usable message, and of the entry into holdover (R523, R531). -/
  usable : Nat := 0
  heldAt : Nat := 0
  lastStep : Nat := 0
  keepValid : Bool := false
  /-- Previous message of the master followed: rank, count and own stamp. -/
  prev : Option (Nat × Nat × Nat) := none
  /-- Usable messages in succession within 10 µs (R530). -/
  good : Nat := 0
  /-- As master: messages sent, stamp of the previous one, messages that still carry Discontinuity. -/
  sent : Nat := 0
  prevStamp : Option Nat := none
  discontinuity : Nat := 0
  /-- Device time at which the last reference message was built. -/
  sentAt : Nat := 0
  conns : List Conn := List.replicate 12 {}
  deriving DecidableEq, Repr

/-! ### The Log (chapter 16) -/

/-- A running cycle record, field by field of R553. -/
structure Record where
  /-- 1 cycle, 3 quiet interval (their interrupted kinds when cast so). -/
  kind : Nat := 3
  endState : Nat := 13
  flags : Nat := 0
  start : Nat := 0
  duration : Nat := 0
  openTime : Nat := 0
  closeTime : Nat := 0
  peakForce : Nat := 0
  closings : Nat := 0
  openings : Nat := 0
  reefStage : Nat := 0
  reefEntries : Nat := 0
  sources : Nat := 0
  cls : Nat := 0
  demandPos : Nat := 0
  motorTemp : Int := -32768
  lowVhv : Nat := 65535
  faultCause : Nat := 0
  endReason : Nat := 0
  pinned : Nat := 65535
  stepState : Nat := 0
  withdrawCause : Nat := 0
  dwell : Nat := 0
  deriving DecidableEq, Repr

/-- What the device keeps beside the running record to fill it. -/
structure Running where
  record : Record := {}
  /-- A record runs. -/
  active : Bool := false
  /-- Device time of its start, of the first entry into Opening, of the first leaf movement of the last Closing. -/
  began : Nat := 0
  openBegan : Option Nat := none
  closeBegan : Option Nat := none
  /-- In Open or Holding since; dwell so far in ticks. -/
  dwellSince : Option Nat := none
  dwellTicks : Nat := 0
  /-- A leaf demand has been recorded; a trace was triggered in it. -/
  demandSeen : Bool := false
  traced : Bool := false
  /-- Records that have ended and wait to be cast, the oldest first. -/
  ended : List Record := []
  deriving DecidableEq, Repr

/-- The Log header (R555). -/
structure LogHeader where
  epoch : Nat := 0
  writes : Nat := 0
  next : Nat := 0
  oldest : Nat := 0
  /-- 1 casting. -/
  casting : Bool := false
  failed : Bool := false
  torn : Nat := 0
  castSeq : Nat := 0
  nextTrace : Nat := 0
  capSlot : Nat := 65535
  pinned : Nat := 0
  eraseTime : Nat := 0
  deriving DecidableEq, Repr

/-- A capture in progress (R563). -/
structure Capture where
  slot : Nat
  period : Nat
  /-- Profile updates since its last sample. -/
  updates : Nat := 0
  /-- Samples written to the slot; its header names those up to its last write. -/
  samples : Nat := 0
  /-- Chronometer time of sample 0. -/
  time0 : Nat := 0
  /-- Journal entry of TRACE_CAPTURE. -/
  order : Option Nat := none
  deriving DecidableEq, Repr

/-- The Log's working state in SRAM. -/
structure Log where
  run : Running := {}
  /-- Profile updates since the last sample. -/
  updates : Nat := 0
  /-- Rolling buffer, oldest first: Chronometer time and the 32 bytes of each sample (R563). -/
  rolling : List (Nat × List Byte) := []
  capture : Option Capture := none
  missed : Nat := 0
  lastCast : Nat := 0
  /-- Triggers waiting: code, event source, Chronometer time. -/
  triggers : List (Nat × Nat × Nat) := []
  /-- A demand was raised at this update (R561). -/
  demandNow : Bool := false
  /-- The learned tables wait to be written (R556, step 7). -/
  tablesDue : Bool := false
  deriving DecidableEq, Repr

/-! ### Supplies, clocks, start-up, reefing and dies (chapters 03 and 17) -/

/-- Supplies, clocks and start-up (subsystem 1 and the always-on domain's view). -/
structure Supply where
  /-- Supplies present under R68. -/
  vhv : Bool := false
  vdrv : Bool := false
  vcore : Bool := false
  vio : Bool := false
  vkeep : Bool := false
  /-- VHV and VDRV as last measured, mV. -/
  vhvMv : Nat := 0
  vdrvMv : Nat := 0
  /-- State of R523 that the Chronometer left at the last reset. -/
  chronLeft : Nat := 0
  /-- Start-up step completed, 0 in reset (R84). -/
  step : Nat := 0
  /-- 0 running, 1 Parked, 2 Dormant (R87). -/
  mode : Nat := 0
  /-- Held in reset until VHV recovers from Reef 4 (R92). -/
  reef4Hold : Bool := false
  /-- Step 10 waits for VHV (R92). -/
  vhvWait : Bool := false
  /-- Both firmware banks failed (R85). -/
  bootRom : Bool := false
  /-- Bank that runs. -/
  bank : Nat := 0
  /-- A factory image was loaded at step 7. -/
  factoryImage : Bool := false
  /-- The park or dormant order accepted: its mode and journal entry; entry runs once its reply has left (R87). -/
  parking : Option (Nat × Nat) := none
  /-- Last accepted VCORE in mV, the loop's model of VCORE (R78), and the request waiting for its exchange. -/
  vcoreMv : Nat := 1200
  vcoreModel : Nat := 1200
  request : Option Nat := none
  /-- Time of the last set request; status of the last reply; failures of this exchange. -/
  requested : Nat := 0
  avsStatus : Nat := 0
  avsTries : Nat := 0
  avsFailed : Bool := false
  /-- Ticks in succession with slack below 2 taps. -/
  lowTicks : Nat := 0
  /-- The application clock is halved under R72. -/
  halved : Bool := false
  /-- Keep clock lost, and good since (R582, source 12). -/
  keepLost : Bool := false
  /-- Temperatures of the controller, smart-power and memory die in 0.1 °C, warm and hot. -/
  dieTemp : List Int := [250, 250, 250]
  dieWarm : List Bool := [false, false, false]
  dieHot : List Bool := [false, false, false]
  /-- Last request on the AVS interface, its four bytes in order of offset (R75); Value of the last good reply to a set request, the voltage measured at the regulator, and its status bits (R76). -/
  avsSent : List Byte := []
  avsSetting : Nat := 0
  avsMeasured : Nat := 0
  avsBits : Nat := 0
  /-- Last time at which VHV was seen at or above the threshold of each stage 1 to 4, and below its recovery threshold (R90). -/
  notBelow : List Nat := [0, 0, 0, 0]
  notAbove : List Nat := [0, 0, 0, 0]
  /-- Time of the last entry into or exit from a stage, and the sequence of its event (R90, R116). -/
  reefSince : Nat := 0
  reefSeq : Nat := 0
  /-- Learning and capture stay stopped until the next cycle begins (R91). -/
  stoppedCycle : Bool := false
  /-- Reef stage in force (R90). -/
  reef : Nat := 0
  /-- Reef 4 entered at (R91). -/
  reef4At : Option Nat := none
  deriving DecidableEq, Repr

/-- The keep registers and the cause word of the always-on domain (R82, R87, R88). -/
structure Keep where
  cause : Nat := 0
  /-- 0 running, 1 Parked, 2 Dormant. -/
  mode : Nat := 0
  /-- Chronometer time at entry, device time of the entry. -/
  time : Nat := 0
  entered : Nat := 0
  /-- The keep time is valid. -/
  valid : Bool := false
  /-- A WAKE edge was recorded. -/
  wake : Bool := false
  deriving DecidableEq, Repr

/-- What outlives a reset: memory die, flash, smart-power die and always-on domain. -/
structure NonVolatile where
  keep : Keep := {}
  /-- Command journal of 64 entries (R129). -/
  journal : List JEntry := List.replicate 64 {}
  journalWrites : Nat := 0
  /-- Event sequence number of the next event, and the last one sent (R134). -/
  eventSeq : Nat := 0
  sentSeq : Nat := 0
  /-- Events queued and not sent, kept for the reset event. -/
  unsent : Nat := 0
  /-- The Isolated flag of the journal status (R181, R551). -/
  wasIsolated : Bool := false
  /-- Main array of the memory die (R550). -/
  main : List Host.Cell := []
  /-- Trace slots in the order of their last write, the oldest first; a slot not listed was never written. -/
  traceOrder : List Nat := []
  /-- Log header; none when neither copy passes its check. -/
  header : Option LogHeader := some {}
  /-- Draft record: the record as it stood and the next sequence it names (R558). -/
  draft : Option (Record × Nat) := none
  /-- Tile serial numbers: key 16·port + tile (R551). -/
  serials : List (Nat × Nat) := []
  /-- Learned tables as last written: tables 0 and 1 by direction, present when a copy passes. -/
  learned : Option (List (List (Nat × Int)) × List (List (Nat × Int))) := some ([[], []], [[], []])
  /-- The stored parameter image: values that differ from their defaults; none when its CRC fails. -/
  image : Option (List (Nat × Int)) := some []
  /-- Tables saved with the image: reference friction table, microstep table, bus tables of A and B. -/
  fricRef : List (List (Nat × Int)) := [[], []]
  steps : List (Nat × Int) := []
  tableA : BusTable := {}
  tableB : BusTable := {}
  /-- Firmware banks, active bank and load in progress (R119). -/
  banks : List Bank := [{ valid := true }, {}]
  active : Nat := 0
  sealRec : Option SealRecord := none
  /-- Copies on the smart-power die (R93, R427): SYS_VHV_NOMINAL; pair enable, mask and map. -/
  nominal : Option Nat := none
  jury : Option (Nat × Nat × Nat) := none
  deriving DecidableEq, Repr

/-! ### The device -/

/-- Everything the manual gives the device but the queue of waiting commands. -/
structure Dev where
  /-- Time in ticks of 10 ns since the model's origin, on the main clock. -/
  now : Nat := 0
  /-- Values drawn from the free sources of Config so far. -/
  draws : Nat := 0
  nv : NonVolatile := {}
  supply : Supply := {}
  host : HostSide := {}
  prm : Params := {}
  fw : Option FwLoad := none
  door : Door := {}
  leaf : LeafPlan := {}
  step : StepPlan := {}
  pilot : Pilot := {}
  sext : Sextant := {}
  drive : Drive := {}
  skin : Skin := {}
  obst : Obstacle := {}
  load : Load := {}
  bin : Binnacle := {}
  bus : Buses := {}
  chron : Chron := {}
  log : Log := {}
  deriving DecidableEq, Repr

/-- The device with the commands that wait, first in, first out. -/
structure State where
  /-- Commands and events still to be taken, the next one first. -/
  pending : List Instr
  dev : Dev
  deriving DecidableEq, Repr

/-- The block stops on no command: the manual gives every one an effect. -/
inductive Fault where
  /-- Raised by no meaning; the outcome needs a type. Safe. -/
  | unused
  deriving DecidableEq, Repr

/-- Why the model turns a command away. -/
inductive Refusal where
  /-- The command has no meaning in the model yet; raised by the dispatcher alone. Safe. -/
  | notModelled (mnemonic : String)
  deriving DecidableEq, Repr

/-- The machine right after power-on reset: every field at the value its structure gives, cause bit 0 in the reset cause word (R82), VKEEP's keep registers lost, no command waiting. -/
def State.reset : State := { pending := [], dev := { nv := { keep := { cause := 1 } } } }

end Sys2Proof.Machine
end

