-- ==== Sys2Proof/Machine/Ops.lean ====
section
/-! DEFINITION. The operations every block shares: time, parameter values, packets, events and standing conditions, the command journal and replies. -/

namespace Sys2Proof.Machine

/-! ### Time -/

/-- The Chronometer moves on by some ticks at its corrected rate (R522): 1 + c of a tick each, with the fraction kept in 10⁻⁹ ticks. -/
def chronAdvance (dt : Nat) (t : Chron) : Chron :=
  let total := t.frac + dt * (1000000000 + t.c).toNat
  { t with time := (t.time + total / 1000000000) % 2 ^ 64, frac := total % 1000000000 }

/-- Time passes. The Chronometer counts while the controller die is out of reset (R523). -/
def Dev.advance (dt : Nat) (d : Dev) : Dev :=
  { d with
    now := d.now + dt
    chron := if 0 < d.supply.step then chronAdvance dt d.chron else d.chron }

/-- A free bit, drawn. -/
def Dev.drawBit (d : Dev) : Bool × Dev := (Config.freeBit d.draws, { d with draws := d.draws + 1 })

/-- A free number, drawn. -/
def Dev.drawValue (d : Dev) : Nat × Dev := (Config.freeValue d.draws, { d with draws := d.draws + 1 })

/-! ### Parameters in force -/

/-- The value of a parameter in the working set (R121). -/
def Dev.par (d : Dev) (id : Nat) : Int := sget (paramDefault id) id d.prm.working

/-- The value of a parameter that is not negative. -/
def Dev.parN (d : Dev) (id : Nat) : Nat := (d.par id).toNat

/-- One value put into a working set. -/
def putParam (id : Nat) (v : Int) (t : List (Nat × Int)) : List (Nat × Int) := sset (paramDefault id) id v t

/-! ### Packets (R100 to R103) -/

/-- The header of a packet with its check (R100). -/
def packetHeader (opcode tag flags length : Nat) : List Byte :=
  let h := u8 0xA5 ++ u8 opcode ++ u8 tag ++ u8 flags ++ u16 length ++ u8 0
  h ++ u8 (crc8 h)

/-- A whole packet: header, and, where there is a body, the body and its check (R101). -/
def packet (opcode tag flags : Nat) (body : List Byte) : List Byte :=
  packetHeader opcode tag flags body.length ++ (if body = [] then [] else body ++ u32 (crc32c body))

/-! ### Events (R133 to R136, R575 to R577) -/

/-- Sources that a mask does not touch: severity 3, reset, ready and events lost (R135). -/
def unmaskable (src sev : Nat) : Bool := sev = 3 || src = 0 || src = 1 || src = 2

/-- Events in the outbound queue (R136). -/
def HostSide.eventFill (h : HostSide) : Nat := (h.out.filter (·.event)).length

/-- One more for a saturating 16-bit count of a source. -/
def countUp (src : Nat) (t : List (Nat × Nat)) : List (Nat × Nat) := sset 0 src (satU 16 (sget 0 src t + 1)) t

/-- An event gets the next sequence number and is queued, masked or lost (R134 to R136). `data` opens with phase and subject (R575). -/
def Dev.queueEvent (src sev : Nat) (data : List Byte) (time : Nat) (d : Dev) : Dev :=
  let seq := d.nv.eventSeq
  let d := { d with nv := { d.nv with eventSeq := (seq + 1) % 2 ^ 32 } }
  let body := u16 src ++ u8 sev ++ u8 0 ++ u32 seq ++ u64 time ++ data
  let fill := d.host.eventFill
  if ¬ d.host.mask.getLsbD src ∧ ¬ unmaskable src sev then
    { d with host := { d.host with masked := countUp src d.host.masked } }
  else if 256 ≤ fill ∨ (240 ≤ fill ∧ sev < 2 ∧ src ≠ 2) then
    { d with host := { d.host with
        lost := countUp src d.host.lost
        lostSince := modAt (fun n => satU 16 (n + 1)) (src / 32) d.host.lostSince } }
  else
    { d with host := { d.host with
        out := d.host.out ++ [{ event := true, key := seq, source := src, bytes := packet 0x8E 0 4 body }] } }

/-- An event is raised; before the host interface opens it is held (R577). -/
def Dev.raiseAt (src sev phase subject : Nat) (fields : List Byte) (time : Nat) (d : Dev) : Dev :=
  let data := u8 phase ++ u8 subject ++ fields
  if d.host.isOpen then d.queueEvent src sev data time
  else { d with host := { d.host with held := d.host.held ++ [HeldEvent.mk src sev data time] } }

/-- A one-shot event, phase 0, of a subject; 0xFF for none (R575). -/
def Dev.raise (src sev subject : Nat) (fields : List Byte) (d : Dev) : Dev :=
  d.raiseAt src sev 0 subject fields d.chron.time

/-- A condition of a standing source holds for a subject. -/
def HostSide.stands (h : HostSide) (src subject : Nat) : Bool := h.standing.any fun s => s.source = src && s.subject = subject

/-- The onset of a standing condition; nothing while it already holds for the subject (R576). -/
def Dev.onset (src sev subject : Nat) (fields : List Byte) (d : Dev) : Dev :=
  if d.host.stands src subject then d
  else
    let d := { d with host := { d.host with standing := d.host.standing ++ [Standing.mk src subject sev] } }
    d.raiseAt src sev 1 subject fields d.chron.time

/-- A standing condition ends without an event of its own: its partner reports (R576). -/
def Dev.endStanding (src subject : Nat) (d : Dev) : Dev :=
  { d with host := { d.host with standing := d.host.standing.filter fun s => ¬ (s.source = src ∧ s.subject = subject) } }

/-- The clearing of a standing condition, phase 2, severity 0 (R576). -/
def Dev.clearing (src subject : Nat) (fields : List Byte) (d : Dev) : Dev :=
  if d.host.stands src subject then
    (d.endStanding src subject).raiseAt src 0 2 subject fields d.chron.time
  else d

/-- A standing condition follows a truth value. -/
def Dev.follow (src sev subject : Nat) (holds : Bool) (fields : List Byte) (d : Dev) : Dev :=
  if holds then d.onset src sev subject fields else d.clearing src subject fields

/-! ### The command journal (R129, R130) -/

/-- The journal entry of a slot. -/
def Dev.entry (d : Dev) (slot : Nat) : JEntry := d.nv.journal.getD slot {}

/-- The 32 bytes of a slot, with its Entry check (R129). -/
def JSlot.bytes (s : JSlot) : List Byte :=
  let b := u8 s.state ++ u8 s.opcode ++ u8 s.tag ++ u8 s.flags ++ u16 s.length ++ u16 s.seq ++ u64 s.accept ++ u64 s.change
    ++ u32 s.bodyCheck ++ u8 s.status ++ u8 s.progress
  b ++ u16 (crc16 b)

/-- Bytes as read from a slot pass the Entry check (R129, R130). -/
def slotPasses (b : List Byte) : Bool := decide (b.length = 32) && decide (crc16 (b.take 30) = fieldAt 30 2 b)

/-- A slot reads back with some of its bits flipped and still passes. -/
def JSlot.reads (s : JSlot) (flips : Nat) : Bool := slotPasses (List.zipWith (fun x y => x ^^^ y) s.bytes (leBytes 32 flips))

/-- A journal entry as read at start-up (R130, R131). `damage` names an entry, a slot of it (0 the one written last, 1 the other) and the bits that read flipped. The slot that passes and has the higher sequence counts; where both fail, tag and opcode are those of the slot written last. -/
def JEntry.readBack (damage : List (Nat × Nat × Nat)) (n : Nat) (e : JEntry) : JEntry :=
  let fails (slot : Nat) (s : JSlot) : Bool := damage.any fun x => decide (x.1 = n) && decide (x.2.1 = slot) && !s.reads x.2.2
  if ¬ fails 0 e.toJSlot then e
  else if ¬ fails 1 e.older then { toJSlot := e.older, older := e.toJSlot }
  else { e with torn := true }

/-- Writes a journal entry, into the slot that does not hold the write before: its sequence is the write count, its change time that of a state change (R129, R130). -/
def Dev.putEntry (slot : Nat) (e : JEntry) (d : Dev) : Dev :=
  let change := if e.state = (d.entry slot).state then e.change else d.chron.time
  let e := { e with seq := d.nv.journalWrites % 65536, change := change, older := (d.entry slot).toJSlot }
  { d with nv := { d.nv with journal := setAt slot e d.nv.journal, journalWrites := d.nv.journalWrites + 1 } }

/-- The progress of an order in its journal entry. -/
def Dev.progress (slot n : Nat) (d : Dev) : Dev := d.putEntry slot { d.entry slot with progress := n }

/-- The first entry that meets a condition. -/
def findEntry (p : JEntry → Bool) : Nat → List JEntry → Option Nat
  | _, [] => none
  | i, e :: es => if p e then some i else findEntry p (i + 1) es

/-- The entry for a new packet: a free one, else one whose reply has been sent (R130). -/
def Dev.freeEntry (d : Dev) : Option Nat :=
  match findEntry (fun e => e.state = 0) 0 d.nv.journal with
  | some i => some i
  | none => findEntry (fun e => e.state = 4) 0 d.nv.journal

/-! ### Replies (R103, R112 to R116) -/

/-- Queues the reply of a journal entry and writes its completion. R28 has every reply carry Chronometer time, but R103 and the reply layouts give a reply no field for it: DESIGN CHOICE (log entry 62), the packet follows the layouts, and the time of completion stands in the journal entry's change time. -/
def Dev.replyFlags (slot status : Nat) (data : List Byte) (flags : Nat) (d : Dev) : Dev :=
  let e := d.entry slot
  let d := d.putEntry slot { e with state := 3, status := status }
  let bytes := packet (128 + e.opcode % 128) e.tag flags (u8 status ++ data)
  { d with host := { d.host with
      out := d.host.out ++ [{ event := false, key := slot, bytes := bytes }]
      flights := d.host.flights.map fun f => if f.slot = slot then { f with replied := true } else f } }

/-- The one reply to a packet. -/
def Dev.reply (slot status : Nat) (data : List Byte) (d : Dev) : Dev := d.replyFlags slot status data 0

/-- An order ends DONE. -/
def Dev.done (slot : Nat) (data : List Byte) (d : Dev) : Dev := d.reply slot 0x00 data

/-- An order in an optional slot is replied to; orders made inside the device have none. -/
def Dev.replyTo (slot : Option Nat) (status : Nat) (data : List Byte) (d : Dev) : Dev :=
  match slot with
  | some s => d.reply s status data
  | none => d

/-- The sequence number of the event that reports the cause, for ABORTED (R116): the one named for the orders that are ending, else the event raised last. -/
def Dev.lastEvent (d : Dev) : Nat := d.host.cause.getD ((d.nv.eventSeq + (2 ^ 32 - 1)) % 2 ^ 32)

/-- Orders end for a cause that an earlier event has reported (R116). -/
def Dev.reporting (seq : Nat) (f : Dev → Dev) (d : Dev) : Dev :=
  let d := f { d with host := { d.host with cause := some seq } }
  { d with host := { d.host with cause := none } }

/-- ABORTED with its reason and the event that reports the cause (R116). -/
def Dev.abort (slot : Option Nat) (reason : Nat) (d : Dev) : Dev :=
  d.replyTo slot 0x14 (u8 reason ++ u32 d.lastEvent)

/-- The events lost per group are reported once the fill falls below 128 (R136). -/
def Dev.reportLost (d : Dev) : Dev :=
  if d.host.eventFill < 128 ∧ d.host.lostSince.any (0 < ·) then
    let data := d.host.lostSince.flatMap u16
    let d := { d with host := { d.host with lostSince := [0, 0, 0, 0, 0, 0] } }
    d.raise 2 1 0xFF data
  else d

/-- The front packet has left: an event moves the last sequence sent, a reply ends its command (R112, R130, R134). -/
def Dev.packetLeft (d : Dev) : Dev :=
  match d.host.out with
  | [] => d
  | p :: rest =>
    let d := { d with host := { d.host with out := rest, outPos := 0, txSeq := (d.host.txSeq + 1) % 256 } }
    if p.event then
      let d := { d with nv := { d.nv with
        sentSeq := p.key
        keep := if p.source = 0 then { d.nv.keep with cause := 0 } else d.nv.keep } }
      d.reportLost
    else
      let d := d.putEntry p.key { d.entry p.key with state := 4 }
      { d with host := { d.host with flights := d.host.flights.filter fun f => f.slot ≠ p.key } }

/-- Packets leave up to and including the first reply; the front event where no reply waits. -/
def Dev.sendUpTo : Nat → Dev → Dev
  | 0, d => d
  | n + 1, d =>
    match d.host.out with
    | [] => d
    | p :: _ => if p.event then sendUpTo n d.packetLeft else d.packetLeft

/-- An order in flight by its tag. -/
def HostSide.flightOf (h : HostSide) (tag : Nat) : Option Flight := h.flights.find? fun f => f.tag = tag && !f.replied

/-- The result of a step that only acts on the device. -/
def onDev (dt : Nat) (f : Dev → Dev) (s : State) : Host.Outcome State Fault Refusal :=
  .next { s with dev := f (s.dev.advance dt) }

end Sys2Proof.Machine
end

