-- ==== Sys2Proof/Machine/Flags.lean ====
section
/-! DEFINITION. What the device derives from its state: positions and speeds as reported, motion, readiness, pad levels and status bits. -/

namespace Sys2Proof.Machine

/-! ### Positions and speeds -/

/-- Sub-edges in 1/256 as micrometres, rounded (R6): 256 sub-edges make SEXT_UM_PER_EDGE. -/
def Dev.umOfFine (d : Dev) (p : Int) : Int := roundDiv (p * d.parN P.SEXT_UM_PER_EDGE) 65536

/-- Sub-edges as micrometres, rounded (R6). -/
def Dev.umOfSub (d : Dev) (p : Int) : Int := roundDiv (p * d.parN P.SEXT_UM_PER_EDGE) 256

/-- Micrometres as sub-edges, rounded (R6). -/
def Dev.subOfUm (d : Dev) (p : Int) : Int := roundDiv (p * 256) (d.parN P.SEXT_UM_PER_EDGE)

/-- One sub-edge in the planner's units of 2⁻²⁰ µm. -/
def Dev.subUnit (d : Dev) : Int := (4096 * d.parN P.SEXT_UM_PER_EDGE : Nat)

/-- A host position of the leaf as the planner holds it: the nearest sub-edge (R6), in 2⁻²⁰ µm. -/
def Dev.goalOf (d : Dev) (um : Int) : Int := d.subOfUm um * d.subUnit

/-- A speed of 1/65,536 sub-edge per ms in µm/s, rounded (R6, R285). -/
def Dev.umsOfSpeed (d : Dev) (v : Int) : Int := roundDiv (v * (1000 * d.parN P.SEXT_UM_PER_EDGE)) (65536 * 256)

/-- Sextant's signed speed, opening positive. -/
def Sextant.signedSpeed (s : Sextant) : Int := if s.opening then s.speed else -(s.speed : Int)

/-- Leaf position in µm, from the interpolated position (R286). -/
def Dev.leafPos (d : Dev) : Int := d.umOfFine d.sext.pInt

/-- Measured leaf speed in µm/s, opening positive (R285). -/
def Dev.leafSpeed (d : Dev) : Int := d.umsOfSpeed d.sext.signedSpeed

/-- Step position in µm from the microstep count (R210). -/
def Dev.stepPos (d : Dev) : Int := roundDiv (d.step.count * 1000) (d.parN P.PLAN_STEP_USTEP_PER_MM)

/-- A planner value of 2⁻²⁰ units as a whole number. -/
def wholeOf (v : Int) : Int := roundDiv v 1048576

/-! ### Motion (R17) -/

/-- The axis has a non-zero commanded speed or measures above PLAN_STANDSTILL_SPEED. -/
def Dev.axisMoving (axis : Nat) (d : Dev) : Bool :=
  if axis = 0 then d.leaf.sp.v ≠ 0 || d.par P.PLAN_STANDSTILL_SPEED < d.leafSpeed.natAbs
  else d.step.sp.v ≠ 0

/-- Orders whose effect is a motion of the leaves or of the step: DOOR_RELEASE (which may deploy the step, R170), DOOR_OPEN, DOOR_CLOSE, DOOR_HOLD (which opens from Closing, R162), DOOR_ISOLATE, LANDFALL_WITHDRAW, STEP_DEPLOY, STEP_RETRACT, DOOR_FAULT_CLEAR (which opens from Obstructed, R158), AXIS_HOME and AXIS_MOVE. DEDUCED: R17 names none. -/
def motionOpcodes : List Nat := [0x20, 0x21, 0x22, 0x23, 0x24, 0x27, 0x28, 0x29, 0x2C, 0x30, 0x31]

/-- An order made inside the device (R174, R183) waits, or waits for its start, or is in flight. -/
def Door.ownOrder (q : Door) : Bool :=
  (q.inbox.any fun o => o.slot.isNone && motionOpcodes.contains o.opcode)
    || (q.order.toList ++ q.waitOrder.toList).any fun o => o.slot.isNone && motionOpcodes.contains o.opcode

/-- A motion order accepted and not yet completed, the host's or the device's own. -/
def Dev.motionOrder (d : Dev) : Bool :=
  (d.host.flights.any fun f => motionOpcodes.contains f.opcode && !f.replied) || d.door.ownOrder

/-- A motion order of one axis accepted and not yet completed: the leaf 0, or the step 1 (R214, R254). -/
def Dev.axisOrder (axis : Nat) (d : Dev) : Bool :=
  (d.host.flights.any fun f => !f.replied && motionOpcodes.contains f.opcode && f.opcode < 0x30
      && decide ((axis = 1) = (f.opcode = 0x28 ∨ f.opcode = 0x29)))
    || (d.leaf.orders.any fun o => (decide (o.1 = 0x30) || decide (o.1 = 0x31)) && decide (o.2.2 = axis))
    || (decide (axis = 0) && d.door.ownOrder)

/-- In motion for parameter classes (R17). -/
def Dev.inMotion (d : Dev) : Bool := d.axisMoving 0 || d.axisMoving 1 || d.motionOrder

/-- Landfall is entered, or an entry is under way, so that a withdrawal is still to begin (R167). -/
def LandfallPhase.busy : LandfallPhase → Bool
  | .entering _ _ => true
  | .unlocking _ => true
  | .held _ => true
  | _ => false

/-- A withdrawal is in progress. -/
def LandfallPhase.leaving : LandfallPhase → Bool
  | .withdrawing _ => true
  | _ => false

/-! ### Readiness and pads -/

/-- Start-up has reached step 13 (R84). -/
def Dev.ready (d : Dev) : Bool := 13 ≤ d.supply.step

/-- Running, past step 10: pads configured, profile updates and gates available (R84). -/
def Dev.live (d : Dev) : Bool := 10 ≤ d.supply.step && d.supply.mode = 0

/-- The Chronometer time is valid (R523). -/
def Dev.timeValid (d : Dev) : Bool := !(d.chron.state = 0 || d.chron.state = 2)

/-- A standing condition of severity 2 or 3 holds (R579). -/
def Dev.faultStands (d : Dev) : Bool := d.host.standing.any fun s => 2 ≤ s.severity

/-- FAULT_N is driven low (R579); released in Parked and Dormant. -/
def Dev.faultN (d : Dev) : Bool := d.supply.mode = 0 && (!d.ready || d.bin.classA || d.faultStands)

/-- HIRQ_N is driven low: SPI is the host channel and a packet waits (R137). DESIGN CHOICE (log entry 63): R84 ends the reset state of this pad at step 10 only, but it opens the host interface at step 8, and in the boot ROM under R85; the pad belongs to that interface here, and follows it from its opening on. -/
def Dev.hirqN (d : Dev) : Bool := d.host.isOpen && d.host.chan.channel = 0 && !d.host.out.isEmpty

/-- The inbound SPI buffer has room for a packet and two journal entries are free (R104, R107, R130). -/
def Dev.inRoom (d : Dev) : Bool :=
  decide (d.host.spiIn.length + 1036 ≤ 4144) && decide (2 ≤ (d.nv.journal.filter fun e => e.state = 0 || e.state = 4).length)

/-- The SPI status byte (R104). -/
def Dev.spiStatus (d : Dev) : Nat :=
  bitsOf [!d.host.out.isEmpty, d.inRoom, d.ready, d.supply.bootRom, false, true, true, false]

/-- The drive inhibit of Binnacle: some cause of R464 stands. -/
def Binnacle.inhibit (b : Binnacle) : Bool := b.overspeed || b.violation || b.unprovenInhibit || b.classA || b.reportLost

/-- Inhibit causes by the rows of R464. -/
def Binnacle.causes (b : Binnacle) : Nat := bitsOf [b.overspeed, b.violation, b.unprovenInhibit, b.classA, b.reportLost]

/-- Learning and trace capture are stopped by reefing or a hot die, and after Reef 1 and a hot controller die until the next cycle begins (R91, R581). -/
def Dev.captureStopped (d : Dev) : Bool :=
  1 ≤ d.supply.reef || d.supply.stoppedCycle || d.supply.dieHot.getD 0 false || d.supply.dieHot.getD 2 false

/-- The application clock runs at 200 MHz (R72, R581). -/
def Dev.slowClock (d : Dev) : Bool := d.supply.halved || d.supply.dieHot.getD 0 false

/-- Commanded motion of the leaf: 0 none, 1 opening, 2 closing. -/
def Dev.leafMotion (d : Dev) : Nat :=
  if d.leaf.sp.v ≠ 0 ∨ ¬ d.leaf.phases.isEmpty then (if d.leaf.opening then 1 else 2) else 0

/-- Commanded motion of the step: 0 none, 1 deploying, 2 retracting. -/
def Dev.stepMotion (d : Dev) : Nat :=
  if d.step.sp.v ≠ 0 ∨ ¬ d.step.phases.isEmpty then (if d.step.target > wholeOf d.step.sp.p then 1 else 2) else 0

/-- Leaf ports of the arrangement that are enabled (SKIN_A, and SKIN_B in arrangement 1). -/
def Dev.leafPorts (d : Dev) : List Nat := if d.par P.SYS_LEAF_ARRANGEMENT = 1 then [0, 1] else [0]

/-- The link setting of a port: not 0 when it is enabled. Port C serves the step-nose strip only where the step is fitted (R37). -/
def Dev.portLink (d : Dev) (p : Nat) : Nat :=
  if 2 ≤ p ∧ d.par P.SYS_STEP_FITTED ≠ 1 then 0 else d.parN ([P.SKIN_A_LINK, P.SKIN_B_LINK, P.SKIN_C_LINK].getD p P.SKIN_C_LINK)

/-- Level of a controller's CANx_TX outside its frames (R52): recessive in reset and while no attempt is under way. -/
def Bus.txRecessive (b : Bus) : Bool := b.committed.isNone

/-- AVSCLK stands low, its idle level: no exchange is under way (R52, before R74). -/
def Dev.avsIdle (d : Dev) : Bool := d.supply.request.isNone

/-- TDO is driven: the debug port is enabled and the pads are out of reset (R27, R48, R52). -/
def Dev.tdoDriven (d : Dev) : Bool := d.live && d.bin.debug

/-- Levels of HOU, HOV and HOW as bits 0 to 2; none while they are inputs (R36, R51, R300). -/
def Dev.hallPads (d : Dev) : Option Nat := if d.live then d.sext.hallOut else none

/-- Safe input pair that carries a function (R437). -/
def Dev.pairOf (d : Dev) (func : Nat) : Option Nat := (List.range 8).find? fun p => d.parN (P.pairFunc p) = func

end Sys2Proof.Machine
end

