-- ==== Sys2Proof/Machine/BusOps.lean ====
section
/-! DEFINITION. The two bus controllers (chapter 14): error confinement, receiving, routing, buffers, transmitting, recovery and the bus table. -/

namespace Sys2Proof.Machine

/-- Controller 0 is A, 1 is B (R515). -/
def Dev.busOf (d : Dev) (x : Nat) : Bus := if x = 0 then d.bus.a else d.bus.b

/-- One controller replaced. -/
def Dev.setBus (x : Nat) (b : Bus) (d : Dev) : Dev :=
  { d with bus := if x = 0 then { d.bus with a := b } else { d.bus with b := b } }

/-- This controller carries the host channel (R98). -/
def Dev.isHostBus (d : Dev) (x : Nat) : Bool := d.host.chan.channel = x + 1

/-- The mode that runs, and whether R489 raised it. -/
def Dev.busMode (d : Dev) (x : Nat) : Nat × Bool :=
  let m := d.parN (P.busField x 0)
  let need := if d.isHostBus x then (if d.host.chan.format = 1 then 3 else 2) else 0
  if m < need then (need, true) else (m, false)

/-- Listen-only in force; ignored on the host controller whose mode is raised (R489). -/
def Dev.busListen (d : Dev) (x : Nat) : Bool := d.par (P.busField x 0x0F) = 1 && !d.isHostBus x

/-- The controller takes part in traffic: error-active or error-passive. -/
def Bus.running (b : Bus) : Bool := b.state = 2 || b.state = 3

/-- A change of state with its time and, where R509 asks for it, its event. -/
def Dev.busState (x new : Nat) (d : Dev) : Dev :=
  let b := d.busOf x
  if b.state = new then d
  else
    let d := d.setBus x { b with state := new, changed := d.chron.time }
    let data := u8 new ++ u8 (satU 8 b.txErr) ++ u8 (satU 8 b.rxErr)
    if new = 4 ∧ b.state ≠ 5 then
      d.onset 180 2 x data
    else if d.host.stands 180 x ∧ new = 2 then
      d.clearing 180 x data
    else if (new = 3 ∧ b.state = 2) ∨ (new = 2 ∧ b.state = 3) then d.raise 180 1 x data
    else d

/-! ### Ends of host frames (R504, R506) -/

/-- A host send object by its number. -/
def Bus.sendOf (b : Bus) (obj : Nat) : Option SendObject := b.sends.find? fun s => s.object = obj

/-- A host send object without its pending frame. -/
def Bus.dropSend (b : Bus) (obj : Nat) : Bus := { b with sends := b.sends.filter fun s => s.object ≠ obj }

/-- The reply data at the end of a frame (R516). -/
def sendReply (s : SendObject) (result cause time : Nat) : List Byte :=
  u8 result ++ u8 cause ++ u8 (satU 8 s.attempts) ++ u8 (bit s.collided) ++ leBytes 3 0 ++ u64 time

/-- A frame of BUS_SEND ends sent or failed; a cancel that waits for it is told. -/
def Dev.endSend (x : Nat) (s : SendObject) (result cause time : Nat) (d : Dev) : Dev :=
  let d := d.setBus x ((d.busOf x).dropSend s.object)
  let d := d.done s.slot (sendReply s result cause time)
  d.replyTo s.cancel (if result = 0 then 0x1C else 0x13) []

/-- A frame of BUS_SEND ends cancelled; the cancel's reply follows with a status (R506). -/
def Dev.cancelSend (x : Nat) (s : SendObject) (slot status : Nat) (d : Dev) : Dev :=
  let d := d.setBus x ((d.busOf x).dropSend s.object)
  (d.reply s.slot 0x12 []).reply slot status []

/-- Every pending host frame ends failed with a cause; one that a cancel waits for is cancelled (R508). -/
def Dev.failSends (x cause : Nat) : List SendObject → Dev → Dev
  | [], d => d
  | s :: ss, d =>
    let d := match s.cancel with
      | some c => d.cancelSend x s c 0x1D
      | none => d.endSend x s 1 cause d.chron.time
    failSends x cause ss d

/-! ### Error confinement (R509, R510) -/

/-- The packet held on object 1 is sent again from its First segment (R505). -/
def Dev.resendHost (x : Nat) (d : Dev) : Dev := if d.isHostBus x then { d with host := { d.host with outPos := 0 } } else d

/-- The controller enters bus-off (R510). -/
def Dev.busOff (x : Nat) (d : Dev) : Dev :=
  let b := d.busOf x
  let d := d.setBus x { b with counts := { b.counts with busOffs := satU 16 (b.counts.busOffs + 1) }, committed := none, device := [] }
  let d := (d.busState x 4).resendHost x
  Dev.failSends x 2 b.sends d

/-- The states that follow from the counters: warning at 96, error-passive at 128, bus-off above 255. -/
def Dev.busJudge (x : Nat) (d : Dev) : Dev :=
  let b := d.busOf x
  let most := max b.txErr b.rxErr
  let warn := decide (96 ≤ most)
  let d := d.setBus x { b with warning := warn }
  let d := if warn ∧ ¬ b.warning then d.raise 180 1 x (u8 8 ++ u8 (satU 8 b.txErr) ++ u8 (satU 8 b.rxErr)) else d
  if ¬ b.running then d
  else if 255 < b.txErr then d.busOff x
  else if 128 ≤ most then d.busState x 3
  else d.busState x 2

/-- One count of an error code of offset 7 of R517. -/
def BusCounts.error (c : BusCounts) (code : Nat) : BusCounts :=
  let up (n : Nat) : Nat := satU 16 (n + 1)
  if code = 1 then { c with stuff := up c.stuff }
  else if code = 2 then { c with form := up c.form }
  else if code = 3 then { c with ack := up c.ack }
  else if code = 4 ∨ code = 5 then { c with bitErrors := up c.bitErrors }
  else if code = 6 then { c with crc := up c.crc }
  else c

/-- An error seen while receiving: the receive counter rises by 1, or by 8 where a dominant bit follows the error flag (ISO 11898-1 through R509). A controller in bus-off counts nothing (R511). -/
def Dev.busReceiveError (x code : Nat) (dominant : Bool) (d : Dev) : Dev :=
  let b := d.busOf x
  if ¬ b.running then d
  else
    let d := d.setBus x { b with rxErr := min 255 (b.rxErr + (if dominant then 8 else 1)), lastError := code, counts := b.counts.error code }
    d.busJudge x

/-! ### Receiving and routing (R494 to R500) -/

/-- A frame as the device keeps it. -/
def FrameIn.frame (f : FrameIn) : Frame :=
  { ident := f.ident, format := f.format, sdt := f.sdt, vcid := f.vcid, sec := f.sec, af := f.af, length := f.length, data := f.data, esi := f.esi }

/-- A mode carries a format (R488). -/
def carries (mode format : Nat) : Bool := if format ≤ 1 then 1 ≤ mode else if format ≤ 3 then 2 ≤ mode else mode = 3

/-- After a good frame the receive counter falls by 1; from above 127 it is set between 119 and 127, a value ISO 11898-1 leaves open: a free value. -/
def Dev.busGoodReceive (x : Nat) (d : Dev) : Dev :=
  let b := d.busOf x
  if b.rxErr = 0 then d
  else if b.rxErr ≤ 127 then (d.setBus x { b with rxErr := b.rxErr - 1 }).busJudge x
  else
    let (v, d) := d.drawValue
    (d.setBus x { d.busOf x with rxErr := 119 + v % 9 }).busJudge x

/-- A mode-2 controller meets a CAN XL frame: it integrates again and counts the exception (R488). -/
def Dev.exception (x : Nat) (d : Dev) : Dev :=
  let b := d.busOf x
  if b.mode = 2 ∧ b.running then
    (d.setBus x { b with committed := none, counts := { b.counts with exceptions := satU 16 (b.counts.exceptions + 1) } }).busState x 1
  else d

/-- A frame becomes valid: into the FIFO of 64, or discarded and counted (R494, R495, R511). A format above the mode ends in an error frame in mode 1 (a form error of the receiver: DEDUCED, log entry 50) and in a protocol exception in mode 2 (R488). -/
def Dev.busReceive (x : Nat) (f : FrameIn) (d : Dev) : Dev :=
  let b := d.busOf x
  let off := b.state = 4 || b.state = 5
  if ¬ (b.running ∨ off) then d
  else if ¬ carries b.mode f.format then (if b.mode = 1 then d.busReceiveError x 2 false else d.exception x)
  else
    let stamp := d.chron.time - f.age
    let d := if 64 ≤ b.fifo.length then
        d.setBus x { b with
          counts := { b.counts with overflows := satU 16 (b.counts.overflows + 1) }
          lost := satU 16 (b.lost + 1), lostAt := if b.lost = 0 then d.chron.time else b.lostAt }
      else
        let e : RxEntry := { frame := f.frame, stamp := stamp, inBusOff := off, table := b.tableNo }
        let fill := b.fifo.length + 1
        d.setBus x { b with
          fifo := b.fifo ++ [e]
          counts := { b.counts with received := (b.counts.received + 1) % 2 ^ 32, most := max b.counts.most fill } }
    if off then d else d.busGoodReceive x

/-- The format bit of an entry of the bus table (R519). -/
def formatBit (format : Nat) : Nat := if format = 0 then 0 else if format = 1 then 1 else if format ≤ 3 then 2 else 3

/-- A frame matches an entry (R519): bit 31 is always compared. -/
def TableEntry.matchFrame (e : TableEntry) (f : Frame) : Bool :=
  let diff (a b : Nat) : Nat := (BitVec.ofNat 32 a ^^^ BitVec.ofNat 32 b).toNat
  let under (m v : Nat) : Nat := (BitVec.ofNat 32 m &&& BitVec.ofNat 32 v).toNat
  bitAt e.formats (formatBit f.format)
    && under (if bitAt e.mask 31 then e.mask else e.mask + 2 ^ 31) (diff e.ident f.ident) = 0
    && (f.format ≠ 4 || under e.afMask (diff e.af f.af) = 0)

/-- Where a received frame goes (R496). -/
inductive Route where
  | host
  /-- A frame with the host identifier in a format that does not carry the host channel (R493). -/
  | hostBadFormat
  | reference
  | connection (c : Nat)
  | priority (n : Nat)
  | object (n : Nat)
  | discard
  | unmatched
  deriving DecidableEq, Repr

/-- The frame format of a connection's setting (R533). -/
def connFormat (setting : Nat) : Nat := if setting = 2 then 4 else setting + 2

/-- Step 1 of R496: the device objects. With the host's identifier a format below the host's is a segment error (R493). -/
def Dev.deviceRoute (d : Dev) (x : Nat) (f : Frame) : Option Route :=
  let xl := d.host.chan.format = 1
  if d.isHostBus x ∧ f.ident = d.host.chan.idIn ∧ (xl ∨ f.format ≠ 4) then
    if (if xl then f.format = 4 else (f.format = 2 ∨ f.format = 3)) then some .host else some .hostBadFormat
  else if d.par P.CHRON_ROLE ≠ 0 ∧ d.parN P.CHRON_REF_BUS = x ∧ f.format = 2
      ∧ d.parN P.CHRON_REF_ID ≤ f.ident ∧ f.ident ≤ d.parN P.CHRON_REF_ID + 7 then some .reference
  else
    match (List.range 12).find? fun c =>
      let kind := d.parN (P.connField c 0)
      (kind = 3 || kind = 4) && d.parN (P.connField c 1) = x && d.parN (P.connField c 2) = f.ident
        && connFormat (d.parN (P.connField c 4)) = f.format with
    | some c => some (.connection c)
    | none => none

/-- Step 2 of R496: the first enabled priority entry that matches. -/
def BusTable.priority (t : BusTable) (f : Frame) : Option Nat :=
  (List.range 8).find? fun n => let e := sget ({} : TableEntry) n t.prios; e.action = 1 && e.matchFrame f

/-- Step 3 of R496: the first rule that matches decides. -/
def BusTable.rule (t : BusTable) (f : Frame) : Route :=
  match t.rules.find? fun (_, e) => (e.action = 1 || e.action = 2) && e.matchFrame f with
  | some (_, e) => if e.action = 1 then .object e.object else .discard
  | none => .unmatched

/-- The table that a frame in the FIFO is routed by (R519). -/
def Bus.tableFor (b : Bus) (no : Nat) : BusTable :=
  if no = b.tableNo then b.table else match b.oldTables.find? fun t => t.1 = no with | some t => t.2 | none => b.table

/-- The destination of a frame by the first step that applies (R496). -/
def Dev.routeOf (d : Dev) (x : Nat) (e : RxEntry) : Route :=
  match d.deviceRoute x e.frame with
  | some r => r
  | none =>
    let t := (d.busOf x).tableFor e.table
    match t.priority e.frame with
    | some n => .priority n
    | none => t.rule e.frame

/-- Hardware marks frames for device objects and priority entries, and they are taken first (R497). -/
def Dev.marked (d : Dev) (x : Nat) (e : RxEntry) : Bool :=
  (d.deviceRoute x e.frame).isSome || (((d.busOf x).tableFor e.table).priority e.frame).isSome

/-- Takes the next frame from the FIFO; the overflow is reported once the fill falls below 32 (R494, R497). -/
def Dev.takeFrame (x : Nat) (d : Dev) : Option (RxEntry × Dev) :=
  let b := d.busOf x
  let next := match takeFirst (fun e => d.marked x e) b.fifo with
    | some r => some r
    | none => match b.fifo with | [] => none | e :: es => some (e, es)
  match next with
  | none => none
  | some (e, rest) =>
    let b := { b with fifo := rest, oldTables := if rest = [] then [] else b.oldTables }
    if 0 < b.lost ∧ rest.length < 32 then
      some (e, (d.setBus x { b with lost := 0 }).raiseAt 176 1 0 x (u16 b.lost) b.lostAt)
    else some (e, d.setBus x b)

/-- A store into a buffer (R498): the update count passes an odd value and ends even. -/
def RxBuffer.store (r : RxBuffer) (e : RxEntry) : RxBuffer :=
  { entry := some (e.frame, e.stamp, e.inBusOff), newData := true, overrun := r.overrun || r.newData, updates := (r.updates + 2) % 65536 }

/-- The frame is stored into host receive object `obj` (R498, R500). -/
def Dev.storeObject (x obj : Nat) (e : RxEntry) (d : Dev) : Dev :=
  let b := d.busOf x
  let r := sget ({} : RxBuffer) obj b.buffers
  let counts := if r.newData then { b.counts with overruns := satU 16 (b.counts.overruns + 1) } else b.counts
  let d := d.setBus x { b with buffers := sset {} obj (r.store e) b.buffers, counts := counts }
  if bitAt b.table.events (obj - 16) ∧ ¬ r.newData then
    d.raise 177 0 x (u8 obj ++ u32 e.frame.ident ++ u16 e.frame.length ++ u64 e.stamp)
  else d

/-- The frame is stored into priority buffer `n`, and its event raised (R498, R500). -/
def Dev.storePriority (x n : Nat) (e : RxEntry) (d : Dev) : Dev :=
  let b := d.busOf x
  let r := sget ({} : RxBuffer) n b.prioBuffers
  let counts := if r.newData then { b.counts with overruns := satU 16 (b.counts.overruns + 1) } else b.counts
  let d := d.setBus x { b with prioBuffers := sset {} n (r.store e) b.prioBuffers, counts := counts }
  d.raise 178 0 x (u8 n ++ u8 e.frame.format ++ u32 e.frame.ident ++ u16 e.frame.length ++ u64 e.stamp ++ e.frame.data.take 64)

/-- A frame that no device object takes goes to its buffer or is discarded. -/
def Dev.routeHost (x : Nat) (r : Route) (e : RxEntry) (d : Dev) : Dev :=
  let b := d.busOf x
  match r with
  | .priority n => d.storePriority x n e
  | .object n => if bitAt b.table.dirs (n - 16) then d else d.storeObject x n e
  | .unmatched => d.setBus x { b with counts := { b.counts with unmatched := satU 16 (b.counts.unmatched + 1) } }
  | _ => d

/-! ### Transmitting (R501 to R508) -/

/-- The arbitration value of a frame: the lower wins (ISO 11898-1 through R501). -/
def arbitration (f : Frame) : Nat :=
  let remote := if f.format = 1 then 1 else 0
  if f.ident < 2 ^ 31 then (f.ident % 2048) * 2 ^ 21 + remote * 2 ^ 20
  else
    let id := f.ident % 2 ^ 29
    (id / 2 ^ 18) * 2 ^ 21 + 2 ^ 20 + 2 ^ 19 + (id % 2 ^ 18) * 2 + remote

/-- The packet bytes that one segment carries (R109). -/
def Dev.segRoom (d : Dev) : Nat := d.host.chan.segSize - 2

/-- The next valid CAN FD data length. -/
def fdLength (n : Nat) : Nat := ([0, 1, 2, 3, 4, 5, 6, 7, 8, 12, 16, 20, 24, 32, 48, 64].find? fun l => n ≤ l).getD 64

/-- The segment that object 1 would send next (R108, R109). -/
def Dev.hostSegment (d : Dev) : Option Frame :=
  match d.host.out with
  | [] => none
  | p :: _ =>
    let room := d.segRoom
    if room = 0 then none
    else
      let n := d.host.outPos / room
      let part := (p.bytes.drop d.host.outPos).take room
      let last := p.bytes.length ≤ d.host.outPos + part.length
      let head := u8 (n % 64 + 64 * bit last + 128 * bit (n = 0)) ++ u8 d.host.txSeq
      let raw := head ++ part
      let data := if d.host.chan.format = 1 then raw else raw ++ List.replicate (fdLength raw.length - raw.length) 0#8
      some { ident := d.host.chan.idOut, format := if d.host.chan.format = 1 then 4 else 3, length := data.length, data := data }

/-- The objects of a controller with a frame pending: number, frame, and whether it is the drag telegram. -/
def Dev.pendingFrames (d : Dev) (x : Nat) : List (Nat × Frame × Bool) :=
  let b := d.busOf x
  let host := if d.isHostBus x then match d.hostSegment with | some f => [(1, f, false)] | none => [] else []
  let dev := b.device.map fun e => (e.object, e.frame, 4 ≤ e.object && d.par (P.connField (e.object - 4) 0) = 2)
  host ++ dev ++ b.sends.map fun s => (s.object, s.frame, false)

/-- The frame an attempt takes: the drag telegram, then the lowest arbitration value, then the lowest object (R501). -/
def chooseFrame : List (Nat × Frame × Bool) → Option (Nat × Frame × Bool)
  | [] => none
  | e :: es =>
    match chooseFrame es with
    | none => some e
    | some m =>
      let better : Bool :=
        if e.2.2 ≠ m.2.2 then e.2.2
        else if arbitration e.2.1 ≠ arbitration m.2.1 then arbitration e.2.1 < arbitration m.2.1
        else e.1 ≤ m.1
      some (if better then e else m)

/-- An attempt is committed (R501). Out of bus idle its start-of-frame begins at once; in intermission, at the end of the bit. -/
def Dev.commitAttempt (x : Nat) (idle : Bool) (d : Dev) : Dev :=
  let b := d.busOf x
  if ¬ b.running ∨ b.listen ∨ b.committed.isSome then d
  else match chooseFrame (d.pendingFrames x) with
    | none => d
    | some (obj, _, _) =>
      let rest := d.parN (P.busField x 1) * d.parN (P.busField x 3) * 5 / 2
      d.setBus x { b with committed := some obj, sofAt := if idle then d.now else d.now + rest }

/-- Of the frames of one object only the newest. -/
def newestFrame (obj : Nat) (fs : List DeviceFrame) : List DeviceFrame :=
  let own := fs.filter fun f : DeviceFrame => f.object = obj
  fs.filter (fun f : DeviceFrame => f.object ≠ obj) ++ own.drop (own.length - 1)

/-- A frame of an object is pending behind its committed one, which stands first. -/
def Bus.newerPending (b : Bus) (obj : Nat) : Bool := decide (2 ≤ (b.device.filter fun f : DeviceFrame => f.object = obj).length)

/-- A frame of the device is handed to its object; a newer one replaces one that is not committed, and waits behind one that is (R527, R535). The drag telegram takes the place of a committed frame whose start-of-frame has not begun (R502). -/
def Dev.handOver (x : Nat) (e : DeviceFrame) (drag : Bool) (d : Dev) : Dev :=
  let b := d.busOf x
  if ¬ b.running then d
  else
    let own := if b.committed = some e.object then (b.device.filter fun f : DeviceFrame => f.object = e.object).take 1 else []
    let b := { b with device := b.device.filter (fun f : DeviceFrame => f.object ≠ e.object) ++ own ++ [e] }
    match b.committed with
    | some obj =>
      if drag ∧ obj ≠ e.object ∧ d.now < b.sofAt then
        let d := d.setBus x { b with committed := some e.object, device := newestFrame obj b.device }
        match b.sendOf obj with
        | some s => match s.cancel with
          | some c => d.cancelSend x s c 0x1D
          | none => d
        | none => d
      else d.setBus x b
    | none => d.setBus x b

/-- The pending device frames of an object changed. -/
def Bus.modDevice (b : Bus) (obj : Nat) (f : DeviceFrame → DeviceFrame) : Bus :=
  { b with device := b.device.map fun e => if e.object = obj then f e else e }

/-- A collision error counts for the object; at 2 it is reported once per frame (R507). -/
def Dev.collide (x obj ident count : Nat) (told : Bool) (d : Dev) : Dev :=
  if 2 ≤ count ∧ ¬ told then
    let b := d.busOf x
    let d := d.setBus x { b with counts := { b.counts with collisions := satU 16 (b.counts.collisions + 1) } }
    d.raise 179 2 x (u8 obj ++ u32 ident)
  else d

/-- An attempt of host object `s` ends (R503, R506 to R508). -/
def Dev.endHostAttempt (x : Nat) (s : SendObject) (r : AttemptIn) (d : Dev) : Dev :=
  if r.result = 0 then d.endSend x s 0 0 (d.chron.time - r.age)
  else
    let count := if r.result = 1 then s.collisions else if r.collision then s.collisions + 1 else 0
    let s' := { s with
      attempts := if r.result = 2 then s.attempts + 1 else s.attempts
      collisions := count, collided := s.collided || decide (2 ≤ count) }
    let b := d.busOf x
    let d := d.setBus x { b with sends := b.sends.map fun e => if e.object = s.object then s' else e }
    let d := d.collide x s.object s.frame.ident count s.collided
    match s'.cancel with
    | some c => d.cancelSend x s' c 0x1D
    | none =>
      let limit := d.parN (P.busField x 0x10)
      if r.result = 2 ∧ limit ≠ 0 ∧ limit ≤ s'.attempts then d.endSend x s' 1 1 d.chron.time else d

/-- An attempt of a device object ends: a frame that was sent is gone, and so is one that a newer frame waits behind; any other stays pending (R527, R535). -/
def Dev.endDeviceAttempt (x obj : Nat) (r : AttemptIn) (d : Dev) : Dev :=
  let b := d.busOf x
  let newer := b.newerPending obj
  match b.device.find? fun e => e.object = obj with
  | none => d
  | some e =>
    if r.result = 0 then
      d.setBus x { b with device := if newer then newestFrame obj b.device else b.device.filter fun e => e.object ≠ obj }
    else
      let count := if r.result = 1 then e.collisions else if r.collision then e.collisions + 1 else 0
      let d := d.setBus x (if newer then { b with device := newestFrame obj b.device }
        else b.modDevice obj fun e => { e with collisions := count, collided := e.collided || decide (2 ≤ count) })
      d.collide x obj e.frame.ident count e.collided

/-- An attempt of object 1 ends: its packet's next segment follows one that was sent, and the packet has left with its last (R108). -/
def Dev.endSegment (x : Nat) (r : AttemptIn) (d : Dev) : Dev :=
  let b := d.busOf x
  if r.result = 0 then
    let pos := d.host.outPos + d.segRoom
    let d := d.setBus x { b with hostCollisions := 0, hostCollided := false }
    let d := { d with host := { d.host with outPos := pos } }
    match d.host.out with
    | p :: _ => if p.bytes.length ≤ pos then d.packetLeft else d
    | [] => d
  else
    let count := if r.result = 1 then b.hostCollisions else if r.collision then b.hostCollisions + 1 else 0
    let d := d.setBus x { b with hostCollisions := count, hostCollided := b.hostCollided || decide (2 ≤ count) }
    d.collide x 1 d.host.chan.idOut count b.hostCollided

/-- The counters of a controller after an attempt (R509, ISO 11898-1): an error of a transmitter adds 8, a success takes 1; a missing acknowledgement adds nothing when error-passive. -/
def Bus.afterAttempt (b : Bus) (r : AttemptIn) : Bus :=
  if r.result = 0 then
    { b with txErr := b.txErr - 1, counts := { b.counts with sent := (b.counts.sent + 1) % 2 ^ 32 }, delay := r.delay, committed := none }
  else if r.result = 1 then { b with committed := none }
  else
    let b := { b with lastError := r.error, counts := b.counts.error r.error, committed := none }
    if r.error = 3 ∧ b.state = 3 then b else { b with txErr := b.txErr + 8 }

/-- The object whose attempt ends and the controller after it. -/
def Dev.endAttempt (x : Nat) (r : AttemptIn) (d : Dev) : Dev :=
  let b := d.busOf x
  match b.committed with
  | none => d
  | some obj =>
    let d := d.setBus x (b.afterAttempt r)
    let d := match b.sendOf obj with
      | some s => d.endHostAttempt x s r
      | none => if obj = 1 then d.endSegment x r else d.endDeviceAttempt x obj r
    d.busJudge x

/-! ### Modes, clock and timing (R489, R512 to R514, R520) -/

/-- The mode and listen setting that run follow the parameters; "bus mode raised for host" (R489). -/
def Dev.busApply (x : Nat) (d : Dev) : Dev :=
  let (m, raised) := d.busMode x
  let b := d.busOf x
  let d := d.setBus x { b with mode := m, raised := raised, listen := d.busListen x }
  if raised ∧ ¬ b.raised then d.raise 175 1 x (u8 (d.parN (P.busField x 0)) ++ u8 m) else d

/-- At step 7 of start-up the controller takes its parameters and table, and integrates with both counters at 0 (R514). -/
def Dev.busStart (x : Nat) (t : BusTable) (d : Dev) : Dev :=
  let d := (d.setBus x { table := t }).busApply x
  if (d.busOf x).mode = 0 then d else d.busState x 1

/-- A committed timing group is in force: no further attempt until the controller has re-initialised (R520). Mode 0 ends the pending frames (R504). -/
def Dev.busReconfigure (x : Nat) (d : Dev) : Dev :=
  let b := d.busOf x
  let d := d.busApply x
  let held := b.heldBusOff || b.state = 4 || b.state = 5
  let d := d.setBus x { d.busOf x with heldBusOff := held }
  let d := if (d.busOf x).mode = 0 then Dev.failSends x 5 (d.busOf x).sends d else d
  if b.state = 6 then d else d.busState x 7

/-- Integration begins, or ends at the state held: bus-off is left only by BUS_RECOVER or a reset (R512, R513). -/
def Dev.busIntegrate (x : Nat) (d : Dev) : Dev :=
  let b := d.busOf x
  if b.mode = 0 then (d.setBus x { b with heldBusOff := false }).busState x 0
  else if b.heldBusOff then (d.setBus x { b with heldBusOff := false }).busState x 4
  else d.busState x 1

/-- CANCLK is lost: both controllers stop (R513). -/
def Dev.clockLost (x : Nat) (d : Dev) : Dev :=
  let b := d.busOf x
  if b.state = 0 ∨ b.state = 6 then d
  else
    let d := d.setBus x { b with heldBusOff := b.heldBusOff || b.state = 4 || b.state = 5, committed := none, device := [] }
    let d := (d.busState x 6).resendHost x
    Dev.failSends x 4 b.sends d

/-- BUS_RECOVER ends (R512): result 0 after the count, 1 at its timeout. -/
def Dev.endRecover (x result : Nat) (d : Dev) : Dev :=
  let b := d.busOf x
  match b.recover with
  | none => d
  | some (slot, _) => (d.setBus x { b with recover := none }).done slot (u8 result)

/-! ### The bus table (R519) -/

/-- An entry as it stands on the wire. -/
def tableEntry (bs : List Byte) : TableEntry :=
  { action := fieldAt 0 1 bs, object := fieldAt 1 1 bs, formats := fieldAt 2 1 bs, ident := fieldAt 4 4 bs, mask := fieldAt 8 4 bs
    af := fieldAt 12 4 bs, afMask := fieldAt 16 4 bs }

/-- The encodings of an entry are defined: rules have actions 0 to 2, priority entries 0 and 1; reserved bits are 0, and so is the object where the entry names none. -/
def entryDefined (rule : Bool) (bs : List Byte) : Bool :=
  let e := tableEntry bs
  decide (e.action ≤ if rule then 2 else 1) && decide (e.formats < 16) && decide (fieldAt 3 1 bs = 0)
    && decide (bitsAt e.ident 30 29 = 0) && ((rule && decide (e.action = 1)) || decide (e.object = 0))

/-- A rule that accepts names one of the host objects 16 to 127 (R492). -/
def entryObject (rule : Bool) (bs : List Byte) : Bool :=
  let e := tableEntry bs
  !(rule && decide (e.action = 1)) || (decide (16 ≤ e.object) && decide (e.object ≤ 127))

/-- Entries put into a section from an index on. -/
def putEntries (first : Nat) : List (List Byte) → List (Nat × TableEntry) → List (Nat × TableEntry)
  | [], t => t
  | b :: bs, t => putEntries (first + 1) bs (sset {} first (tableEntry b) t)

/-- A byte list cut into pieces of 20. -/
def pieces20 : Nat → List Byte → List (List Byte)
  | 0, _ => []
  | n + 1, bs => bs.take 20 :: pieces20 n (bs.drop 20)

/-- The shadow, or a copy of the table in force. -/
def Bus.shadowTable (b : Bus) : BusTable := b.shadow.getD b.table

/-- The shadow may be applied: rules name receive objects, and no object with a frame pending changes direction. -/
def Bus.shadowValid (b : Bus) : Bool :=
  let t := b.shadowTable
  t.rules.all (fun (_, e) => e.action ≠ 1 || !bitAt t.dirs (e.object - 16))
    && b.sends.all fun s => bitAt t.dirs (s.object - 16) = bitAt b.table.dirs (s.object - 16)

/-- The shadow takes effect behind the frames already in the FIFO; objects that change direction are emptied. -/
def Bus.applyShadow (b : Bus) : Bus :=
  let t := b.shadowTable
  let changed (o : Nat) : Bool := bitAt t.dirs (o - 16) ≠ bitAt b.table.dirs (o - 16)
  { b with
    table := t, shadow := none, tableNo := b.tableNo + 1
    oldTables := if b.fifo = [] then [] else b.oldTables ++ [(b.tableNo, b.table)]
    buffers := b.buffers.filter fun e => !changed e.1 }

/-! ### Queries (R517, R518) -/

/-- The reply data of BUS_STATUS. -/
def Dev.busStatus (x : Nat) (d : Dev) : List Byte :=
  let b := d.busOf x
  let c := b.counts
  u8 x ++ u8 b.mode ++ u8 b.state ++ u8 (satU 8 b.txErr) ++ u8 (satU 8 b.rxErr)
    ++ u8 (bitsOf [b.warning, b.listen, d.isHostBus x, b.raised, d.par (P.busField x 9) = 1]) ++ u8 b.lastError
    ++ u32 c.received ++ u32 c.sent ++ u16 b.fifo.length ++ u16 c.most ++ u16 c.overflows ++ u16 c.unmatched ++ u16 c.overruns
    ++ u16 c.bitErrors ++ u16 c.stuff ++ u16 c.crc ++ u16 c.form ++ u16 c.ack ++ u16 c.collisions ++ u16 c.busOffs
    ++ u16 c.exceptions ++ u16 b.sends.length ++ u16 b.delay ++ u16 0 ++ u64 b.changed

/-- BUS_READ (R499, R516, R518): status, reply data and the device with new-data and overrun cleared by a consumed copy. A step is whole, so the first copy is consistent. -/
def Dev.busRead (x kind index consume off count : Nat) (d : Dev) : Nat × List Byte × Dev :=
  let b := d.busOf x
  if 1 < x then (0x08, u8 0, d)
  else if 1 < kind then (0x08, u8 1, d)
  else if (kind = 0 ∧ (index < 16 ∨ 127 < index)) ∨ (kind = 1 ∧ 7 < index) then (0x08, u8 2, d)
  else if 960 < count then (0x08, u8 5, d)
  else if kind = 0 ∧ bitAt b.table.dirs (index - 16) then (0x0F, u8 1, d)
  else
    let table := if kind = 0 then b.buffers else b.prioBuffers
    let r := sget ({} : RxBuffer) index table
    let (f, t, off?) := r.entry.getD ({}, 0, false)
    if f.data.length < off + count then (0x08, u8 4, d)
    else
      let consumed := consume = 1
      let r' := if consumed then { r with newData := false, overrun := false } else r
      let table := sset {} index r' table
      let d := d.setBus x (if kind = 0 then { b with buffers := table } else { b with prioBuffers := table })
      let flags := bitsOf [r.newData, r.newData, r.overrun, true, r.entry.isNone]
      (0, u8 x ++ u8 kind ++ u8 index ++ u8 flags ++ u8 1 ++ u16 r.updates ++ u16 r.updates ++ u8 f.format
        ++ u8 (bitsOf [f.esi, off?, f.sec]) ++ u32 f.ident ++ u8 f.sdt ++ u8 f.vcid ++ u16 f.length ++ u32 f.af ++ u64 t
        ++ (f.data.drop off).take count, d)

end Sys2Proof.Machine
end

