-- ==== Sys2Proof/Machine/ChronOps.lean ====
section
/-! DEFINITION. The Chronometer, the time master, and the safety layer's connections and telegrams (chapter 15). -/

namespace Sys2Proof.Machine

/-! ### Time and its state (R522 to R524) -/

/-- The Chronometer enters a state of R523; "time invalid" follows the validity of the time. -/
def Dev.chronState (new : Nat) (d : Dev) : Dev :=
  let old := d.chron.state
  let wasValid := d.timeValid
  let d := { d with chron := { d.chron with state := new, heldAt := if new = 4 then d.now else d.chron.heldAt } }
  if wasValid ∧ ¬ d.timeValid then d.onset 185 1 0xFF (u8 old)
  else if d.timeValid then d.clearing 185 0xFF (u8 old)
  else d

/-- The time steps by a signed number of ticks (R522). Own stamps kept for the discipline move with it (DEDUCED). -/
def Dev.chronStep (e : Int) (d : Dev) : Dev :=
  let move (t : Nat) : Nat := ((t : Int) + e).toNat % 2 ^ 64
  let t := d.chron
  let t := { t with
    time := move t.time, steps := satU 16 (t.steps + 1), lastStep := move t.time
    prev := t.prev.map fun (r, n, s) => (r, n, move s)
    prevStamp := t.prevStamp.map move
    discontinuity := if t.state = 5 then 3 else t.discontinuity }
  ({ d with chron := t }).raise 183 1 0xFF (i64 e)

/-- CHRON_REF_PERIOD in ticks. -/
def Dev.refPeriod (d : Dev) : Nat := ms (d.parN P.CHRON_REF_PERIOD)

/-- The master followed or held changes (R528). -/
def Dev.chronMaster (rank : Option Nat) (d : Dev) : Dev :=
  if d.chron.rank = rank then d
  else
    let old := d.chron.rank.getD 0xFF
    let d := { d with chron := { d.chron with rank := rank, masterChanges := satU 16 (d.chron.masterChanges + 1) } }
    d.raise 184 1 0xFF (u8 old ++ u8 (rank.getD 0xFF))

/-! ### Reference messages (R525 to R531) -/

/-- The reference message that the master would send now (R526). -/
def Dev.referenceData (d : Dev) : List Byte :=
  let t := d.chron
  u8 (d.parN P.CHRON_RANK) ++ u8 (bitsOf [d.timeValid, t.prevStamp.isSome, 0 < t.discontinuity]) ++ u16 (t.sent % 65536) ++ u64 (t.prevStamp.getD 0)

/-- The master sends a reference message; its successor carries no stamp unless this one succeeds (R527). -/
def Dev.sendReference (d : Dev) : Dev :=
  let f : Frame := { ident := d.parN P.CHRON_REF_ID + d.parN P.CHRON_RANK, format := 2, length := 12, data := d.referenceData }
  let e : DeviceFrame := { object := 3, frame := f, built := d.chron.time }
  let t := d.chron
  let d := { d with chron := { t with sent := (t.sent + 1) % 65536, prevStamp := none, discontinuity := t.discontinuity - 1, sentAt := d.now } }
  d.handOver (d.parN P.CHRON_REF_BUS) e false

/-- The time after which a potential master takes over (R528). -/
def Dev.masterWait (d : Dev) : Nat := 3 * d.refPeriod + d.parN P.CHRON_RANK * d.refPeriod / 8

/-- The device becomes master and sends at once (R528). -/
def Dev.becomeMaster (d : Dev) : Dev :=
  let d := d.chronMaster (some (d.parN P.CHRON_RANK))
  let d := { d with chron := { d.chron with prevStamp := none, c := 0, trim := 0, slew := 0 } }
  (d.chronState 5).sendReference

/-- The device stops being master; its pending message that is not committed is withdrawn (R528). -/
def Dev.yieldMaster (state : Nat) (d : Dev) : Dev :=
  let x := d.parN P.CHRON_REF_BUS
  let b := d.busOf x
  let d := if b.committed = some 3 then d else d.setBus x { b with device := b.device.filter fun e => e.object ≠ 3 }
  ({ d with chron := { d.chron with good := 0, usable := d.now, refSeen := d.now } }).chronState state

/-- A slave disciplines its time by a usable message with offset e (R529 to R531). -/
def Dev.discipline (e : Int) (discontinuity : Bool) (d : Dev) : Dev :=
  let limit : Int := us (d.parN P.CHRON_STEP_LIMIT)
  let d := { d with chron := { d.chron with offset := satI 32 e, usable := d.now } }
  if d.chron.state = 0 ∨ discontinuity ∨ limit < e.natAbs then
    let d := d.chronStep e
    ({ d with chron := { d.chron with trim := 0, slew := 0, c := 0, good := 0 } }).chronState 2
  else
    let p : Int := d.refPeriod
    let t := d.chron
    let trim := clampI (-200000) 200000 (t.trim + truncDiv (e * 1000000000) (8 * p))
    let slew := clampI (-300000) 300000 (truncDiv (e * 1000000000) p)
    let good := if e.natAbs ≤ 1000 then t.good + 1 else 0
    let d := { d with chron := { t with trim := trim, slew := slew, c := trim + slew, good := good } }
    if t.state = 1 then d.chronState 2
    else if t.state = 4 then d.chronState 3
    else if t.state = 2 ∧ 3 ≤ good then d.chronState 3
    else d

/-- A reference message arrives, stamped `s` on the device's own time (R525 to R531). -/
def Dev.reference (data : List Byte) (s : Nat) (d : Dev) : Dev :=
  if d.par P.CHRON_ROLE = 0 ∨ data.length ≠ 12 then d
  else
    let rank := fieldAt 0 1 data
    let flags := fieldAt 1 1 data
    let count := fieldAt 2 2 data
    let m := fieldAt 4 8 data
    let valid := bitAt flags 0
    let d := { d with chron := { d.chron with references := satU 32 (d.chron.references + 1), lastRef := s, heard := some d.now } }
    if d.chron.state = 5 ∧ ¬ (rank < d.parN P.CHRON_RANK ∧ valid) then d
    else
      let d := if d.chron.state = 5 then d.yieldMaster 1 else d
      let d := if valid then ({ d with chron := { d.chron with refSeen := d.now } }).chronMaster (some rank) else d
      let usable := match d.chron.prev with
        | some (r, n, _) => valid && bitAt flags 1 && r = rank && (n + 1) % 65536 = count
        | none => false
      let own := match d.chron.prev with | some (_, _, t) => t | none => 0
      let d := { d with chron := { d.chron with prev := some (rank, count, s) } }
      if usable then d.discipline ((m : Int) - own) (bitAt flags 2) else d

/-- As master, bus-off or loss of the clock makes the device a slave in holdover, which follows no master (R528). -/
def Dev.watchMasterBus (d : Dev) : Dev :=
  let s := (d.busOf (d.parN P.CHRON_REF_BUS)).state
  if d.chron.state = 5 ∧ (s = 4 ∨ s = 6) then (d.yieldMaster 4).chronMaster none else d

/-! ### Telegrams (R532 to R545) -/

/-- The kind of a connection (R532). -/
def Dev.connKind (d : Dev) (c : Nat) : Nat := d.parN (P.connField c 0)

/-- The connection of a kind, if one is commissioned. -/
def Dev.connOf (d : Dev) (kind : Nat) : Option Nat := (List.range 12).find? fun c => d.connKind c = kind

/-- A connection's state. -/
def Dev.conn (d : Dev) (c : Nat) : Conn := d.chron.conns.getD c {}

/-- A connection changed. -/
def Dev.modConn (c : Nat) (f : Conn → Conn) (d : Dev) : Dev := { d with chron := { d.chron with conns := modAt f c d.chron.conns } }

/-- Payload length of a kind (R532). -/
def payloadLength (kind : Nat) : Nat := if kind = 2 ∨ kind = 3 then 8 else 16

/-- The check value of R534: CRC-32 of polynomial 0xF4ACFB13, reflected, seeded with the identity. -/
def telegramCheck (identity : Nat) (bs : List Byte) : Nat :=
  let start := BitVec.ofNat 32 identity ^^^ 0xFFFFFFFF#32
  let run := bs.foldl (fun c b => iter (crcBitR 0xC8DF352F#32) 8 (c ^^^ b.setWidth 32)) start
  (run ^^^ 0xFFFFFFFF#32).toNat

/-- Binnacle's leaf speed in µm/s, opening positive: one edge length per last interval, 0 once no edge has arrived for 500 ms (DEDUCED). -/
def Dev.binSpeed (d : Dev) : Int :=
  match d.bin.interval with
  | none => 0
  | some t =>
    if t = 0 ∨ ms 500 ≤ d.now - d.bin.lastEdge then 0
    else
      let v := roundDiv ((d.parN P.BIN_UM_PER_EDGE * 100000000 : Nat) : Int) t
      if d.bin.lastOpening then v else -v

/-- Payload bits of offset 0 of the doorway telegram (R541). -/
def Dev.doorwayBits (d : Dev) : Nat :=
  bitsOf [d.bin.out0.energised, d.bin.out1.energised, d.bin.drag, d.bin.reading = 1 || d.bin.reading = 2, d.bin.permit,
    d.bin.isSealed, d.bin.classA]

/-- The payload of a kind that the device sends (R541, R542, R544). -/
def Dev.payloadOf (d : Dev) (kind : Nat) : List Byte :=
  if kind = 1 then
    u8 d.doorwayBits ++ u8 d.bin.report.door ++ u8 d.bin.report.step ++ u8 (d.bin.withdrawals % 256) ++ u8 d.bin.withdrawCause
      ++ u8 d.bin.report.leafMotion ++ u16 0 ++ i32 (satI 32 d.binSpeed) ++ u32 0
  else if kind = 2 then
    u8 (bit d.bin.drag) ++ u8 (bitsOf [d.bin.byPinch, d.bin.byDirection]) ++ u16 (d.bin.dragOnsets % 65536) ++ u32 0
  else
    let start := match d.door.order with | some o => o.start | none => 0
    u64 start ++ u8 d.leafMotion ++ u8 d.door.state ++ u16 0 ++ i32 (satI 32 d.leafPos)

/-- The data field of a telegram (R533, R534). -/
def telegramBytes (identity seq kind time : Nat) (payload : List Byte) : List Byte :=
  let b := u32 identity ++ u16 seq ++ u8 kind ++ u8 payload.length ++ u32 (time / 100000) ++ payload
  b ++ u32 (telegramCheck identity b)

/-- A telegram of a send connection is built and handed to its object (R535, R536). -/
def Dev.sendTelegram (c : Nat) (d : Dev) : Dev :=
  let kind := d.connKind c
  if ¬ d.ready ∨ ¬ (kind = 1 ∨ kind = 2 ∨ kind = 5) then d
  else
    let seq := (d.conn c).next
    let data := telegramBytes (d.parN (P.connField c 3)) seq kind d.chron.time (d.payloadOf kind)
    let f : Frame := { ident := d.parN (P.connField c 2), format := connFormat (d.parN (P.connField c 4)), length := data.length, data := data }
    let d := d.modConn c fun k => { k with next := (seq + 1) % 65536, sent := seq, sinceBuilt := 0, builtAt := d.now }
    d.handOver (d.parN (P.connField c 1)) { object := 4 + c, frame := f, built := d.chron.time } (kind = 2)

/-- The telegrams of a kind are built at once. -/
def Dev.sendKind (kind : Nat) (d : Dev) : Dev := match d.connOf kind with
  | some c => d.sendTelegram c
  | none => d

/-- The reserved fields of a received payload are 0 (R543, R544). -/
def reservedClear (kind : Nat) (payload : List Byte) : Bool :=
  if kind = 3 then decide (bitsAt (fieldAt 4 1 payload) 7 3 = 0) && decide (fieldAt 5 3 payload = 0)
  else decide (fieldAt 10 2 payload = 0)

/-- The vehicle view and the release bits after an accepted vehicle telegram (R543). -/
def Binnacle.takeVehicle (b : Binnacle) (payload : List Byte) : Binnacle :=
  let bits := fieldAt 4 1 payload
  { b with
    view := if bitAt bits 0 ∧ fieldAt 0 4 payload < 1000 then 0 else 1
    releaseLeft := bitAt bits 1, releaseRight := bitAt bits 2 }

/-- A telegram is accepted: only now is its payload used (R537, R538). -/
def Dev.acceptTelegram (c seq stamp : Nat) (payload : List Byte) (d : Dev) : Dev :=
  let was := (d.conn c).valid
  let d := d.modConn c fun k => { k with
    valid := true, expired := false, seq := seq, stamp := stamp, arrival := d.now, candidate := none, ticks := 0
    last := some d.now, payload := payload }
  let d := if d.connKind c = 3 then { d with bin := d.bin.takeVehicle payload } else d
  if was then d else (d.endStanding 173 c).raise 174 0 c []

/-- A receive connection resynchronises, with a frame as candidate or without (R538). -/
def Dev.resync (c : Nat) (candidate : Option (Nat × Nat)) (d : Dev) : Dev :=
  d.modConn c fun k => match candidate with
    | some (seq, stamp) => { k with valid := false, candidate := some seq, stamp := stamp, arrival := d.now }
    | none => { k with valid := false, candidate := none }

/-- Which count of a connection a failed check raises (R537). -/
inductive TelegramError where
  | check | identity | sequence | time
  deriving DecidableEq, Repr

/-- Counts a failed check (R484). -/
def Dev.telegramError (c : Nat) (e : TelegramError) (d : Dev) : Dev :=
  d.modConn c fun k => match e with
    | .check => { k with checkErrors := satU 16 (k.checkErrors + 1) }
    | .identity => { k with identErrors := satU 16 (k.identErrors + 1) }
    | .sequence => { k with seqErrors := satU 16 (k.seqErrors + 1) }
    | .time => { k with timeErrors := satU 16 (k.timeErrors + 1) }

/-- A frame of a receive connection reaches its layer: the checks of R537 in order, and the resynchronisation of R538. -/
def Dev.receiveTelegram (c : Nat) (f : FrameIn) (d : Dev) : Dev :=
  let kind := d.connKind c
  let k := d.conn c
  let data := f.data
  let identity := d.parN (P.connField c 3)
  let n := payloadLength kind
  if ¬ (kind = 3 ∨ kind = 4) ∨ ¬ d.live then d
  else if data.length < 4 ∨ telegramCheck identity (data.take (data.length - 4)) ≠ fieldAt (data.length - 4) 4 data then d.telegramError c .check
  else
    let payload := (data.drop 12).take n
    let seq := fieldAt 4 2 data
    let stamp := fieldAt 8 4 data
    if fieldAt 0 4 data ≠ identity ∨ fieldAt 6 1 data ≠ kind ∨ fieldAt 7 1 data ≠ n ∨ data.length ≠ 16 + n ∨ ¬ reservedClear kind payload then
      d.telegramError c .identity
    else
      let step := (seq + 65536 - k.seq) % 65536
      if k.last.isSome ∧ step = 0 then d.telegramError c .sequence
      else
        let mine := (d.chron.time - f.age) / 100000
        let a := toSigned 32 ((mine + 2 ^ 32 - stamp) % 2 ^ 32)
        let shared := d.chron.state = 3 || d.chron.state = 4 || d.chron.state = 5
        if shared ∧ ¬ (-2 ≤ a ∧ a ≤ d.parN (P.connField c 5)) then (d.telegramError c .time).resync c none
        else
          let r := d.now - k.arrival
          let gap := toSigned 32 ((stamp + 2 ^ 32 - k.stamp) % 2 ^ 32) * 100000
          let steady := decide (50 * (gap - (r : Int)).natAbs ≤ 50 * 100000 * d.parN (P.connField c 6) + r)
          if k.valid then
            if ¬ (step = 1 ∨ step = 2) then (d.telegramError c .sequence).resync c (some (seq, stamp))
            else if ¬ steady then (d.telegramError c .time).resync c none
            else d.acceptTelegram c seq stamp payload
          else match k.candidate with
            | some cs =>
              if (seq + 65536 - cs) % 65536 = 1 then
                if steady then d.acceptTelegram c seq stamp payload
                else (d.telegramError c .time).resync c (some (seq, stamp))
              else d.resync c (some (seq, stamp))
            | none => d.resync c (some (seq, stamp))

/-- The watchdog of a connection expires: 30 safety ticks after its last acceptance, or 30 ms of Chronometer time for kind 4 (R539). DEDUCED (log entry 66): it also runs on while a connection that was valid resynchronises after an error, since R458 and R467 hold the view to the last telegram that passed. -/
def Dev.watchdogDue (d : Dev) (c : Nat) : Bool :=
  let k := d.conn c
  let kind := d.connKind c
  (kind = 3 || kind = 4) && (k.valid || (k.last.isSome && !k.expired))
    && (if kind = 4 then ms 30 ≤ d.now - k.last.getD d.now else 30 ≤ k.ticks)

/-- The connection resynchronises at the expiry; without the vehicle telegram the view is Unknown (R458, R539). -/
def Dev.expireConn (c : Nat) (d : Dev) : Dev :=
  let k := d.conn c
  let age := msOf (d.now - k.last.getD k.arrival)
  let d := d.modConn c fun k => { k with valid := false, expired := true, candidate := none, expiries := satU 16 (k.expiries + 1) }
  let d := if d.connKind c = 3 then { d with bin := { d.bin with view := 2, releaseLeft := false, releaseRight := false } } else d
  d.onset 173 2 c (u32 (satU 32 age))
where
  msOf (t : Nat) : Nat := t / 100000

/-! ### Queries and orders (R484, R546, R547) -/

/-- The reply data of CHRON_READ. -/
def Dev.chronRead (d : Dev) : List Byte :=
  let t := d.chron
  u8 t.state ++ u8 (d.parN P.CHRON_ROLE) ++ u8 (t.rank.getD 0xFF) ++ u64 t.time ++ i32 t.offset ++ i32 t.c ++ u32 t.references
    ++ u16 t.steps ++ u16 t.masterChanges ++ u64 t.lastRef ++ u64 t.lastStep ++ u8 (bit t.keepValid) ++ leBytes 3 0

/-- The device is a slave of a master heard within the last three periods (R546). -/
def Dev.slaved (d : Dev) : Bool :=
  d.par P.CHRON_ROLE ≠ 0 && d.chron.state ≠ 5 && (match d.chron.heard with | some t => d.now - t < 3 * d.refPeriod | none => false)

/-- CHRON_SET: the time steps, and the state follows the role (R523, R546). -/
def Dev.chronSet (time : Nat) (d : Dev) : Dev :=
  let d := d.chronStep ((time : Int) - d.chron.time)
  if d.par P.CHRON_ROLE = 2 ∧ d.chron.state = 5 then d
  else ({ d with chron := { d.chron with trim := 0, slew := 0, c := 0, good := 0 } }).chronState 1

/-- One connection of TELEGRAM_STATUS (R484). -/
def Dev.connStatus (d : Dev) (c : Nat) : List Byte :=
  let kind := d.connKind c
  let k := d.conn c
  let use := if kind = 3 ∨ kind = 4 then 1 else if kind = 0 then 0 else 2
  let state := if k.valid then 1 else if k.expired then 2 else 0
  let age := match k.last with
    | some t => min 0xFFFFFFFE ((d.now - t) / 100000)
    | none => 0xFFFFFFFF
  u8 use ++ u8 state ++ u16 (if use = 2 then k.sent else k.seq) ++ u32 (d.parN (P.connField c 3)) ++ u16 k.checkErrors ++ u16 k.identErrors
    ++ u16 k.seqErrors ++ u16 k.timeErrors ++ u16 k.expiries ++ u16 0 ++ u32 (if use = 0 then 0xFFFFFFFF else age)

/-- The reply data of TELEGRAM_STATUS. -/
def Dev.telegramStatus (d : Dev) : List Byte := u8 12 ++ leBytes 6 0 ++ (List.range 12).flatMap fun c => d.connStatus c

/-- A successful attempt of a device object is noted by its owner: the stamp of a reference message, the age of a telegram (R484, R527). -/
def Dev.noteSent (obj stamp : Nat) (d : Dev) : Dev :=
  if obj = 3 then
    if (d.busOf (d.parN P.CHRON_REF_BUS)).device.any (·.object = 3) then d
    else { d with chron := { d.chron with prevStamp := some stamp } }
  else if 4 ≤ obj ∧ obj < 16 then d.modConn (obj - 4) fun k => { k with last := some d.now }
  else d

end Sys2Proof.Machine
end

