-- ==== Sys2Proof/Machine/LoadOps.lean ====
section
/-! DEFINITION. The load channels, lamp pairs, jury and sense pins (chapter 12). -/

namespace Sys2Proof.Machine

/-- A channel. -/
def Dev.ch (d : Dev) (n : Nat) : Channel := d.load.channels.getD n {}

/-- A channel changed. -/
def Dev.modCh (n : Nat) (f : Channel → Channel) (d : Dev) : Dev := { d with load := { d.load with channels := modAt f n d.load.channels } }

/-- LCH_n_KIND (R408). -/
def Dev.chKind (d : Dev) (n : Nat) : Nat := d.parN (P.loadField n 0)

/-- The pair and jury group in force on the smart-power die: pair enable, mask, map; a die never written uses an empty one (R93, R427). -/
def Dev.juryCopy (d : Dev) : Nat × Nat × Nat := d.nv.jury.getD (0, 0, 0)

/-- The pair of a channel that is enabled, and whether it is its primary (R420). -/
def Dev.pairOfCh (d : Dev) (n : Nat) : Option (Nat × Bool) :=
  if n < 8 ∨ 11 < n then none
  else
    let p := (n - 8) / 2
    if bitAt d.juryCopy.1 p then some (p, n % 2 = 0) else none

/-- Primary of a pair. -/
def primaryOf (p : Nat) : Nat := 8 + 2 * p

/-- Hardware current limit of R407 in mA. -/
def chLimit (n : Nat) : Nat := if n < 8 then 6000 else 1200

/-- Rated current of R407 in mA. -/
def chRated (n : Nat) : Nat := if n < 8 then 2500 else 500

/-- The channel is driven by the jury: row 2 of R409. -/
def Dev.juryDriven (d : Dev) (n : Nat) : Bool := d.supply.vhv && d.chKind n ≠ 0 && d.load.jury && bitAt d.juryCopy.2.1 n

/-- The JIN input that a channel follows (R426). -/
def Dev.jinOf (d : Dev) (n : Nat) : Nat := bitsAt d.juryCopy.2.2 (2 * n + 1) (2 * n)

/-- The lock channel outside Maintenance. -/
def Dev.isLock (d : Dev) (n : Nat) : Bool := d.parN P.DOOR_LOCK_CHANNEL = n && d.door.state ≠ 12

/-- A channel shed in Reef 1 or above, or by a hot smart-power die (R91, R581); never the lock channel. -/
def Dev.shedCh (d : Dev) (n : Nat) : Bool :=
  bitAt (d.parN P.SYS_REEF1_SHED) n && (1 ≤ d.supply.reef || d.supply.dieHot.getD 1 false) && d.parN P.DOOR_LOCK_CHANNEL ≠ n

/-- A channel that flashes with the closing warning (R153). -/
def Dev.flashCh (d : Dev) (n : Nat) : Bool := d.door.flashing && bitAt (d.parN P.DOOR_WARN_MASK) n && d.parN P.DOOR_LOCK_CHANNEL ≠ n

/-- Rows 2, 4 to 7 and 9 of R409, with the row that applies: what a pair's demand is made of. -/
def Dev.ownDemand (d : Dev) (n : Nat) : Nat × Bool :=
  if d.juryDriven n then (2, d.load.jin.getD (d.jinOf n) false)
  else if ¬ d.live then (4, false)
  else if d.isLock n then (5, d.door.lockOn)
  else if d.shedCh n then (6, false)
  else if d.flashCh n then (7, d.door.flashOn)
  else (9, (d.ch n).order)

/-- The demand of a channel and the row of R409 that decides it: the first that applies. Row 3 takes the primary's demand without row 8, which holds only the primary itself off; the primary of a pair whose secondary is lit stays off like one that has failed (R422). -/
def Dev.demandRow (d : Dev) (n : Nat) : Nat × Bool :=
  if ¬ d.supply.vhv ∨ d.chKind n = 0 then (1, false)
  else match d.pairOfCh n with
    | some (p, false) =>
      if ¬ d.juryDriven n ∧ ((d.ch (primaryOf p)).failed ∨ (d.ch n).lit) then (3, (d.ownDemand (primaryOf p)).2) else d.ownDemand n
    | some (_, true) =>
      let (r, v) := d.ownDemand n
      if r = 9 ∧ ((d.ch n).failed ∨ (d.ch (n + 1)).lit) then (8, false) else (r, v)
    | none => d.ownDemand n

/-- A protection state holds the channel off (R414). -/
def Channel.held (c : Channel) : Bool := c.latched || c.thermal || c.pauseEnd.isSome

/-- The demand is applied: a switch-on opens the channel's own inrush window (R411); a channel conducts only when its demand is on and nothing holds it off (R409). -/
def Dev.applyDemand (n : Nat) (d : Dev) : Dev :=
  let v := (d.demandRow n).2
  let c := d.ch n
  let on := v && !c.held
  let lit := match d.pairOfCh n with
    | some (p, false) => v && ((d.ch (primaryOf p)).failed || c.lit)
    | _ => false
  d.modCh n fun c =>
    let c := { c with lit := lit, demandOff := if c.demand ∧ ¬ v then d.now else c.demandOff, demand := v }
    if on ∧ ¬ c.on then
      { c with on := true, onSince := d.now, inrushEnd := d.now + ms (d.parN (P.loadField n 2)), below := 0, above := 0 }
    else if ¬ on ∧ c.on then { c with on := false, offAt := d.now, current := 0, below := 0, above := 0 }
    else c

/-- Applies the demands of some channels. -/
def Dev.applyDemands : List Nat → Dev → Dev
  | [], d => d
  | n :: ns, d => applyDemands ns (d.applyDemand n)

/-- The demand of a pair is on. -/
def Dev.pairDemand (d : Dev) (p : Nat) : Bool := d.supply.vhv && d.chKind (primaryOf p) ≠ 0 && (d.ownDemand (primaryOf p)).2

/-- A channel of the pair conducts with its current at or above its open level. -/
def Dev.pairShines (d : Dev) (p : Nat) : Bool :=
  [primaryOf p, primaryOf p + 1].any fun n => (d.ch n).on && d.parN (P.loadField n 5) ≤ (d.ch n).current

/-- "Lamp pair dark" (R421): the secondary too is dark or held off while the pair's demand is on. -/
def Dev.judgePair (p : Nat) (d : Dev) : Dev :=
  let s := d.ch (primaryOf p + 1)
  let dark := d.pairDemand p && (d.ch (primaryOf p)).failed && (s.darkOn || s.held)
  if dark then d.onset 132 2 p []
  else if d.host.stands 132 p ∧ (¬ d.pairDemand p ∨ d.pairShines p) then d.clearing 132 p []
  else d

/-- Off-state tests that an order still waits for are skipped on channels whose demand is on; the order ends when none is left (R429). -/
def Dev.judgeTests (d : Dev) : Dev :=
  match d.load.testOrder with
  | none => d
  | some (slot, mask, results) =>
    let skip (n : Nat) : Bool := bitAt mask n && (d.ch n).demand
    let results := (numbered results).map fun (n, r) => if skip n then 3 else r
    let mask := bitsOf ((List.range 12).map fun n => bitAt mask n && !skip n)
    if mask = 0 then
      ({ d with load := { d.load with testOrder := none } }).done slot (results.flatMap u8)
    else { d with load := { d.load with testOrder := some (slot, mask, results) } }

/-- A primary fails with its demand on: 1 dark, 2 protection (R421). -/
def Dev.failPrimary (n why : Nat) (d : Dev) : Dev :=
  match d.pairOfCh n with
  | some (p, true) =>
    if (d.ch n).failed ∨ ¬ d.pairDemand p then d
    else (d.modCh n fun c => { c with failed := true }).raise 131 1 p (u8 why)
  | _ => d

/-- A primary that its protection holds off fails as soon as its demand is on (R421). -/
def Dev.judgePrimary (p : Nat) (d : Dev) : Dev := if (d.ch (primaryOf p)).held then d.failPrimary (primaryOf p) 2 else d

/-- Every demand of R409 is evaluated and applied. The secondaries follow their primaries. -/
def Dev.refreshLoads (d : Dev) : Dev :=
  let d := Dev.applyDemands (List.range 12) ((d.judgePrimary 0).judgePrimary 1)
  ((d.judgePair 0).judgePair 1).judgeTests

/-- A channel trips by a cause of R411: 1 over-current, 2 short, 3 hard short, 4 thermal; the judgement windows of the causes apply. -/
def Dev.tripHolds (d : Dev) (n cause : Nat) : Bool :=
  let c := d.ch n
  c.on && (if cause = 3 then d.now < c.inrushEnd else if cause = 1 ∨ cause = 2 then c.inrushEnd ≤ d.now else cause = 4)

/-- Whether a trip counts as a try (R412): a thermal off only within 10 ms of the switch-on. -/
def countsAsTry (cause now onSince : Nat) : Bool := cause ≠ 4 || now - onSince ≤ ms 10

/-- The channel after a trip (R412, R413). -/
def Channel.trip (c : Channel) (cause now retryMax pause thermMode : Nat) : Channel :=
  let counted := countsAsTry cause now c.onSince
  let k := if counted then c.tries + 1 else c.tries
  let c := { c with
    on := false, offAt := now, current := 0, below := 0, above := 0
    tries := k, lastTrip := cause, thermal := c.thermal || decide (cause = 4) }
  if counted ∧ retryMax ≤ k ∨ cause = 4 ∧ thermMode = 1 then { c with latched := true }
  else if counted then { c with pauseEnd := some (now + ms (pause * 2 ^ (k - 1))) }
  else c

/-- A load trip with its events, its latch and its lamp pair. -/
def Dev.loadTrip (n cause current : Nat) (d : Dev) : Dev :=
  if ¬ d.tripHolds n cause then d
  else
    let d := d.modCh n fun c =>
      c.trip cause d.now (d.parN (P.loadField n 3)) (d.parN P.LCH_RETRY_PAUSE) (d.parN (P.loadField n 4))
    let c := d.ch n
    let d := d.raise 128 1 n (u8 cause ++ u8 c.tries ++ u16 (satU 16 current))
    let d := if c.latched then d.onset 129 2 n (u8 cause) else d
    (d.failPrimary n 2).refreshLoads

/-- A latch, the try count and any pause are cleared (R415). -/
def Dev.clearLatch (n : Nat) (d : Dev) : Dev :=
  let last := (d.ch n).lastTrip
  let d := d.modCh n fun c => { c with latched := false, tries := 0, pauseEnd := none }
  d.clearing 129 n (u8 last)

/-- LCH_UNLATCH of the channels of a mask (R415, R422): the channels from which a latch or a failed-primary mark was cleared. -/
def Dev.unlatch (mask : Nat) : List Nat → Dev → Nat × Dev
  | [], d => (0, d)
  | n :: ns, d =>
    if bitAt mask n then
      let cleared := (d.ch n).latched || (d.ch n).failed
      let d := (d.clearLatch n).modCh n fun c => { c with failed := false }
      let (m, d) := unlatch mask ns d
      (m + (if cleared then 2 ^ n else 0), d)
    else unlatch mask ns d

/-- The dark state of a channel as an event (R417, R418). -/
def Dev.darkEvent (n kind : Nat) (d : Dev) : Dev :=
  let c := d.ch n
  if c.darkOn ∨ c.darkOff then d.onset 130 2 n (u8 kind ++ u16 (satU 16 c.current))
  else d.clearing 130 n (u8 kind ++ u16 (satU 16 c.current))

/-- Ten samples decide the dark state of a conducting channel (R417); a primary that is dark still when it has returned to service fails again (R421). -/
def Dev.lampDark (n : Nat) (d : Dev) : Dev :=
  let c := d.ch n
  if c.on ∧ 10 ≤ c.below then
    let d := if c.darkOn then d else (d.modCh n fun c => { c with darkOn := true }).darkEvent n 1
    (d.failPrimary n 1).refreshLoads
  else if c.on ∧ 10 ≤ c.above ∧ c.darkOn then
    ((d.modCh n fun c => { c with darkOn := false }).darkEvent n 1).refreshLoads
  else d

/-- An off-state test with the pad voltage it measured (R418); ordered, or due by LCH_OFF_TEST_PERIOD after 50 ms off. -/
def Dev.offTest (n mv : Nat) (d : Dev) : Dev :=
  let c := d.ch n
  let ordered : Bool := match d.load.testOrder with | some (_, mask, _) => bitAt mask n | none => false
  let due := d.parN (P.loadField n 6) = 1 && ms 50 ≤ d.now - c.demandOff && ms (d.parN P.LCH_OFF_TEST_PERIOD) ≤ d.now - c.testAt
  if d.chKind n = 0 ∨ c.demand ∨ ¬ d.supply.vhv ∨ ¬ (ordered ∨ due) then d
  else
    let present := mv ≤ 5000
    let opens := if present then 0 else c.opens + 1
    let d := d.modCh n fun c => { c with
      test := if present then 1 else 2, testAt := d.now, opens := opens
      darkOff := !present && (c.darkOff || decide (2 ≤ opens))
      failed := c.failed && !(present && !c.latched) }
    let d := d.darkEvent n 2
    let d := match d.load.testOrder with
      | some (slot, mask, results) =>
        if bitAt mask n then
          { d with load := { d.load with testOrder := some (slot, mask - 2 ^ n, setAt n (if present then 1 else 2) results) } }
        else d
      | none => d
    d.refreshLoads

/-- The pad fell below −1.0 V in the 1 ms watch after a switch-off (R424): once per channel per reset. -/
def Dev.freewheelMissing (n : Nat) (mv : Int) (d : Dev) : Dev :=
  let c := d.ch n
  if c.freewheel ∨ c.on ∨ ¬ mv < -1000 ∨ d.now - c.offAt < ms 1 ∨ c.offAt = 0 then d
  else (d.modCh n fun c => { c with freewheel := true }).onset 133 2 n (i16 (satI 16 mv))

/-- What still holds on the smart-power die after a reset is raised anew (R577): latches, dark lamps and the jury. -/
def Dev.renewLoad (n : Nat) (d : Dev) : Dev :=
  let c := d.ch n
  let d := if c.latched then d.onset 129 2 n (u8 c.lastTrip) else d
  if c.darkOn ∨ c.darkOff then d.onset 130 2 n (u8 (if c.darkOn then 1 else 2) ++ u16 (satU 16 c.current)) else d

/-- The standing conditions of the loads at the end of a start-up. -/
def Dev.renewLoads (d : Dev) : Dev :=
  let d := (List.range 12).foldl (fun d n => d.renewLoad n) d
  if d.load.jury then d.onset 134 1 0xFF (u16 d.juryCopy.2.1 ++ u8 (bitsOf d.load.jin)) else d

/-! ### Jury (R425, R426) -/

/-- A filtered change of JURY. -/
def Dev.juryChange (level : Bool) (d : Dev) : Dev :=
  if d.load.jury = level ∨ ¬ d.supply.vhv then d
  else
    let d := { d with load := { d.load with
      jury := level, juryAt := d.chron.time, assertions := if level then d.load.assertions + 1 else d.load.assertions } }
    let d := if ¬ d.live then d
      else if level then d.onset 134 1 0xFF (u16 d.juryCopy.2.1 ++ u8 (bitsOf d.load.jin))
      else (d.endStanding 134 0xFF).raise 135 0 0xFF []
    d.refreshLoads

/-- Clears the latches of the channels that the jury drives from an input (R415). -/
def Dev.jinClear (i : Nat) : List Nat → Dev → Dev
  | [], d => d
  | n :: ns, d => jinClear i ns (if d.juryDriven n ∧ d.jinOf n = i then d.clearLatch n else d)

/-- A filtered change of a JIN input. After 1 s released, an assertion clears the latches of its channels. -/
def Dev.jinChange (i : Nat) (level : Bool) (d : Dev) : Dev :=
  if 3 < i ∨ d.load.jin.getD i false = level ∨ ¬ d.supply.vhv then d
  else
    let rested := sec 1 ≤ d.now - d.load.jinAt.getD i 0
    let d := { d with load := { d.load with jin := setAt i level d.load.jin, jinAt := setAt i d.now d.load.jinAt } }
    let d := if level ∧ rested then Dev.jinClear i (List.range 12) d else d
    d.refreshLoads

/-! ### Group derating and sense pins (R416, R423) -/

/-- The voltage of a sense pin in mV for a selection. -/
def Dev.snsMv (d : Dev) (sel : Nat) : Nat :=
  if ¬ d.load.snsOn then 2800
  else if sel < 12 then
    let c := d.ch sel
    if c.held || c.darkOn || c.darkOff || c.failed then 2800
    else if c.on then min 2200 (2000 * c.current / chRated sel) else 0
  else if sel = 12 then (if d.load.derating then 2800 else min 2200 (2000 * d.load.group / 16000))
  else 0

/-- One 100 µs sample of a channel: its current, its junction, and its count toward dark, from 500 µs after the switch-on (R417). -/
def Channel.sample (c : Channel) (current : Nat) (temp : Int) (now openLevel : Nat) : Channel :=
  let i := if c.on then current else 0
  let c := { c with current := i, temp := temp }
  if ¬ c.on ∨ openLevel = 0 ∨ now < c.onSince + us 500 then c
  else if i < openLevel then { c with below := c.below + 1, above := 0 }
  else { c with above := c.above + 1, below := 0 }

/-- Samples the channels from number `n` on. -/
def Dev.sampleChannels (currents : List Nat) (temps : List Int) : List Nat → Dev → Dev
  | [], d => d
  | n :: ns, d =>
    let d := d.modCh n fun c => c.sample (currents.getD n 0) (temps.getD n c.temp) d.now (d.parN (P.loadField n 5))
    sampleChannels currents temps ns d

/-- The 100 µs measurement: channel currents, group sum and sense pins. -/
def Dev.measureLoads (currents : List Nat) (temps : List Int) (d : Dev) : Dev :=
  let d := Dev.sampleChannels currents temps (List.range 12) d
  let sum := (d.load.channels.map (·.current)).sum
  let d := { d with load := { d.load with
    group := sum
    overSince := if 16000 < sum then some (d.load.overSince.getD d.now) else none
    underSince := if sum < 15000 then some (d.load.underSince.getD d.now) else none } }
  let d := { d with load := { d.load with snsA := d.snsMv (d.parN P.LCH_SNSA_SEL), snsB := d.snsMv (d.parN P.LCH_SNSB_SEL) } }
  if d.live then (d.judgePair 0).judgePair 1 else d

/-- The limit of one channel lowered by a tenth of its value under R407, never below its level; or raised back by a tenth. DEDUCED: "that limit" is the value under R407. -/
def Dev.moveLimit (lower : Bool) (n : Nat) (d : Dev) : Dev :=
  let level := d.parN (P.loadField n 1)
  d.modCh n fun c =>
    if lower then
      if level < c.current then { c with limit := max level (c.limit - chLimit n / 10) } else c
    else { c with limit := min (chLimit n) (c.limit + chLimit n / 10) }

/-- Moves the limits of some channels. -/
def Dev.moveLimits (lower : Bool) : List Nat → Dev → Dev
  | [], d => d
  | n :: ns, d => moveLimits lower ns (d.moveLimit lower n)

/-- The group derating of R416, judged every 100 µs on the smart-power die, whoever drives the channels (R60); the controller reports it while it runs. -/
def Dev.derate (d : Dev) : Dev :=
  let high : Bool := match d.load.overSince with | some t => ms 1 ≤ d.now - t | none => false
  let low := d.load.underSince.isSome && ms 1 ≤ d.now - d.load.limitAt
  let d := if high then Dev.moveLimits true (List.range 12) { d with load := { d.load with limitAt := d.now } }
    else if low then Dev.moveLimits false (List.range 12) { d with load := { d.load with limitAt := d.now } }
    else d
  let acting := (numbered d.load.channels).any fun (n, c) => c.limit < chLimit n
  let d := { d with load := { d.load with derating := acting } }
  if d.live then d.follow 136 1 0xFF acting (u16 (satU 16 d.load.group)) else d

/-! ### Orders and queries (R428 to R431) -/

/-- The first channel for which LCH_SET is refused (R429). -/
def Dev.lchRefused (channels states : Nat) (d : Dev) : Option Nat :=
  (List.range 12).find? fun n => bitAt channels n &&
    ((bitAt states n && d.chKind n = 0) || (match d.pairOfCh n with | some (_, false) => true | _ => false) || d.isLock n)

/-- LCH_SET stores the orders of the channels it names (R410). -/
def Dev.lchSet (channels states : Nat) (d : Dev) : Dev :=
  let chans := (numbered d.load.channels).map fun (n, c) => if bitAt channels n then { c with order := bitAt states n } else c
  ({ d with load := { d.load with channels := chans } }).refreshLoads

/-- State code of LCH_STATUS (R414, R430). -/
def Dev.chState (d : Dev) (n : Nat) : Nat :=
  let c := d.ch n
  if d.chKind n = 0 then 0
  else if c.latched then 6
  else if c.thermal then 5
  else if c.pauseEnd.isSome then 4
  else if c.failed then 7
  else if c.on then (if d.now < c.inrushEnd then 3 else 2)
  else 1

/-- The record of one channel in LCH_STATUS. -/
def Dev.chRecord (d : Dev) (n : Nat) : List Byte :=
  let c := d.ch n
  let row := (d.demandRow n).1
  let pause := match c.pauseEnd with | some t => satU 16 ((t - d.now) / 100000) | none => 0
  u8 (d.chState n)
    ++ u8 (bitsOf [c.demand, c.order, d.juryDriven n, row = 6, row = 7, c.limit < chLimit n, c.darkOn, c.darkOff])
    ++ u16 (satU 16 c.current) ++ i16 (satI 16 c.temp) ++ u8 (min 15 c.tries + 16 * c.lastTrip)
    ++ u8 (bitsOf [c.freewheel, c.lit]) ++ u16 pause ++ u8 c.test ++ u8 0

/-- The reply data of LCH_STATUS. -/
def Dev.lchStatus (d : Dev) : List Byte :=
  u8 (bitsOf ([d.load.jury] ++ d.load.jin ++ [d.load.derating])) ++ u16 (satU 16 d.load.group) ++ u32 0
    ++ (List.range 12).flatMap fun n => d.chRecord n

/-- The working set's pair and jury group equals the copy (R431). -/
def Dev.juryAgrees (d : Dev) : Bool :=
  d.juryCopy = (d.parN P.LCH_PAIR_ENABLE, d.parN P.LCH_JURY_MASK, d.parN P.LCH_JURY_MAP)

/-- The reply data of JURY_STATUS. -/
def Dev.juryStatus (d : Dev) : List Byte :=
  let (pair, mask, map) := d.juryCopy
  u8 (bitsOf ([d.load.jury] ++ d.load.jin)) ++ u16 mask ++ leBytes 3 map ++ u8 pair ++ u8 (bit d.juryAgrees) ++ u8 0
    ++ u16 (bitsOf ((List.range 12).map fun n => d.juryDriven n)) ++ u32 d.load.assertions ++ u64 d.load.juryAt

/-- LCH_OFF_TEST begins (R418, R429). -/
def Dev.lchOffTest (slot channels : Nat) (d : Dev) : Dev :=
  ({ d with load := { d.load with testOrder := some (slot, channels, List.replicate 12 0) } }).judgeTests

end Sys2Proof.Machine
end

