-- ==== Sys2Proof/Machine/LogOps.lean ====
section
/-! DEFINITION. The Log (chapter 16): cycle records, the casting ring, the draft and the trace store, and the casts and captures that other blocks cause. -/

namespace Sys2Proof.Machine

/-! ### State of the Log -/

/-- The Log is failed (R566), or its headers were unreadable (R85, step 6). -/
def Dev.logFailed (d : Dev) : Bool := match d.nv.header with
  | none => true
  | some h => h.failed

/-- The header as the device uses it. -/
def Dev.header (d : Dev) : LogHeader := d.nv.header.getD {}

/-- A header write (R551, R555). -/
def Dev.putHeader (h : LogHeader) (d : Dev) : Dev :=
  { d with nv := { d.nv with header := some { h with writes := (h.writes + 1) % 2 ^ 32 } } }

/-- A write to the memory die has failed its read-back twice (R566). -/
def Dev.failLog (array : Nat) (d : Dev) : Dev :=
  let order := match d.log.capture with | some c => c.order | none => none
  let d := { d with nv := { d.nv with header := (d.nv.header.map fun h : LogHeader => ({ h with failed := true } : LogHeader)) }, log := { d.log with capture := none } }
  (d.replyTo order 0x1B []).onset 187 2 0xFF (u8 array)

/-! ### The running record (R552, R553) -/

/-- Milliseconds of a number of ticks. -/
def msOf (t : Nat) : Nat := t / 100000

/-- A flag of offset 6 of R553 is set in the running record. -/
def Dev.recFlag (n : Nat) (d : Dev) : Dev :=
  let r := d.log.run.record
  if r.flags.testBit n then d
  else { d with log := { d.log with run := { d.log.run with record := { r with flags := r.flags + 2 ^ n } } } }

/-- The record as it stands, with its duration, dwell, end state and step state. -/
def Dev.recSnapshot (reason : Nat) (d : Dev) : Record :=
  let u := d.log.run
  let dwell := u.dwellTicks + (match u.dwellSince with | some t => d.now - t | none => 0)
  { u.record with
    endState := d.door.state
    stepState := d.door.step
    duration := satU 32 (msOf (d.now - u.began))
    dwell := satU 16 (msOf dwell / 100)
    endReason := reason }

/-- A quiet interval has to be cast (R552): a flag of R553 was set in it, a reef stage entered, a trace triggered, or LOG_QUIET_MAX reached. DEDUCED: "Time valid", which tells of its start, is no flag set in it. -/
def quietCast (u : Running) (reason : Nat) : Bool :=
  2 ≤ u.record.flags || 0 < u.record.reefEntries || u.traced || reason = 4

/-- The running record ends; a cycle, or a quiet interval that has to be cast, waits for its cast. -/
def Dev.endRecord (reason : Nat) (d : Dev) : Dev :=
  let u := d.log.run
  if u.active then
    let ended := if u.record.kind = 1 || quietCast u reason then d.log.run.ended ++ [d.recSnapshot reason] else u.ended
    { d with log := { d.log with run := { ended := ended } } }
  else d

/-- A record of a kind begins now. With a cycle, learning and capture may begin again (R91). -/
def Dev.beginRecord (kind : Nat) (d : Dev) : Dev :=
  let r : Record := { kind := kind, flags := bit d.timeValid, start := d.chron.time, lowVhv := satU 16 (d.supply.vhvMv / 10), motorTemp := d.drive.motorTemp }
  let s := d.supply
  { d with
    supply := if kind = 1 then { s with stoppedCycle := false } else s
    log := { d.log with run := { record := r, active := true, began := d.now, ended := d.log.run.ended } } }

/-- The extremes of the running record follow the present readings. -/
def Dev.recUpdate (d : Dev) : Dev :=
  let u := d.log.run
  if u.active then
    let r := u.record
    let force := if d.pilot.validity < 2 then satU 16 (roundDiv (d.pilot.force) 10).toNat else 0
    let r := { r with
      peakForce := max r.peakForce force
      motorTemp := max r.motorTemp d.drive.motorTemp
      lowVhv := min r.lowVhv (satU 16 (d.supply.vhvMv / 10))
      closings := max r.closings (min 15 d.door.closingCount)
      openings := max r.openings (min 15 d.door.openingCount) }
    { d with log := { d.log with run := { u with record := r } } }
  else d

/-- Reef stage entries and exits are written into the running record (R95). The layout of R553 has fields for entries alone: DESIGN CHOICE (log entry 64), an exit counts as one more entry, of the stage below, with flag 8. -/
def Dev.recReef (stage : Nat) (d : Dev) : Dev :=
  let d := d.recFlag 8
  let r := d.log.run.record
  let r := { r with reefStage := max r.reefStage stage, reefEntries := min 31 (r.reefEntries + 1) }
  { d with log := { d.log with run := { d.log.run with record := r } } }

/-- The first leaf demand of the record (R553, offsets 28 to 30). -/
def Dev.recDemand (sources cls : Nat) (d : Dev) : Dev :=
  let u := d.log.run
  if u.demandSeen then d
  else
    let pos := (roundDiv d.leafPos 100).toNat
    let r := { u.record with sources := sources, cls := cls, demandPos := satU 16 pos }
    { d with log := { d.log with run := { u with record := r, demandSeen := true } } }

/-- A Landfall withdrawal is written into the running record (R167). -/
def Dev.recWithdrawal (cause : Nat) (d : Dev) : Dev :=
  let d := d.recFlag 3
  { d with log := { d.log with run := { d.log.run with record := { d.log.run.record with withdrawCause := cause } } } }

/-- The leaves begin to move in Closing (R553, offset 22). -/
def Dev.recCloseBegins (d : Dev) : Dev :=
  if d.log.run.closeBegan.isNone then { d with log := { d.log with run := { d.log.run with closeBegan := some d.now } } } else d

/-- The Log follows a doorway state change (R552, R553, R558). -/
def Dev.recState (old new : Nat) (d : Dev) : Dev :=
  let quiet (s : Nat) : Bool := s = 0 || s = 10
  let d := if quiet old && !quiet new then (d.endRecord 0).beginRecord 1 else d
  let u := d.log.run
  let r := u.record
  let dwelling (s : Nat) : Bool := s = 4 || s = 5
  let u := if dwelling old && !dwelling new then
      { u with dwellTicks := u.dwellTicks + (match u.dwellSince with | some t => d.now - t | none => 0), dwellSince := none }
    else if dwelling new && !dwelling old then { u with dwellSince := some d.now } else u
  let u := if new = 3 && u.openBegan.isNone then { u with openBegan := some d.now } else u
  let u := if new = 6 then { u with closeBegan := none } else u
  let r := if new = 4 && !r.flags.testBit 1 then
      { r with openTime := (match u.openBegan with | some t => satU 16 (msOf (d.now - t)) | none => 0) } else r
  let r := if new = 1 then
      { r with closeTime := (match u.closeBegan with | some t => satU 16 (msOf (d.now - t)) | none => r.closeTime) } else r
  let r := if new = 13 then { r with faultCause := d.door.fault } else r
  let d := { d with log := { d.log with run := { u with record := r } } }
  let d := if new = 4 then d.recFlag 1 else d
  let d := if new = 9 then d.recFlag 2 else d
  let d := if new = 8 then d.recFlag 5 else d
  if !quiet old && quiet new then (d.endRecord 0).beginRecord 3 else d

/-! ### Records in the ring (R553 to R557) -/

/-- Offsets 0 to 43 of a record. -/
def recordBody (seq : Nat) (r : Record) : List Byte :=
  u32 seq ++ u8 r.kind ++ u8 r.endState ++ u16 r.flags ++ u64 r.start ++ u32 r.duration ++ u16 r.openTime ++ u16 r.closeTime
    ++ u16 r.peakForce ++ u8 (r.closings + 16 * r.openings) ++ u8 (r.reefStage + 8 * r.reefEntries) ++ u8 r.sources ++ u8 r.cls
    ++ u16 r.demandPos ++ i16 r.motorTemp ++ u16 r.lowVhv ++ u8 r.faultCause ++ u8 r.endReason ++ u16 r.pinned
    ++ u8 r.stepState ++ u8 r.withdrawCause ++ u16 r.dwell

/-- The check of R554, seeded with the epoch. -/
def recordCheck (epoch : Nat) (body : List Byte) : Nat :=
  (crc32cRun (0xFFFFFFFF#32 ^^^ BitVec.ofNat 32 epoch) body ^^^ 0xFFFFFFFF#32).toNat

/-- The 48 bytes of a record. -/
def recordBytes (epoch seq : Nat) (r : Record) : List Byte :=
  let b := recordBody seq r
  b ++ u32 (recordCheck epoch b)

/-- Offset of the slot of a sequence in the main array (R550, R553). -/
def ringAt (seq : Nat) : Nat := 48 * (seq % 262144)

/-- A slot holds a valid record of a sequence (R554). -/
def Dev.recordValid (seq : Nat) (d : Dev) : Bool :=
  let b := memLoad d.nv.main (ringAt seq) 48
  decide (fieldAt 44 4 b = recordCheck d.header.epoch (b.take 44)) && decide (fieldAt 0 4 b = seq)

/-- Steps 3 to 6 of R556 for one record; `steps` is the last one that the supply lasts for. -/
def Dev.castOne (r : Record) (steps : Nat) (ok : Bool) (d : Dev) : Dev :=
  let h := d.header
  let seq := h.next
  if steps < 3 then d
  else
    let d := d.putHeader { h with casting := true, castSeq := seq }
    if steps < 4 then d
    else if ¬ ok then d.failLog 0
    else
      let d := { d with nv := { d.nv with main := memStore d.nv.main (ringAt seq) (recordBytes h.epoch seq r) } }
      if steps < 6 then d
      else
        let next := (seq + 1) % 2 ^ 32
        let d := d.putHeader { d.header with casting := false, next := next, oldest := max d.header.oldest (next - 262144) }
        { d with log := { d.log with lastCast := d.chron.time } }

/-! ### Trace headers and slots (R561 to R565) -/

/-- A trace header, field by field of R561. -/
structure TraceHdr where
  seq : Nat := 0
  state : Nat := 0
  trigger : Nat := 0
  pinned : Bool := false
  byHost : Bool := false
  anomaly : Bool := false
  further : Nat := 0
  time : Nat := 0
  recSeq : Nat := 0
  period : Nat := 0
  samples : Nat := 0
  pre : Nat := 0
  source : Nat := 65535
  time0 : Nat := 0
  epoch : Nat := 0
  deriving DecidableEq, Repr

/-- Offset of a trace slot in the main array. -/
def traceAt (slot : Nat) : Nat := 0xC00000 + 8192 * slot

/-- The flag byte at offset 6. -/
def TraceHdr.flags (t : TraceHdr) : Nat := bitsOf [t.pinned, t.byHost, t.anomaly]

/-- The header's 64 bytes with the check of the samples written. -/
def TraceHdr.bytes (t : TraceHdr) (sampleCheck : Nat) : List Byte :=
  let b := u32 t.seq ++ u8 t.state ++ u8 t.trigger ++ u8 t.flags ++ u8 t.further ++ u64 t.time ++ u32 t.recSeq ++ u16 t.period
    ++ u16 t.samples ++ u16 t.pre ++ u16 t.source ++ u64 t.time0 ++ u16 t.epoch ++ List.replicate 18 0#8 ++ u32 sampleCheck
  b ++ u32 (crc32c b)

/-- Reads a trace header. -/
def traceHdr (m : List Host.Cell) (slot : Nat) : TraceHdr :=
  let b := memLoad m (traceAt slot) 64
  { seq := fieldAt 0 4 b, state := fieldAt 4 1 b, trigger := fieldAt 5 1 b
    pinned := bitAt (fieldAt 6 1 b) 0, byHost := bitAt (fieldAt 6 1 b) 1, anomaly := bitAt (fieldAt 6 1 b) 2
    further := fieldAt 7 1 b, time := fieldAt 8 8 b, recSeq := fieldAt 16 4 b, period := fieldAt 20 2 b
    samples := fieldAt 22 2 b, pre := fieldAt 24 2 b, source := fieldAt 26 2 b, time0 := fieldAt 28 8 b, epoch := fieldAt 36 2 b }

/-- Writes a trace header, its sample check taken over the samples in the slot. -/
def Dev.putTrace (slot : Nat) (t : TraceHdr) (d : Dev) : Dev :=
  let check := crc32c (memLoad d.nv.main (traceAt slot + 64) (32 * t.samples))
  { d with nv := { d.nv with
      main := memStore d.nv.main (traceAt slot) (t.bytes check)
      traceOrder := d.nv.traceOrder.filter (· ≠ slot) ++ [slot] } }

/-- A trace slot is free: never written, or freed (R561). -/
def Dev.traceFree (slot : Nat) (d : Dev) : Bool := !d.nv.traceOrder.contains slot || (traceHdr d.nv.main slot).state = 0

/-- The least recently written free slot, failing that the least recently written unpinned slot (R563). -/
def Dev.traceSlot (d : Dev) : Option Nat :=
  match (List.range 512).find? fun s => !d.nv.traceOrder.contains s with
  | some s => some s
  | none =>
    match d.nv.traceOrder.find? fun s => (traceHdr d.nv.main s).state = 0 with
    | some s => some s
    | none => d.nv.traceOrder.find? fun s => !(traceHdr d.nv.main s).pinned

/-- Trigger codes whose traces are pinned (R562). -/
def pinsTrace (code : Nat) : Bool := 1 ≤ code && code ≤ 10

/-- A trigger pins the trace in a slot (R565): beyond LOG_PIN_MAX the oldest trace pinned by trigger gives way, or the pin is refused. -/
def Dev.pinByTrigger (slot : Nat) (d : Dev) : Dev :=
  let t := traceHdr d.nv.main slot
  if t.pinned then d
  else
    let h := d.header
    let pinIt (d : Dev) : Dev := d.putTrace slot { traceHdr d.nv.main slot with pinned := true, anomaly := true }
    if h.pinned + 1 ≤ d.parN P.LOG_PIN_MAX then
      (pinIt d).putHeader { h with pinned := h.pinned + 1 }
    else
      let byTrigger := d.nv.traceOrder.filter fun s => let t := traceHdr d.nv.main s; t.pinned && t.anomaly && t.state ≠ 0
      match byTrigger with
      | s :: _ =>
        let old := traceHdr d.nv.main s
        let order := d.nv.traceOrder
        let d := d.putTrace s { old with pinned := false, anomaly := false }
        pinIt { d with nv := { d.nv with traceOrder := order } }
      | [] => d.raise 188 1 0xFF (u16 slot)

/-- The bytes of one sample (R561), of the values at this profile update. -/
def Dev.traceSample (d : Dev) : List Byte :=
  let contacts := d.leafPorts.flatMap fun p => (d.skin.ports.getD p {}).contacts
  let best := contacts.foldl (fun (b : Nat × Nat) c => if b.1 < c.peak then (c.peak, c.cls) else b) (0, 0)
  let flags := d.pilot.validity % 4
    + 4 * bitsOf [d.pilot.dr = 1, d.skin.line, d.bin.out0.energised, d.bin.out1.energised, d.bin.inhibit, d.log.demandNow]
  i32 d.leafPos ++ i32 (wholeOf d.leaf.sp.p) ++ i32 d.leafSpeed ++ i32 d.pilot.force ++ i16 (satI 16 d.pilot.iqMean)
    ++ i16 (satI 16 d.pilot.iqRef) ++ u16 (satU 16 (d.drive.vbus / 10)) ++ u8 d.door.state ++ u8 flags ++ u16 (satU 16 best.1)
    ++ u8 (satU 8 contacts.length) ++ u8 best.2 ++ i32 d.stepPos

/-- A capture begins (R563). `pin` asks for a pin by the host. -/
def Dev.startCapture (code source time period pre : Nat) (pin : Bool) (order : Option Nat) (d : Dev) : Dev :=
  match d.traceSlot with
  | none => { d with log := { d.log with missed := satU 16 (d.log.missed + 1) } }
  | some slot =>
    let h := d.header
    let before := lastN pre d.log.rolling
    let t0 := match before with | (t, _) :: _ => t | [] => d.chron.time
    let t : TraceHdr := {
      seq := h.nextTrace, state := 1, trigger := code, pinned := pin, byHost := pin, time := time
      recSeq := (h.next + d.log.run.ended.length) % 2 ^ 32, period := period, samples := before.length / 16 * 16
      pre := before.length, source := source, time0 := t0, epoch := h.epoch }
    let main := memStore d.nv.main (traceAt slot + 64) (before.flatMap (·.2))
    let d := { d with nv := { d.nv with main := main } }
    let d := d.putTrace slot t
    let d := d.putHeader { h with nextTrace := (h.nextTrace + 1) % 2 ^ 32, capSlot := slot, pinned := h.pinned + bit pin }
    let d := { d with log := { d.log with capture := some { slot := slot, period := period, samples := before.length, time0 := t0, order := order } } }
    if pinsTrace code then d.pinByTrigger slot else d

/-- A change of LOG_TRACE_PERIOD or LOG_TRACE_PRE restarts the rolling buffer (R566). -/
def Dev.restartRolling (d : Dev) : Dev := { d with log := { d.log with rolling := [], updates := 0 } }

/-- The running capture ends in a state: 2 complete, 3 partial (R563, R564). -/
def Dev.endCapture (state : Nat) (d : Dev) : Dev :=
  match d.log.capture with
  | none => d
  | some c =>
    let t := traceHdr d.nv.main c.slot
    let d := d.putTrace c.slot { t with state := state, samples := c.samples, time0 := c.time0 }
    let d := d.putHeader { d.header with capSlot := 65535 }
    { d with log := { d.log with capture := none } }

/-- A capture ends early, as a partial trace; its order aborts with reason 3 (R564, R568). -/
def Dev.stopCapture (d : Dev) : Dev :=
  match d.log.capture with
  | none => d
  | some c => (d.endCapture 3).abort c.order 3

/-- A cause of R562 arises: it waits to trigger where its code is enabled. -/
def Dev.trigger (code source : Nat) (d : Dev) : Dev :=
  if code = 10 ∨ bitAt (d.parN P.LOG_TRACE_TRIGGERS) code then
    { d with log := { d.log with triggers := d.log.triggers ++ [(code, source, d.chron.time)] } }
  else d

/-- One trigger is taken (R562 to R566). -/
def Dev.takeTrigger (d : Dev) : Dev :=
  match d.log.triggers with
  | [] => d
  | (code, source, time) :: rest =>
    let d := { d with log := { d.log with triggers := rest, run := { d.log.run with traced := true } } }
    if d.logFailed then d
    else match d.log.capture with
      | some c =>
        let t := traceHdr d.nv.main c.slot
        let d := d.putTrace c.slot { t with further := satU 8 (t.further + 1) }
        if pinsTrace code then d.pinByTrigger c.slot else d
      | none =>
        if d.captureStopped then { d with log := { d.log with missed := satU 16 (d.log.missed + 1) } }
        else d.startCapture code source time (d.parN P.LOG_TRACE_PERIOD) (d.parN P.LOG_TRACE_PRE) false none

/-- A sample goes into the rolling buffer when the period in force has passed, and into the running capture at its own period (R563). The header follows after every 16 samples. -/
def Dev.takeSample (ok : Bool) (d : Dev) : Dev :=
  let bytes := d.traceSample
  let d := if d.parN P.LOG_TRACE_PERIOD ≤ d.log.updates then
      { d with log := { d.log with updates := 0, rolling := lastN 253 (d.log.rolling ++ [(d.chron.time, bytes)]) } }
    else d
  match d.log.capture with
  | none => d
  | some c =>
    if c.updates < c.period then d
    else if ¬ ok then d.failLog 0
    else if 254 ≤ c.samples then d
    else
      let main := memStore d.nv.main (traceAt c.slot + 64 + 32 * c.samples) bytes
      let c := { c with samples := c.samples + 1, updates := 0, time0 := if c.samples = 0 then d.chron.time else c.time0 }
      let d := { d with nv := { d.nv with main := main }, log := { d.log with capture := some c } }
      if c.samples % 16 = 0 then d.putTrace c.slot { traceHdr d.nv.main c.slot with samples := c.samples, time0 := c.time0 } else d

/-- The slot pinned for the record of a sequence, or 0xFFFF (R565). -/
def Dev.pinnedFor (seq : Nat) (d : Dev) : Nat :=
  match d.nv.traceOrder.find? fun s =>
    let t := traceHdr d.nv.main s
    t.pinned && t.state ≠ 0 && t.recSeq = seq && t.epoch = d.header.epoch with
  | some s => s
  | none => 65535

/-- The oldest record that has ended is cast; `anomaly` sets flag 15 (R556). A failed Log casts nothing. -/
def Dev.castFront (anomaly : Bool) (steps : Nat) (ok : Bool) (d : Dev) : Dev :=
  match d.log.run.ended with
  | [] => d
  | r :: rest =>
    let r := { r with
      pinned := d.pinnedFor d.header.next
      flags := if anomaly ∧ ¬ r.flags.testBit 15 then r.flags + 32768 else r.flags }
    let d := { d with log := { d.log with
      run := { d.log.run with ended := rest }, tablesDue := d.log.tablesDue || (r.kind = 1 && 6 ≤ steps) } }
    if d.logFailed then d else d.castOne r steps ok

/-- The draft is written (R558). -/
def Dev.writeDraft (d : Dev) : Dev :=
  if d.log.run.active ∧ ¬ d.logFailed then
    { d with nv := { d.nv with draft := some (d.recSnapshot 0, d.header.next) } }
  else d

/-- On entering Reef 4 the running record is cast as interrupted, end reason 1, without steps 1 and 7 (R560). -/
def Dev.castInterrupted (reason : Nat) (d : Dev) : Dev :=
  let u := d.log.run
  if u.active then
    let r := d.recSnapshot reason
    let d := { d with log := { d.log with run := { ended := u.ended } } }
    if d.logFailed then d else d.castOne { r with kind := r.kind + 1, pinned := d.pinnedFor d.header.next } 6 true
  else d

/-- Step 6 of start-up: the rows of R559. -/
def Dev.recoverLog (draftOk : Bool) (d : Dev) : Dev :=
  match d.nv.header with
  | none => d
  | some h =>
    let complete (d : Dev) : Dev :=
      let next := (h.castSeq + 1) % 2 ^ 32
      let d := d.putHeader { d.header with casting := false, next := next, oldest := max d.header.oldest (next - 262144) }
      { d with log := { d.log with lastCast := d.chron.time } }
    if h.failed then d
    else if h.casting then
      if d.recordValid h.castSeq then complete d
      else
        let start := match d.nv.draft with
          | some (r, seq) => if draftOk ∧ seq = h.castSeq then r.start else 0
          | none => 0
        let r : Record := { kind := 5, endState := 0, start := start, motorTemp := 0, lowVhv := 0, endReason := 2, pinned := 0 }
        let d := { d with nv := { d.nv with main := memStore d.nv.main (ringAt h.castSeq) (recordBytes h.epoch h.castSeq r) } }
        let d := complete d
        let d := d.putHeader { d.header with torn := satU 16 (h.torn + 1) }
        d.raise 186 2 0xFF (u32 h.castSeq)
    else match d.nv.draft with
      | some (r, seq) =>
        if draftOk ∧ seq = h.next then d.castOne { r with kind := r.kind + 1, endReason := 2, pinned := d.pinnedFor h.next } 6 true else d
      | none => d

/-- At step 6 a slot found capturing becomes partial (R564). -/
def Dev.recoverTraces (d : Dev) : Dev :=
  let d := if d.header.capSlot < 512 ∧ (traceHdr d.nv.main d.header.capSlot).state = 1 then
      d.putTrace d.header.capSlot { traceHdr d.nv.main d.header.capSlot with state := 3 }
    else d
  if d.nv.header.isSome ∧ d.header.capSlot ≠ 65535 then d.putHeader { d.header with capSlot := 65535 } else d

/-! ### Erasing (R569) -/

/-- Frees the trace slots that meet a condition. -/
def Dev.freeTraces (p : TraceHdr → Bool) : List Nat → Dev → Dev
  | [], d => d
  | s :: ss, d =>
    let t := traceHdr d.nv.main s
    let d := if t.state ≠ 0 ∧ p t then
        let order := d.nv.traceOrder
        let d := d.putTrace s { t with state := 0, pinned := false, byHost := false, anomaly := false }
        { d with nv := { d.nv with traceOrder := order } }
      else d
    freeTraces p ss d

/-- A header write that goes with an erase of traces: it makes no readable header of one that is not, which the erase of the ring alone does (R85, R569). -/
def Dev.headerKept (f : LogHeader → LogHeader) (d : Dev) : Dev := if d.nv.header.isSome then d.putHeader (f d.header) else d

/-- LOG_ERASE: bit 0 the ring, bit 1 unpinned traces, bit 2 pinned traces (R567, R569). -/
def Dev.eraseLog (what : Nat) (d : Dev) : Dev :=
  let d := if bitAt what 1 then Dev.freeTraces (fun t => !t.pinned) d.nv.traceOrder d else d
  let d := if bitAt what 2 then
      (Dev.freeTraces (fun t => t.pinned) d.nv.traceOrder d).headerKept fun h => { h with pinned := 0 }
    else d
  let d := if bitAt what 1 && bitAt what 2 then d.headerKept fun h => { h with nextTrace := 0 } else d
  if bitAt what 0 then
    let h := d.header
    let d := d.putHeader { h with epoch := (h.epoch + 1) % 65536, next := 0, oldest := 0, eraseTime := d.chron.time, failed := false, casting := false }
    d.clearing 187 0xFF (u8 0)
  else d

/-! ### Queries (R570 to R573) -/

/-- The reply data of LOG_STATUS. -/
def Dev.logStatus (d : Dev) : List Byte :=
  let h := d.header
  let free := 512 - (d.nv.traceOrder.filter fun s => (traceHdr d.nv.main s).state ≠ 0).length
  let cap := if d.log.capture.isSome then 1 else if d.captureStopped then 2 else 0
  u8 (bit d.logFailed) ++ u8 cap ++ u8 d.log.run.record.kind ++ u16 h.epoch
    ++ u16 (match d.log.capture with | some c => c.slot | none => 65535) ++ u32 h.next ++ u32 h.oldest ++ u32 h.nextTrace
    ++ u16 free ++ u16 h.pinned ++ u16 h.torn ++ u16 d.log.missed ++ u64 d.log.lastCast ++ u64 h.eraseTime

/-- LOG_READ (R568, R570): the reply as status and data. -/
def Dev.logRead (first count : Nat) (d : Dev) : Nat × List Byte :=
  let h := d.header
  if d.logFailed then (0x1B, [])
  else if count < 1 ∨ 20 < count then (0x08, u8 1)
  else
    let start := if first = 0xFFFFFFFF then max h.oldest (h.next - count) else first
    let n := if first = 0xFFFFFFFF then min count (h.next - start) else count
    if start < h.oldest ∨ h.next < start + n then (0x08, u8 0)
    else
      let seqs := (List.range n).map (start + ·)
      let valid := bitsOf (seqs.map fun s => d.recordValid s)
      (0, u32 start ++ u8 n ++ u16 0 ++ u32 valid ++ seqs.flatMap fun s => memLoad d.nv.main (ringAt s) 48)

/-- TRACE_LIST (R571). -/
def Dev.traceList (first count : Nat) (d : Dev) : Nat × List Byte :=
  if d.logFailed then (0x1B, [])
  else if 511 < first then (0x08, u8 0)
  else if count < 1 ∨ 48 < count ∨ 512 < first + count then (0x08, u8 1)
  else
    let entry (s : Nat) : List Byte :=
      let t := if d.nv.traceOrder.contains s then traceHdr d.nv.main s else {}
      u16 s ++ u8 t.state ++ u8 t.trigger ++ u8 t.flags ++ u8 0 ++ u16 t.samples ++ u32 t.seq ++ u64 t.time
    (0, u16 first ++ u8 count ++ ((List.range count).map (first + ·)).flatMap entry)

/-- TRACE_READ (R572). -/
def Dev.traceRead (slot off count : Nat) (d : Dev) : Nat × List Byte :=
  if d.logFailed then (0x1B, [])
  else if 511 < slot then (0x08, u8 0)
  else if 8192 < off + count then (0x08, u8 1)
  else if count < 1 ∨ 960 < count then (0x08, u8 2)
  else
    let t := traceHdr d.nv.main slot
    (0, u16 slot ++ u32 t.seq ++ u16 off ++ u16 count ++ memLoad d.nv.main (traceAt slot + off) count)

end Sys2Proof.Machine
end

