-- ==== Sys2Proof/Machine/ResetOps.lean ====
section
/-! DEFINITION. Entering reset: what a reset of the controller die clears and what outlives it (R53, R54, R82, R83). -/

namespace Sys2Proof.Machine

/-- A bit of the reset cause word is set. -/
def setBit (v n : Nat) : Nat := if v.testBit n then v else v + 2 ^ n

/-- A bit of a number is cleared. -/
def clearBit (v n : Nat) : Nat := if v.testBit n then v - 2 ^ n else v

/-- Bits of a list of causes set in a word. -/
def setBits : List Nat → Nat → Nat
  | [], v => v
  | n :: ns, v => setBits ns (setBit v n)

/-- A load channel through a reset of the controller die: the protection state on the smart-power die stays, the host's order and the reports are lost. -/
def Channel.throughReset (c : Channel) : Channel := { c with order := false, freewheel := false, test := 0, testAt := 0, opens := 0 }

/-- The load block through a reset: jury inputs and protection live on the smart-power die. -/
def Load.throughReset (l : Load) : Load :=
  { channels := l.channels.map (·.throughReset), jury := l.jury, jin := l.jin, jinAt := l.jinAt, group := l.group
    overSince := l.overSince, underSince := l.underSince, limitAt := l.limitAt, derating := l.derating }

/-- The always-on view and the supplies through a reset. -/
def Supply.throughReset (s : Supply) : Supply :=
  { vhv := s.vhv, vdrv := s.vdrv, vcore := s.vcore, vio := s.vio, vkeep := s.vkeep, vhvMv := s.vhvMv, vdrvMv := s.vdrvMv
    bank := s.bank, dieTemp := s.dieTemp, reef4Hold := s.reef4Hold, notBelow := s.notBelow, notAbove := s.notAbove, chronLeft := s.chronLeft }

/-- The controller die enters reset with the causes given (R82, R83). Everything in the controller die starts from its reset value; the memory die, the flash, the smart-power die and the always-on domain keep theirs. A running trace and the running record are found again at step 6 (R559, R564). -/
def Dev.enterReset (causes : List Nat) (d : Dev) : Dev :=
  let unsent := d.host.eventFill
  let nv := { d.nv with
    keep := { d.nv.keep with cause := setBits causes d.nv.keep.cause }
    unsent := satU 16 unsent }
  let d : Dev := {
    now := d.now, draws := d.draws, nv := nv
    supply := { d.supply.throughReset with chronLeft := if d.supply.step = 0 then d.supply.chronLeft else d.chron.state }
    prm := { working := d.prm.working }, load := d.load.throughReset }
  d.refreshLoads

/-- A reset while the controller runs; in reset, Parked or Dormant only the cause is kept where `keep` says so. -/
def Dev.resetIfRunning (causes : List Nat) (d : Dev) : Dev :=
  if 0 < d.supply.step ∧ d.supply.mode = 0 then d.enterReset causes else d

end Sys2Proof.Machine
end

