-- ==== Sys2Proof/Machine/BinnacleOps.lean ====
section
/-! DEFINITION. Binnacle (chapter 13): safe inputs and outputs, the safety functions at each tick, the diagnostics, the commissioning seal and its queries. -/

namespace Sys2Proof.Machine

/-- Binnacle changed. -/
def Dev.modBin (f : Binnacle → Binnacle) (d : Dev) : Dev := { d with bin := f d.bin }

/-- Binnacle's pads are configured: from step 9 of start-up on, while the controller runs (R84). -/
def Dev.binRuns (d : Dev) : Bool := 9 ≤ d.supply.step && d.supply.mode = 0

/-- The smart-power die lets Binnacle energise a safe output: VHV is not locked out (R30, R68), and Reef 4 has not ended it (R91). -/
def Dev.outPower (d : Dev) : Bool := d.supply.vhv && decide (d.supply.reef < 4)

/-- The test-pulse outputs are switched on at VHV: from step 9 on, outside lock-out (R52, R68, R84). -/
def Dev.tpoOn (d : Dev) : Bool := d.binRuns && d.supply.vhv

/-! ### Safe inputs (R437 to R446) -/

/-- The TPO that feeds a channel (R440). -/
def Dev.tpoOf (d : Dev) (c : Nat) : Nat := bitsAt (d.parN P.BIN_SIN_SRC) (2 * c + 1) (2 * c)

/-- A channel's state. -/
def Binnacle.channel (b : Binnacle) (c : Nat) : SafeChannel := b.channels.getD c {}

/-- The level of a channel that every rule acts on: 0 with a test fault or with the fault of its TPO (R440, R442). -/
def Dev.sinLevel (d : Dev) (c : Nat) : Bool :=
  let s := d.bin.channel c
  s.level && !s.testFault && !d.bin.tpoFault.getD (d.tpoOf c) false

/-- Q23.8 travel since the last edge at a speed of 1/65,536 sub-edge per ms, held short of the next boundary (R286). -/
def travelSince (speed ticks : Nat) : Nat := min (speed * ticks / 25600000) 65535

/-- The speed that the time since the last edge still allows (R284): no more than one edge in it. -/
def Dev.speedNow (d : Dev) : Nat :=
  if d.sext.edgeTimes.isEmpty ∨ d.now ≤ d.sext.edgeKnown then d.sext.speed
  else min d.sext.speed (1677721600000 / (d.now - d.sext.edgeKnown))

/-- The interpolated position at the present time (R286). -/
def Dev.posNow (d : Dev) : Int :=
  let s := d.sext
  let base := 256 * s.counter
  if ¬ s.speedValid ∨ s.overrun ≠ 0 then base
  else match s.edgeTimes with
    | [] => base
    | t :: _ =>
      let x : Int := travelSince d.speedNow (d.chron.time - t)
      if s.opening then base + x else base - x

/-- One sample of a channel through the filter of R439. -/
def SafeChannel.sample (s : SafeChannel) (filter : Nat) (read : Bool) (now : Nat) (pos : Int) : SafeChannel :=
  if read = s.level then { s with run := 0 }
  else
    let s := if s.run = 0 then { s with runAt := now, runPos := pos } else s
    if filter ≤ s.run + 1 then { s with level := read, run := 0, firstAt := s.runAt, firstPos := s.runPos } else { s with run := s.run + 1 }

/-- One tick of the discrepancy count and of the course through the safe value (R443, R445). The answers: the watch, whether the count has reached T, whether a return together has been followed by leaving together. -/
def PairWatch.step (w : PairWatch) (t : Nat) (a b : Bool) : PairWatch × Bool × Bool :=
  if a = b then
    let together := decide (w.disc < t)
    if a = w.agreed then ({ w with disc := 0 }, false, false)
    else if a then ({ disc := 0, agreed := true, returned := false }, false, together && w.returned)
    else ({ disc := 0, agreed := false, returned := together }, false, false)
  else
    let n := w.disc + 1
    ({ w with disc := n, returned := w.returned && decide (n < t) }, decide (t ≤ n), false)

/-- Function and discrepancy time of a pair. -/
def Dev.pairFn (d : Dev) (p : Nat) : Nat := d.parN (P.pairFunc p)

/-- T of R443. -/
def Dev.pairT (d : Dev) (p : Nat) : Nat := d.parN (P.pairDisc p)

/-- A pair as the rules take it: both channels read 1 and nothing holds it at its safe value (R438, R445). -/
def Dev.pairHigh (d : Dev) (p : Nat) : Bool :=
  d.sinLevel (2 * p) && d.sinLevel (2 * p + 1) && !(d.bin.pairs.getD p {}).latched

/-- A function is made or operated under R437: the isolation pair when its channels do not both read 1. A function that no pair carries is not made. -/
def Dev.made (d : Dev) (func : Nat) : Bool :=
  match d.pairOf func with
  | none => false
  | some p => if func = 5 then !d.pairHigh p else d.pairHigh p

/-- The test faults of a pair clear once its channels have passed 10 checks and the sampled levels have gone through the safe value and back together (R442). -/
def Dev.clearTestFaults (p : Nat) (d : Dev) : Dev :=
  let sampled (c : Nat) : Bool := (d.bin.channel c).level && !d.bin.tpoFault.getD (d.tpoOf c) false
  let pair := d.bin.pairs.getD p {}
  let waits (c : Nat) : Bool := (d.bin.channel c).testFault && decide ((d.bin.channel c).passes < 10)
  let (w, _, cycle) := pair.raw.step (d.pairT p) (sampled (2 * p)) (sampled (2 * p + 1))
  let w := if waits (2 * p) || waits (2 * p + 1) then { w with returned := false } else w
  let free (s : SafeChannel) : SafeChannel := if cycle && decide (10 ≤ s.passes) then { s with testFault := false } else s
  d.modBin fun b => { b with
    pairs := modAt (fun q : SafePair => ({ q with raw := w } : SafePair)) p b.pairs
    channels := modAt free (2 * p) (modAt free (2 * p + 1) b.channels) }

/-- The discrepancy of one pair at a tick, with its events (R443, R445). -/
def Dev.tickPair (p : Nat) (d : Dev) : Dev :=
  let d := d.clearTestFaults p
  let a := d.sinLevel (2 * p)
  let b := d.sinLevel (2 * p + 1)
  let pair := d.bin.pairs.getD p {}
  let (w, reached, cycle) := pair.watch.step (d.pairT p) a b
  let changed := if w.agreed ≠ pair.watch.agreed ∧ a = b then d.now else pair.changed
  let put (latched : Bool) (d : Dev) : Dev :=
    d.modBin fun n => { n with pairs := modAt (fun q : SafePair => ({ q with watch := w, latched := latched, changed := changed } : SafePair)) p n.pairs }
  if d.pairFn p = 0 then put false d
  else if reached ∧ ¬ pair.latched then
    ((put true d).onset 161 2 p (u8 (bit a) ++ u8 (bit b))).trigger 8 161
  else if cycle ∧ pair.latched then ((put false d).endStanding 161 p).raise 162 0 p []
  else put pair.latched d

/-- All pairs at a tick. -/
def Dev.tickPairs : List Nat → Dev → Dev
  | [], d => d
  | p :: ps, d => tickPairs ps (d.tickPair p)

/-- A TPO fails a check (R440). -/
def Dev.tpoFails (n mv : Nat) (d : Dev) : Dev :=
  let d := d.modBin fun b => { b with tpoFault := setAt n true b.tpoFault, tpoPasses := setAt n 0 b.tpoPasses }
  d.onset 160 2 n (u16 (satU 16 mv))

/-- The on level of the TPOs at the tick sample (R440). -/
def Dev.tickTpo (tpo : List Nat) (vhv : Nat) : List Nat → Dev → Dev
  | [], d => d
  | n :: ns, d =>
    let d := match tpo.drop n with
      | mv :: _ => if d.tpoOn ∧ mv + 3000 < vhv then d.tpoFails n mv else d
      | [] => d
    tickTpo tpo vhv ns d

/-- The samples of all channels at a tick (R439). -/
def Dev.tickSamples (levels : Nat) (d : Dev) : Dev :=
  let filter := d.parN P.BIN_IN_FILTER
  let pos := d.posNow
  d.modBin fun b => { b with channels := (numbered b.channels).map fun (c, s) => s.sample filter (bitAt levels c) d.now pos }

/-- The check of a channel in a window of its TPO (R440, R442). -/
def SafeChannel.window (s : SafeChannel) (mine high : Bool) : SafeChannel :=
  if ¬ mine then s
  else if high then { s with testFault := true, passes := 0 }
  else if s.testFault then { s with passes := s.passes + 1 }
  else s

/-- A test window of a TPO: its pad voltage, and which channels read 1 in it (R440 to R442). -/
def Dev.testWindow (n mv reads : Nat) (d : Dev) : Dev :=
  let d := if 2000 ≤ mv then d.tpoFails n mv
    else
      let passes := d.bin.tpoPasses.getD n 0 + 1
      let clears := d.bin.tpoFault.getD n false && decide (10 ≤ passes)
      let d := d.modBin fun b => { b with
        tpoPasses := setAt n passes b.tpoPasses
        tpoFault := if clears then setAt n false b.tpoFault else b.tpoFault }
      if clears then d.clearing 160 n (u16 (satU 16 mv)) else d
  d.modBin fun b => { b with channels := (numbered b.channels).map fun (c, s) => s.window (d.tpoOf c = n) (bitAt reads c) }

/-! ### Safe outputs (R447 to R450, R600) -/

/-- Safe output 0 or 1. -/
def Binnacle.out (b : Binnacle) (o : Nat) : SafeOutput := if o = 0 then b.out0 else b.out1

/-- A safe output changed. -/
def Dev.modOut (o : Nat) (f : SafeOutput → SafeOutput) (d : Dev) : Dev :=
  d.modBin fun b => if o = 0 then { b with out0 := f b.out0 } else { b with out1 := f b.out1 }

/-- Both switches open (R447). SOUT0 then needs a full BIN_PROVE_TIME again. -/
def Dev.openOut (o : Nat) (d : Dev) : Dev :=
  let d := if o = 0 then d.modBin fun b => { b with prove := 0 } else d
  if (d.bin.out o).energised then
    d.modOut o fun s => { s with energised := false, changed := d.chron.time, lowSince := none, turnB := false }
  else d

/-- The output is energised; for SOUT0 the movement of D7 is counted from here. -/
def Dev.closeOut (o : Nat) (d : Dev) : Dev :=
  if (d.bin.out o).energised then d
  else
    let d := d.modOut o fun s => { s with energised := true, changed := d.chron.time, pulsed := d.now, lowSince := none, holdUntil := none, proved := 0 }
    if o = 0 then d.modBin fun b => { b with netProved := 0, illegalProved := false } else d

/-- The loop current of an output at a tick (R447, R448). -/
def Dev.tickLoop (o current : Nat) (d : Dev) : Dev :=
  let d := d.modOut o fun s => { s with
    current := current
    loopOpen := s.loopOpen && decide (current < 2000)
    lowSince := if s.energised && decide (current < 2000) then some (s.lowSince.getD d.now) else none }
  if 2000 ≤ current then d.clearing 164 o (u16 (satU 16 current)) else d

/-- An off-pulse: the current read 350 µs after the switch opened (R448). -/
def Dev.offPulse (o current : Nat) (d : Dev) : Dev :=
  let s := d.bin.out o
  if ¬ s.energised ∨ 1 < o ∨ s.current < 2000 then d
  else if 1000 ≤ current then
    let d := d.modOut o fun s => { s with stuckA := s.stuckA || !s.turnB, stuckB := s.stuckB || s.turnB, fault := true, pulsed := d.now }
    let d := (d.openOut o).modBin fun b => { b with faults := setBit b.faults (5 + o) }
    d.onset 163 3 o (u8 (bit s.turnB))
  else d.modOut o fun s => { s with pulses := satU 32 (s.pulses + 1), turnB := !s.turnB, pulsed := d.now }

/-- An energised output has carried under 2 mA for 1 s (R448). -/
def Dev.loopOpen (o : Nat) (d : Dev) : Dev :=
  let s := d.bin.out o
  match s.lowSince with
  | some t =>
    if s.energised ∧ sec 1 ≤ d.now - t ∧ ¬ s.loopOpen then
      (d.modOut o fun s => { s with loopOpen := true }).onset 164 1 o (u16 (satU 16 s.current))
    else d
  | none => d

/-- The smart-power die opens an output at its current limit (R600). -/
def Dev.loopLimit (o current : Nat) (d : Dev) : Dev :=
  if 1 < o ∨ ¬ (d.bin.out o).energised then d
  else
    let d := (d.openOut o).modOut o fun s => { s with holdUntil := some (d.now + sec 1), proved := 0 }
    d.onset 164 1 o (u16 (satU 16 current))

/-- The hold of R600: whether the output may be energised, given its conditions at this tick, and the output with its count. -/
def SafeOutput.mayClose (s : SafeOutput) (conds : Bool) (now proveTime : Nat) : Bool × SafeOutput :=
  match s.holdUntil with
  | none => (conds, s)
  | some t =>
    let n := if conds && decide (t ≤ now) then s.proved + 1 else 0
    (conds && decide (t ≤ now) && decide (proveTime ≤ n), { s with proved := n })

/-! ### Pinch-line reading (R454, R455) -/

/-- Limit of the count, and least gap of two changes, in a frame mode. -/
def lineLimit (binned : Bool) : Nat := if binned then 22 else 12

/-- Least ticks between two level changes. -/
def lineGapMin (binned : Bool) : Nat := if binned then 18 else 8

/-- The line is observed at a tick. -/
def Dev.tickLine (d : Dev) : Dev :=
  if d.par P.BIN_PINCH_USE = 0 then
    ((d.modBin fun b => { b with reading := 3 }).clearing 165 0xFF []).clearing 166 0xFF (u8 0)
  else
    let b := d.bin
    let level := d.skin.line
    let mode := d.skin.binned
    let changed := level ≠ b.lineLevel
    let modeNew := mode ≠ b.lineMode
    let gap := b.lineGap + 1
    let between := b.modeChanged || modeNew
    let measured := changed && 1 ≤ b.lineChanges && !between
    let early := measured && decide (gap < lineGapMin mode)
    let good := if early then 0 else if measured && decide (gap < lineLimit mode) then b.goodIntervals + 1
      else if measured then 0 else b.goodIntervals
    let count := if changed || modeNew then 0 else if 1 ≤ b.lineChanges then b.lineCount + 1 else 0
    let changes := if changed then min 2 (b.lineChanges + 1) else b.lineChanges
    let fault := early || (b.lineFault && decide (good < 10))
    let reading := if 1 ≤ changes ∧ lineLimit mode ≤ count then 1 else if fault then 2 else if changes < 2 then 4 else 0
    let d := { d with bin := { b with
      lineLevel := level, lineMode := mode, lineGap := if changed then 0 else gap, modeChanged := if changed then false else between
      lineCount := count, lineChanges := changes, lineFault := fault, goodIntervals := good, reading := reading
      lineFaults := if early then satU 16 (b.lineFaults + 1) else b.lineFaults } }
    let d := if early then d.onset 166 3 0xFF (u8 (satU 8 gap)) else if ¬ fault then d.clearing 166 0xFF (u8 (satU 8 gap)) else d
    if reading = 1 then d.onset 165 3 0xFF [] else if reading = 0 then d.clearing 165 0xFF [] else d

/-- A pinch line stands for the rules of the chapter: a line fault counts as one (R454). -/
def Binnacle.pinchStands (b : Binnacle) : Bool := b.reading = 1 || b.reading = 2

/-! ### Permit, direction and speed (R458 to R463) -/

/-- No connection of kind 3 is commissioned. -/
def Dev.noVehicle (d : Dev) : Bool := (d.connOf 3).isNone

/-- The telegram's release for DOOR_SIDE (R459, R543). -/
def Dev.telegramRelease (d : Dev) : Bool := if d.par P.DOOR_SIDE = 0 then d.bin.releaseLeft else d.bin.releaseRight

/-- Condition P3. -/
def Dev.released (d : Dev) : Bool :=
  let s := d.par P.BIN_RELEASE_SOURCE
  let pair := d.made 9
  (if s = 0 then d.telegramRelease else if s = 1 then pair else d.telegramRelease && pair) || d.made 4 || d.made 6

/-- The opening permit of R459. -/
def Dev.openPermit (d : Dev) : Bool :=
  d.bin.isSealed && d.ready && !d.bin.classA
    && (if d.noVehicle then d.made 9 else d.bin.view = 0)
    && d.released && !d.made 5 && !d.bin.unproven

/-- The direction violation follows the permit and the net count (R461). -/
def Dev.judgeDirection (permit : Bool) (d : Dev) : Dev :=
  if permit then
    let net := d.bin.net
    (d.modBin fun b => { b with net := 0, violation := false }).clearing 168 0xFF (i32 (satI 32 net))
  else if d.par P.BIN_DIR_TOLERANCE < d.bin.net ∧ ¬ d.bin.violation then
    (d.modBin fun b => { b with violation := true }).onset 168 3 0xFF (i32 (satI 32 d.bin.net))
  else d

/-- 500 ms without a Hall edge end a direction violation and the speed inhibit (R461, R462). -/
def Dev.edgeSilence (d : Dev) : Dev :=
  if d.now - d.bin.lastEdge < ms 500 then d
  else
    let net := d.bin.net
    let d := if d.bin.violation then (d.modBin fun b => { b with net := 0, violation := false }).clearing 168 0xFF (i32 (satI 32 net)) else d
    if d.bin.overspeed then (d.modBin fun b => { b with overspeed := false }).clearing 169 0xFF (u32 0) else d

/-- The leaf speed becomes unproven, or the count of legal edges starts again (R463). -/
def Dev.speedUnproven (d : Dev) : Dev :=
  d.modBin fun b => { b with unproven := true, legalEdges := 0, unprovenSince := if b.unproven then b.unprovenSince else d.now }

/-- 100 ms of demanded motion without an edge (R463). -/
def Dev.judgeUnproven (d : Dev) : Dev :=
  match d.bin.demandSince with
  | some t =>
    let from0 := if d.bin.anyEdge then max t d.bin.lastEdge else t
    if ms 100 ≤ d.now - from0 ∧ ¬ d.bin.unproven then d.speedUnproven else d
  | none => d

/-- Unproven for BIN_UNPROVEN_MAX (R463). -/
def Dev.unprovenTooLong (d : Dev) : Dev :=
  if d.bin.unproven ∧ ¬ d.bin.unprovenInhibit ∧ sec (d.parN P.BIN_UNPROVEN_MAX) ≤ d.now - d.bin.unprovenSince then
    d.modBin fun b => { b with unprovenInhibit := true }
  else d

/-- An interval lies below N_lim of R462, on an RC at its nominal rate: t < 1.02 · BIN_UM_PER_EDGE / v_lim, squared so that no root is taken. -/
def Dev.shortInterval (d : Dev) (t : Nat) : Bool :=
  decide (t * t * (2 * d.parN P.BIN_ENERGY_MAX) < d.parN P.BIN_MASS * (d.parN P.BIN_UM_PER_EDGE * 102) ^ 2)

/-- Sector of a legal Hall code (R275). -/
def hallSector (code : Nat) : Option Nat :=
  match code with
  | 1 => some 0
  | 3 => some 1
  | 2 => some 2
  | 6 => some 3
  | 4 => some 4
  | 5 => some 5
  | _ => none

/-- A legal edge of Binnacle's path in a direction (R461 to R463). -/
def Dev.binEdge (opening : Bool) (d : Dev) : Dev :=
  let b := d.bin
  let t := d.now - b.lastEdge
  let same := b.anyEdge && b.lastOpening = opening
  let interval := if same then some t else none
  let fast := same && d.shortInterval t && (match b.interval with | some u => d.shortInterval u | none => false)
  let shorter := match b.interval with | some u => min t u | none => t
  let move : Int := if opening then 1 else -1
  let legal := b.legalEdges + 1
  let b := { b with
    lastEdge := d.now, anyEdge := true, lastOpening := opening, interval := interval
    net := b.net + move, netProved := if b.out0.energised then b.netProved + move else b.netProved
    legalEdges := legal, unproven := b.unproven && decide (legal < 20) }
  let d := { d with bin := b }
  if fast ∧ ¬ b.overspeed then
    let v := if shorter = 0 then 0xFFFFFFFF else satU 32 (roundDiv ((d.parN P.BIN_UM_PER_EDGE * 100000000 : Nat) : Int) shorter).toNat
    (d.modBin fun b => { b with overspeed := true }).onset 169 3 0xFF (u32 v)
  else d

/-- A filtered Hall code change on Binnacle's path (R462). An edge that skips a sector has no direction: it restarts the intervals and the legal edges. -/
def Dev.binHall (code : Nat) (d : Dev) : Dev :=
  let b := d.bin
  if b.hallCode = code then d
  else
    let d := { d with bin := { b with hallCode := code } }
    match hallSector code with
    | none => (d.modBin fun b => { b with illegalProved := b.illegalProved || b.out0.energised, interval := none }).speedUnproven
    | some s =>
      let d := d.modBin fun b => { b with sector := some s }
      match b.sector with
      | none => d
      | some old =>
        let step := (s + 6 - old) % 6
        if step = 1 ∨ step = 5 then d.binEdge ((step = 1) = (d.par P.BIN_HALL_SENSE = 0))
        else if step = 0 then d
        else d.modBin fun b => { b with lastEdge := d.now, anyEdge := true, interval := none, legalEdges := 0 }

/-! ### Diagnostics (R465, R466) -/

/-- A class A fault: both safe outputs off, the drive inhibit and FAULT_N asserted, the event (R466). -/
def Dev.classAFault (n : Nat) (d : Dev) : Dev :=
  let d := (d.openOut 0).openOut 1
  let d := d.modBin fun b => { b with faults := setBit b.faults n, classA := true, reportLost := b.reportLost || decide (n = 8) }
  d.onset 170 3 0xFF (u16 d.bin.faults)

/-- A class A diagnostic fails; where R466 says so the device then resets. Bit 3 does not say which clock failed: a free bit chooses between the two causes of R79. -/
def Dev.diagnosticFails (n : Nat) (d : Dev) : Dev :=
  if n = 5 ∨ n = 6 ∨ 9 < n ∨ ¬ 0 < d.supply.step ∨ d.supply.mode ≠ 0 then d
  else
    let d := d.classAFault n
    if n = 0 ∨ n = 1 ∨ n = 2 ∨ n = 4 then d.enterReset [9]
    else if n = 3 then
      let (rc, d) := d.drawBit
      d.enterReset [if rc then 9 else 4]
    else d

/-- A sequencer report reaches Binnacle (R465): its check is its CRC and its sequence. -/
def Dev.takeReport (seq : Nat) (ok : Bool) (d : Dev) : Dev :=
  let r := d.bin.report
  let next : Bool := match r.seq with | some q => decide (seq % 256 = (q + 1) % 256) | none => true
  let passes := ok && next
  if ¬ passes then
    d.modBin fun b => { b with report := { r with seq := some (seq % 256) }, reportErrors := satU 16 (b.reportErrors + 1) }
  else
    let flag := d.door.withdrawFlag
    let d := { d with door := { d.door with withdrawFlag := none } }
    let d := d.modBin fun b => { b with report := { r with
      seq := some (seq % 256), fresh := true, door := d.door.state, step := d.door.step
      leafMotion := d.leafMotion, stepMotion := d.stepMotion } }
    match flag with
    | some cause => d.modBin fun b => { b with withdrawals := b.withdrawals + 1, withdrawCause := cause }
    | none => d

/-- The report's supervision at a tick, from step 10 of start-up on (R32, R465). -/
def Dev.tickReport (d : Dev) : Dev :=
  let r := d.bin.report
  if ¬ d.live then d
  else
    let missing := if r.fresh then 0 else r.missing + 1
    let demanded := r.leafMotion ≠ 0
    let d := d.modBin fun b => { b with
      report := { r with fresh := false, missing := missing }
      demandSince := if demanded then some (b.demandSince.getD d.now) else none
      demandLast := if demanded then d.now else b.demandLast }
    if 3 ≤ missing ∧ ¬ d.bin.reportLost then d.classAFault 8 else d

/-- The release of the inhibit for a speed that stayed unproven (R463). -/
def Dev.tickUnproven (d : Dev) : Dev :=
  if d.bin.unprovenInhibit ∧ ms 500 ≤ d.now - d.bin.demandLast then
    d.modBin fun b => { b with unprovenInhibit := false, unprovenSince := d.now }
  else d

/-! ### Door-proved and drag (R452 to R456) -/

/-- Sextant reports the position unproven (R295). -/
def Dev.posUnproven (d : Dev) : Bool := d.sext.ref ≠ 1

/-- A function must be made; where no pair carries it the condition falls away (R452). -/
def Dev.madeOrFree (d : Dev) (func : Nat) : Bool := (d.pairOf func).isNone || d.made func

/-- Conditions D1 to D7 of R452. -/
def Dev.proveConds (d : Dev) : List Bool :=
  let tol := d.par P.BIN_DIR_TOLERANCE
  [ d.bin.isSealed && d.ready && !d.bin.classA && !d.bin.out0.fault,
    d.madeOrFree 1,
    d.madeOrFree 2 && (d.par P.SYS_LEAF_ARRANGEMENT ≠ 1 || d.madeOrFree 3),
    d.posUnproven || d.madeOrFree 7,
    d.par P.SYS_STEP_FITTED = 0 || d.madeOrFree 8,
    d.par P.BIN_PINCH_USE = 0 || d.bin.reading = 0,
    !d.bin.out0.energised || (decide ((d.bin.netProved.natAbs : Int) ≤ tol) && !d.bin.illegalProved) ]

/-- SOUT0 at a tick (R452, R600). -/
def Dev.tickProved (d : Dev) : Dev :=
  let conds := d.proveConds
  let all := conds.all id
  let d := d.modBin fun b => { b with conds := bitsOf conds, prove := if all then b.prove + 1 else 0 }
  let time := d.parN P.BIN_PROVE_TIME
  let (may, s) := d.bin.out0.mayClose all d.now time
  let d := d.modOut 0 fun _ => s
  if ¬ all ∨ ¬ d.outPower then d.openOut 0
  else if may ∧ time ≤ d.bin.prove then d.closeOut 0 else d

/-- The drag latch at a tick (R456, R457). -/
def Dev.tickDrag (d : Dev) : Dev :=
  let pinch := d.bin.pinchStands
  let dir := d.bin.violation
  let moving := d.bin.view ≠ 0
  if moving ∧ (pinch ∨ dir) then
    let was := d.bin.drag
    let d := d.modBin fun b => { b with
      drag := true, dragStill := none
      byPinch := (was && b.byPinch) || pinch, byDirection := (was && b.byDirection) || dir
      dragOnsets := if was then b.dragOnsets else b.dragOnsets + 1 }
    if was then d
    else
      let d := (d.openOut 1).onset 167 3 0xFF (u8 (bitsOf [pinch, dir]))
      ((d.recFlag 13).trigger 4 167).sendKind 2
  else
    let still := d.bin.drag && !moving && !pinch && !dir
    d.modBin fun b => { b with dragStill := if still then some (b.dragStill.getD d.now) else none }

/-- The drag latch clears after 1 s of standstill without a cause (R456). -/
def Dev.dragClear (d : Dev) : Dev :=
  match d.bin.dragStill with
  | some t =>
    if sec 1 ≤ d.now - t then
      let d := d.modBin fun b => { b with drag := false, byPinch := false, byDirection := false, dragStill := none }
      (d.clearing 167 0xFF (u8 0)).sendKind 2
    else d
  | none => d

/-- SOUT1 at a tick (R450, R456, R600). -/
def Dev.tickTraction (d : Dev) : Dev :=
  let conds := d.bin.isSealed && d.ready && !d.bin.classA && !d.bin.out1.fault && d.par P.BIN_SOUT1_ENABLE = 1 && !d.bin.drag
  let (may, s) := d.bin.out1.mayClose conds d.now (d.parN P.BIN_PROVE_TIME)
  let d := d.modOut 1 fun _ => s
  if ¬ conds ∨ ¬ d.outPower then d.openOut 1 else if may then d.closeOut 1 else d

/-- The loss of the seal, acted on at the tick after the write (R473). -/
def Dev.tickSeal (d : Dev) : Dev :=
  match d.bin.sealBroken with
  | none => d
  | some id =>
    let d := d.modBin fun b => { b with sealBroken := none, isSealed := false, sealLost := id, sealReason := 2 }
    ((d.openOut 0).openOut 1).onset 172 3 0xFF (u16 id)

/-- The copies of Binnacle's inputs that the sequencer takes (R143 to R145, R446). -/
def Dev.copiesNow (d : Dev) : Copies :=
  { lockMade := d.made 1, closedA := d.made 2, closedB := d.made 3, egress := d.made 4, access := d.made 6, isolation := d.made 5
    refsw := d.made 7, view := d.bin.view, permit := d.bin.permit, inhibit := d.bin.inhibit }

/-- The counts of the safety layer at a tick (R535, R539). -/
def Dev.tickConns (d : Dev) : Dev :=
  { d with chron := { d.chron with conns := d.chron.conns.map fun k => { k with ticks := k.ticks + 1, sinceBuilt := k.sinceBuilt + 1 } } }

/-- What a change of the doorway telegram is judged by (R535). -/
def Dev.telegramKey (d : Dev) : Nat := d.doorwayBits % 16 + 16 * d.bin.withdrawals

/-- One safety tick (R439 and the functions of the chapter). -/
def Dev.safetyTick (seen : TickIn) (d : Dev) : Dev :=
  if ¬ d.binRuns then d
  else
    let mismatch := d.bin.inhibit ≠ seen.inhibitBack ∧ bitAt d.bin.faults 7 = false
    let d := if mismatch then d.classAFault 7 else d
    let d := d.modBin fun b => { b with
      ticks := (b.ticks + 1) % 2 ^ 32, regulator := seen.regulator, rcDeviation := seen.rcDeviation, ecc := (b.ecc + seen.ecc) % 2 ^ 32 }
    let d := Dev.tickTpo seen.tpo seen.vhvMv (List.range 4) d
    let d := Dev.tickPairs (List.range 8) (d.tickSamples seen.levels)
    let d := ((d.tickLoop 0 seen.loop0).tickLoop 1 seen.loop1).tickConns
    let d := (d.tickSeal.tickReport.tickLine).tickUnproven
    let permit := d.openPermit
    let d := (d.modBin fun b => { b with permit := permit }).judgeDirection permit
    let d := d.tickProved.tickDrag.tickTraction
    let key := d.telegramKey
    let news := key ≠ d.bin.lastBits
    let d := d.modBin fun b => { b with lastBits := key }
    let d := if news ∧ d.ready then d.sendKind 1 else d
    let d := { d with door := { d.door with copies := d.copiesNow } }
    if seen.regulator < 1140 ∨ 1260 < seen.regulator then d.diagnosticFails 4 else d

/-! ### The commissioning seal (R470 to R474, R480) -/

/-- CRC-32 of R470 over more bytes: polynomial 0x04C11DB7, reflected. -/
def sealRun (c : Word32) (bs : List Byte) : Word32 :=
  bs.foldl (fun c b => iter (crcBitR 0xEDB88320#32) 8 (c ^^^ b.setWidth 32)) c

/-- CRC-32 of R470. -/
def crc32 (bs : List Byte) : Nat := (sealRun 0xFFFFFFFF#32 bs ^^^ 0xFFFFFFFF#32).toNat

/-- The parameters whose class carries C, in ascending order of ID. -/
def sealedParams : List ParamDef := allParams.filter (·.sealed)

/-- A 6-byte image entry (R128). -/
def imageEntry (id : Nat) (v : Int) : List Byte := u16 id ++ i32 v

/-- The safety build of the bank that runs. -/
def Dev.runningBuild (d : Dev) : Nat :=
  let b := d.nv.banks.getD d.supply.bank {}
  Config.safetyBuild b.length b.crc % 2 ^ 32

/-- The seal value over a set of values (R470). -/
def Dev.sealOver (d : Dev) (values : List (Nat × Int)) : Nat :=
  crc32 ((sealedParams.flatMap fun p => imageEntry p.id (sget p.dflt p.id values)) ++ u8 Config.grade ++ u32 d.runningBuild)

/-- Every C entry of the working set equals the stored image (R480, R481). -/
def Dev.imageAgrees (d : Dev) : Bool :=
  match d.nv.image with
  | none => false
  | some im => sealedParams.all fun p => sget p.dflt p.id d.prm.working = sget p.dflt p.id im

/-- Binnacle evaluates the seal at step 7 (R471): the record against the value over the loaded image, grade and build; the reason of R481. -/
def Dev.evaluateSeal (rewritten : Bool) (d : Dev) : Dev :=
  let reason := match d.nv.sealRec with
    | none => if d.supply.factoryImage then 5 else 1
    | some r =>
      if d.supply.factoryImage then 5
      else if rewritten ∨ r.void then 6
      else if r.grade ≠ Config.grade % 256 then 3
      else if r.build ≠ d.runningBuild then 4
      else if r.value ≠ d.sealOver d.prm.working then 2
      else 0
  d.modBin fun b => { b with isSealed := decide (reason = 0), sealReason := reason }

/-- The record is written and read back: Sealed, the debug port off, "sealed" (R472). -/
def Dev.sealNow (value : Nat) (d : Dev) : Dev :=
  let r : SealRecord := { value := value, grade := Config.grade % 256, build := d.runningBuild, time := d.chron.time }
  let d := { d with nv := { d.nv with sealRec := some r } }
  let d := d.modBin fun b => { b with isSealed := true, sealReason := 0, sealBroken := none, debug := false }
  (d.clearing 172 0xFF (u16 d.bin.sealLost)).raise 171 0 0xFF (u32 value)

/-! ### Queries (R481 to R485) -/

/-- The reply data of SEAL_STATUS. -/
def Dev.sealStatus (d : Dev) : List Byte :=
  let r := d.nv.sealRec.getD { value := 0, grade := 0, build := 0, time := 0 }
  u8 (bit d.bin.isSealed) ++ u8 d.bin.sealReason ++ u8 Config.grade ++ u32 (d.sealOver d.prm.working) ++ u32 r.value ++ u8 r.grade
    ++ u8 (bitsOf [d.imageAgrees, d.bin.debug]) ++ u16 sealedParams.length ++ u32 d.runningBuild ++ u32 r.build ++ u64 r.time

/-- State code of a pair in SAFE_IO; where more than one applies the highest. -/
def Dev.pairState (d : Dev) (p : Nat) : Nat :=
  if (d.bin.channel (2 * p)).testFault ∨ (d.bin.channel (2 * p + 1)).testFault then 4
  else if (d.bin.pairs.getD p {}).latched then 3
  else if d.sinLevel (2 * p) ≠ d.sinLevel (2 * p + 1) then 2
  else if d.pairFn p = 0 then 0
  else if d.pairFn p = 5 then bit (!d.pairHigh p) else bit (d.pairHigh p)

/-- One pair of SAFE_IO. -/
def Dev.pairRecord (d : Dev) (p : Nat) : List Byte :=
  u8 (d.pairFn p) ++ u8 (d.pairState p) ++ u16 (d.pairT p) ++ u32 (satU 32 ((d.now - (d.bin.pairs.getD p {}).changed) / sec 1))

/-- One output of SAFE_IO. -/
def Dev.outRecord (d : Dev) (o : Nat) : List Byte :=
  let s := d.bin.out o
  let state := if s.fault then 3 else if o = 1 ∧ d.par P.BIN_SOUT1_ENABLE = 0 then 4 else bit s.energised
  u8 state ++ u8 (bitsOf [s.stuckA, s.stuckB, s.loopOpen]) ++ u16 (satU 16 (roundDiv s.current 1000).toNat) ++ u32 s.pulses

/-- The reply data of SAFE_IO. -/
def Dev.safeIo (d : Dev) : List Byte :=
  u16 (bitsOf ((List.range 16).map d.sinLevel)) ++ u16 (bitsOf (d.bin.channels.map (·.testFault))) ++ u8 (bitsOf d.bin.tpoFault) ++ u16 0
    ++ ((List.range 8).flatMap fun p => d.pairRecord p) ++ d.outRecord 0 ++ d.outRecord 1

/-- v_lim of R462 in µm/s, to the nearest (R6). -/
def Dev.speedLimit (d : Dev) : Nat :=
  let m := d.parN P.BIN_MASS
  if m = 0 then 0 else (isqrt (4 * (2 * d.parN P.BIN_ENERGY_MAX * 1000000000000) / m) + 1) / 2

/-- The reply data of SAFE_FUNCTIONS. -/
def Dev.safeFunctions (d : Dev) : List Byte :=
  let b := d.bin
  u8 (bitsOf [b.isSealed, b.selfTest, b.classA, b.inhibit, b.permit, b.unproven, d.posUnproven]) ++ u8 b.view ++ u8 b.conds
    ++ u8 (bitsOf [b.byPinch, b.byDirection]) ++ u8 b.causes ++ u8 b.reading ++ u8 (bit b.lineMode) ++ i32 (satI 32 d.binSpeed)
    ++ u32 d.speedLimit ++ i32 (satI 32 b.net) ++ u8 (satU 8 b.prove) ++ u8 (bitsOf [d.telegramRelease, d.made 9]) ++ u16 0
    ++ u64 b.out0.changed ++ u64 b.out1.changed

/-- The reply data of BIN_DIAG. -/
def Dev.binDiag (d : Dev) : List Byte :=
  let b := d.bin
  u16 b.faults ++ u8 0 ++ u32 b.ecc ++ u32 b.march ++ u32 b.crcPasses ++ i16 (satI 16 b.rcDeviation) ++ u16 (satU 16 b.regulator)
    ++ u16 b.reportErrors ++ u16 b.lineFaults ++ u32 d.runningBuild ++ u32 b.ticks

end Sys2Proof.Machine
end

