-- ==== Sys2Proof/Machine/Trig.lean ====
section
/-! DEFINITION. Fixed-point sine and logarithm for the rules that name them: the dq transform (R242), the factory microstep table (R214), the chirp (R263) and the NTC (R326). The manual gives no precision; these are exact to far below the units of every result. -/

namespace Sys2Proof.Machine

/-- π in units of 2⁻⁶⁰. -/
def piQ60 : Nat := 3622009729038561421

/-- The sine series of an angle `x` in radians, 2⁻⁶⁰ units, 0 ≤ x ≤ π / 2: term by term, each x² / ((2k)(2k + 1)) of the one before. -/
def sinSeries (x : Nat) : Nat → Nat → Int → Int → Int
  | 0, _, _, acc => acc
  | n + 1, k, term, acc =>
    let next := -(term * x / 2 ^ 60 * x / 2 ^ 60) / ((2 * k : Nat) * (2 * k + 1 : Nat) : Nat)
    sinSeries x n (k + 1) next (acc + next)

/-- The sine of an angle in the first quadrant, `q` in 2⁻³² turn from 0 to 2³⁰; 2⁻⁶⁰ units. -/
def sinQuarter (q : Nat) : Int :=
  let x := q * piQ60 / 2 ^ 31
  sinSeries x 12 1 x x

/-- The sine of an angle in 2⁻³² turn, in 2⁻³⁰ units, to the nearest. -/
def sinTurn (a : Nat) : Int :=
  let a := a % 2 ^ 32
  let q := a % 2 ^ 30
  let v := if a / 2 ^ 30 % 2 = 0 then sinQuarter q else sinQuarter (2 ^ 30 - q)
  let v := roundDiv v (2 ^ 30)
  if a < 2 ^ 31 then v else -v

/-- The cosine of an angle in 2⁻³² turn, in 2⁻³⁰ units. -/
def cosTurn (a : Nat) : Int := sinTurn (a + 2 ^ 30)

/-- An entry of the factory microstep table: round(32,767 · sin(2πk / 1,024)) (R214). -/
def factoryStep (k : Nat) : Int := roundDiv (32767 * sinTurn (k * 2 ^ 22)) (2 ^ 30)

/-- log₂ of `x` in [1, 2), 2⁻⁴⁰ units, bit by bit: squaring doubles the logarithm. -/
def log2Bits : Nat → Nat → Nat → Nat
  | 0, _, acc => acc
  | n + 1, x, acc =>
    let y := x * x / 2 ^ 40
    if 2 ^ 41 ≤ y then log2Bits n (y / 2) (2 * acc + 1) else log2Bits n y (2 * acc)

/-- The natural logarithm of a ratio a / b of positive numbers, in 2⁻⁴⁰ units. -/
def lnRatio (a b : Nat) : Int :=
  let shift (v : Nat) : Int × Nat := let e := Nat.log2 v; (e, v * 2 ^ 40 / 2 ^ e)
  let (ea, ma) := shift a
  let (eb, mb) := shift b
  let l : Int := (ea - eb) * 2 ^ 40 + log2Bits 40 ma 0 - log2Bits 40 mb 0
  roundDiv (l * 762123384786) (2 ^ 40)

/-- The NTC temperature of R326 in 0.1 °C from the pad voltage in mV, R25 in Ω and the beta in K. -/
def ntcTemp (mv r25 beta : Nat) : Int :=
  let r := 10000 * mv
  let l := lnRatio r (r25 * (3000 - mv))
  -- T = 1 / (1 / 298.15 + l / beta): numerator and denominator over 2⁴⁰.
  let num : Int := 29815 * beta * 2 ^ 40
  let den : Int := 100 * beta * 2 ^ 40 + 29815 * l
  if den ≤ 0 then 0 else roundDiv (20 * num - 5463 * den) (2 * den.toNat)

end Sys2Proof.Machine
end

