-- ==== Sys2Proof/Machine/DriveOps.lean ====
section
/-! DEFINITION. The power stage (chapter 09): bridge modes, the winding short, protection, the sense chain, dead times, bridge supply and motor temperature. -/

namespace Sys2Proof.Machine

/-- The power stage changed. -/
def Dev.modDrive (f : Drive → Drive) (d : Dev) : Dev := { d with drive := f d.drive }

/-- One leg changed. -/
def Dev.modLeg (n : Nat) (f : Leg → Leg) (d : Dev) : Dev := d.modDrive fun p => { p with legs := modAt f n p.legs }

/-- The bridge of a leg: 0 leaf, 1 step A, 2 step B (R306). -/
def bridgeOf (leg : Nat) : Nat := if leg < 3 then 0 else if leg < 5 then 1 else 2

/-- The legs of a bridge. -/
def legsOf (bridge : Nat) : List Nat := if bridge = 0 then [0, 1, 2] else if bridge = 1 then [3, 4] else [5, 6]

/-- A bridge. -/
def Drive.bridge (p : Drive) (n : Nat) : Bridge := if n = 0 then p.leaf else if n = 1 then p.stepA else p.stepB

/-- A bridge changed. -/
def Dev.modBridge (n : Nat) (f : Bridge → Bridge) (d : Dev) : Dev :=
  d.modDrive fun p => if n = 0 then { p with leaf := f p.leaf } else if n = 1 then { p with stepA := f p.stepA } else { p with stepB := f p.stepB }

/-- A leg's state. -/
def Drive.leg (p : Drive) (n : Nat) : Leg := p.legs.getD n {}

/-! ### Carrier and limits (R307 to R312) -/

/-- The carrier period in ns. -/
def Dev.carrier (d : Dev) : Nat := if d.par P.DRV_PWM_FREQ = 1 then 25000 else 50000

/-- (1 − 2w) · period of R310, in ns. -/
def Dev.dutySpan (d : Dev) : Nat := d.carrier - 2 * (d.parN P.DRV_SENSE_WINDOW + 2 * d.parN P.DRV_DEAD_MAX)

/-- The largest magnitude of the leaf's voltage vector in mV: (1 − 2w) · VBUS_S / √3. -/
def Dev.leafVmax (d : Dev) : Nat := isqrt ((d.dutySpan * d.drive.vbus) ^ 2 / (3 * d.carrier ^ 2))

/-- The largest coil voltage in mV. -/
def Dev.coilVmax (d : Dev) : Nat := d.dutySpan * d.drive.vbus / d.carrier

/-- Full-scale current in mA for a gain code and a shunt in µΩ (R312). -/
def fullScale (gain shunt : Nat) : Nat := 1650000000 / (5 * 2 ^ gain * shunt)

/-- Full scale of the leaf channels. -/
def Dev.leafFs (d : Dev) : Nat := fullScale (d.parN P.DRV_LEAF_GAIN) (d.parN P.DRV_LEAF_SHUNT)

/-- Full scale of the step channels. -/
def Dev.stepFs (d : Dev) : Nat := fullScale (d.parN P.DRV_STEP_GAIN) (d.parN P.DRV_STEP_SHUNT)

/-! ### Faults (R315, R316, R320) -/

/-- The fault word of offset 16 of R328. -/
def Drive.faultWord (p : Drive) : Nat :=
  bitsOf (p.legs.flatMap fun l => [l.suspectHigh, l.suspectLow]) + 2 ^ 14 * bitsOf (p.legs.map (·.gateFault))
    + 2 ^ 21 * bitsOf [p.leaf.overCurrent, p.stepA.overCurrent, p.stepB.overCurrent, p.ntcFault]

/-- A fault latches on a bridge: every gate of it off, one more trip, the event (R320); a latched step bridge leaves the step's position unverified (R323). -/
def Dev.latchBridge (n : Nat) (d : Dev) : Dev :=
  let d := d.modBridge n fun b => { b with
    mode := 0, offSince := d.now, precharge := none, latched := true, trips := min 15 (b.trips + 1) }
  let d := if n = 0 then d else { d with step := { d.step with unverified := true } }
  (d.onset 82 2 n (u32 d.drive.faultWord ++ u8 (d.drive.bridge n).trips)).trigger 2 82

/-- The limiting of the winding short is suspended (R321). -/
def Drive.limitSuspended (p : Drive) : Bool := decide (155000 ≤ p.vbus)

/-- Every gate of the leaf bridge off for the rest of the carrier period (R321). -/
def Dev.limitShort (d : Dev) : Dev := if d.drive.limitSuspended then d else d.modDrive fun p => { p with leaf := { p.leaf with limited := true } }

/-- The limiting of a low-side short at a carrier valley: the last period's ends, and a leaf shunt beyond DRV_SHORT_I_LIMIT begins one (R321). -/
def Dev.judgeShort (d : Dev) : Dev :=
  let d := d.modDrive fun p => { p with leaf := { p.leaf with limited := false } }
  let big (c : Nat) : Bool := decide (d.parN P.DRV_SHORT_I_LIMIT < (d.drive.currents.getD c 0).natAbs)
  if d.drive.leaf.mode = 3 ∧ (big 0 ∨ big 1 ∨ big 2) then d.limitShort else d

/-- A drain-source monitor trips while its switch is on: the other side of the leg is the suspect (R320). In a high-side short a high-side monitor limits the short instead (R321). DEDUCED (log entry 45): it then latches nothing. -/
def Dev.vdsTrip (leg : Nat) (high : Bool) (d : Dev) : Dev :=
  let n := bridgeOf leg
  let l := d.drive.leg leg
  let known := if high then l.suspectLow else l.suspectHigh
  if 6 < leg ∨ (d.drive.bridge n).mode = 0 ∨ known then d
  else if high ∧ (d.drive.bridge n).mode = 4 then d.limitShort
  else (d.modLeg leg fun l => if high then { l with suspectLow := true } else { l with suspectHigh := true }).latchBridge n

/-- A gate does not follow its command: one that stays on makes its switch a suspect, one that stays off latches a gate fault of its leg (R315). -/
def Dev.gateFault (leg : Nat) (high stuckOn : Bool) (d : Dev) : Dev :=
  let n := bridgeOf leg
  let l := d.drive.leg leg
  if 6 < leg ∨ (d.drive.bridge n).mode = 0 then d
  else if stuckOn then
    if (if high then l.suspectHigh else l.suspectLow) then d
    else (d.modLeg leg fun l => if high then { l with suspectHigh := true } else { l with suspectLow := true }).latchBridge n
  else if l.gateFault then d
  else (d.modLeg leg fun l => { l with gateFault := true }).latchBridge n

/-- A shunt of a bridge reads beyond its over-current level (R320). -/
def Dev.overCurrent (n : Nat) (d : Dev) : Dev :=
  if (d.drive.bridge n).overCurrent then d else (d.modBridge n fun b => { b with overCurrent := true }).latchBridge n

/-- The latches and suspects of a bridge are cleared by a bridge check that passes (R324). -/
def Dev.clearBridge (n : Nat) (d : Dev) : Dev :=
  let word := d.drive.faultWord
  let free (l : Leg) : Leg := { l with suspectHigh := false, suspectLow := false, gateFault := false }
  let d := d.modDrive fun p => { p with legs := (numbered p.legs).map fun (i, l) => if bridgeOf i = n then free l else l }
  let d := d.modBridge n fun b => { b with latched := false, overCurrent := false }
  d.clearing 82 n (u32 word ++ u8 (d.drive.bridge n).trips)

/-- A bootstrap reading of a leg (R316): 8 carrier periods in succession below the falling level while its bridge modulates are reported. -/
def Dev.bootRead (leg mv : Nat) (d : Dev) : Dev :=
  let l := d.drive.leg leg
  let low := if mv < 8000 ∧ (d.drive.bridge (bridgeOf leg)).mode = 2 then l.bootLow + 1 else 0
  let d := d.modLeg leg fun l => { l with boot := mv, bootLow := low, bootGood := if 8500 ≤ mv then true else if mv < 8000 then false else l.bootGood }
  if 8500 ≤ mv then d.clearing 80 leg (u16 (satU 16 mv)) else if low = 8 then d.onset 80 1 leg (u16 (satU 16 mv)) else d

/-- The high-side switch of a leg is held off: its bootstrap has not risen through 8.5 V, or has fallen through 8.0 V (R316, R317). -/
def Drive.highHeld (p : Drive) (leg : Nat) : Bool := decide ((p.bridge (bridgeOf leg)).mode = 2) && !(p.leg leg).bootGood

/-- A leg's bootstrap has been low for 8 periods in succession (R316). -/
def Dev.bootstrapLow (leg mv : Nat) (d : Dev) : Dev :=
  if 6 < leg ∨ 8000 ≤ mv then d
  else (d.modLeg leg fun l => { l with boot := mv, bootLow := max 8 l.bootLow, bootGood := false }).onset 80 1 leg (u16 (satU 16 mv))

/-- Bootstrap readings of the legs from number `n` on. -/
def Dev.bootReads : Nat → List Nat → Dev → Dev
  | _, [], d => d
  | n, mv :: rest, d => bootReads (n + 1) rest (d.bootRead n mv)

/-! ### Bridge modes (R317, R321, R322) -/

/-- The short that the latched suspects allow: 3 low-side, 4 high-side, 0 none (R321). -/
def Drive.shortMode (p : Drive) : Nat :=
  let leaf := p.legs.take 3
  let high := leaf.any (·.suspectHigh)
  let low := leaf.any (·.suspectLow)
  if high && low then 0 else if high then 4 else 3

/-- Rows 1 to 7 of R322 for the leaf bridge. -/
def Dev.leafRow (d : Dev) : Nat :=
  if ¬ d.supply.vhv ∨ ¬ d.live ∨ ¬ d.supply.vdrv ∨ ¬ d.drive.enabled then 1
  else if d.bin.inhibit then 2
  else if d.drive.leaf.latched then 3
  else if d.drive.overVoltage then 4
  else if d.pilot.gatesOff then 5
  else if 4 ≤ d.supply.reef ∨ d.supply.reef = 3 ∧ d.leafMotion = 0 ∨ d.pilot.short ∧ d.pilot.dr ≠ 1 ∨ d.drive.shortHeld then 6
  else 7

/-- Every dead time of a bridge starts at DRV_DEAD_MAX (R319). -/
def Dev.startDead (n : Nat) (d : Dev) : Dev :=
  let m := d.parN P.DRV_DEAD_MAX
  d.modDrive fun p => { p with legs := (numbered p.legs).map fun (i, l) => if bridgeOf i = n then { l with rising := m, falling := m, limRising := 0, limFalling := 0 } else l }

/-- The high sides of a bridge that starts to modulate in motion stay off until their bootstraps have risen through 8.5 V (R317). -/
def Dev.holdHigh (n : Nat) (d : Dev) : Dev :=
  d.modDrive fun p => { p with legs := (numbered p.legs).map fun (i, l) => if bridgeOf i = n then { l with bootGood := decide (8500 ≤ l.boot) } else l }

/-- A bridge takes a mode; from all gates off to modulation at standstill it precharges its bootstraps first (R317). -/
def Dev.setBridge (n want : Nat) (moving : Bool) (d : Dev) : Dev :=
  let b := d.drive.bridge n
  if want = 2 then
    if b.mode = 2 ∨ b.mode = 1 then d
    else if b.mode = 0 ∧ ¬ moving then
      (d.startDead n).modBridge n fun b => { b with mode := 1, precharge := some (d.now + us 200) }
    else ((d.startDead n).holdHigh n).modBridge n fun b => { b with mode := 2, precharge := none }
  else if b.mode = want then d
  else d.modBridge n fun b => { b with mode := want, precharge := none, offSince := if want = 0 then d.now else b.offSince }

/-- A step bridge modulates unless rows 1 to 3 or an unfitted step take its gates off (R322). -/
def Dev.stepBridgeOn (n : Nat) (d : Dev) : Bool :=
  d.supply.vhv && d.live && d.supply.vdrv && d.drive.enabled && !d.bin.inhibit && !(d.drive.bridge n).latched && d.par P.SYS_STEP_FITTED = 1

/-- The bridges take their modes at a current sample (R322). A drive inhibit leaves a short behind that the sequencer ends. -/
def Dev.takeBridges (d : Dev) : Dev :=
  let row := d.leafRow
  let d := if row = 2 then d.modDrive fun p => { p with shortHeld := true } else d
  let want := if row = 1 ∨ row = 5 then 0 else if row = 7 then 2 else d.drive.shortMode
  let d := d.setBridge 0 want (d.axisMoving 0)
  let d := d.setBridge 1 (if d.stepBridgeOn 1 then 2 else 0) (d.axisMoving 1)
  d.setBridge 2 (if d.stepBridgeOn 2 then 2 else 0) (d.axisMoving 1)

/-- The precharge of a bridge ends (R317). -/
def Dev.prechargeEnd (n : Nat) (d : Dev) : Dev :=
  match (d.drive.bridge n).precharge with
  | some t => if n ≤ 2 ∧ t ≤ d.now then d.modBridge n fun b => { b with mode := 2, precharge := none } else d
  | none => d

/-- The leaf bridge modulates under row 7 (R243). -/
def Dev.modulating (d : Dev) : Bool := d.drive.leaf.mode = 2

/-! ### Sense offsets (R313) -/

/-- The bridge of a sense channel: U, V, W, A, B. -/
def channelBridge (c : Nat) : Nat := if c < 3 then 0 else c - 2

/-- A measured offset of a channel, reported beyond ±2 mV. -/
def Dev.offsetOf (c : Nat) (v : Int) (d : Dev) : Dev :=
  let d := d.modDrive fun p => { p with offsets := setAt c v p.offsets }
  if 2000 < v.natAbs then d.raise 79 1 c (i16 (satI 16 v)) else d

/-- Offsets are measured on every channel whose bridge has had all gates off for 10 ms, or on every channel at step 10. -/
def Dev.measureOffsets (always : Bool) : Nat → List Int → Dev → Dev
  | _, [], d => d
  | c, v :: vs, d =>
    let b := d.drive.bridge (channelBridge c)
    let due := always || (b.mode = 0 && decide (ms 10 ≤ d.now - b.offSince))
    measureOffsets always (c + 1) vs (if due ∧ c < 5 then d.offsetOf c v else d)

/-! ### Dead times (R319) -/

/-- The current out of a leg in the last sample, mA. -/
def Drive.legCurrent (p : Drive) (leg : Nat) : Int :=
  let i (c : Nat) : Int := p.currents.getD c 0
  if leg < 3 then i leg else if leg = 3 then i 3 else if leg = 4 then -(i 3) else if leg = 5 then i 4 else -(i 4)

/-- A measured delay, in 1/16 ns, goes through the filter; 64 in succession beyond the limit are reported. -/
def Dev.deadMeasure (leg : Nat) (edgeFalling : Bool) (m : Int) (d : Dev) : Dev :=
  let l := d.drive.leg leg
  let beyond := 16 * d.par P.DRV_DEAD_MAX < m + 16 * d.par P.DRV_DEAD_MARGIN
  let count := if beyond then (if edgeFalling then l.limFalling else l.limRising) + 1 else 0
  let d := d.modLeg leg fun l =>
    if edgeFalling then { l with fFalling := l.fFalling + truncDiv (m - l.fFalling) 16, limFalling := count }
    else { l with fRising := l.fRising + truncDiv (m - l.fRising) 16, limRising := count }
  if count = 64 then d.raise 81 1 leg (u8 (bit edgeFalling) ++ u16 (satU 16 (m / 16).toNat)) else d

/-- The measurements of a sample, each taken only on the edge on which the node swings by itself. -/
def Dev.deadMeasures : List (Nat × Int × Int) → Dev → Dev
  | [], d => d
  | (leg, rise, fall) :: rest, d =>
    let i := d.drive.legCurrent leg
    let d := if 6 < leg then d
      else if 500 ≤ i then d.deadMeasure leg true (16 * fall)
      else if i ≤ -500 then d.deadMeasure leg false (16 * rise) else d
    deadMeasures rest d

/-- A dead time one carrier period later: toward f + margin, rounded up to 5 ns and clamped, by at most 5 ns. -/
def trimDead (now : Nat) (f : Int) (margin lo hi : Nat) : Nat :=
  let want := (f + 16 * margin).toNat
  let want := (want + 79) / 80 * 5
  let want := if want < lo then lo else if hi < want then hi else want
  if now + 5 ≤ want then now + 5 else if want + 5 ≤ now then now - 5 else want

/-- The dead times of every leg at a carrier valley. -/
def Dev.trimDeads (d : Dev) : Dev :=
  let lo := d.parN P.DRV_DEAD_MIN
  let hi := d.parN P.DRV_DEAD_MAX
  let margin := d.parN P.DRV_DEAD_MARGIN
  if d.par P.DRV_DEAD_MODE = 0 then d.modDrive fun p => { p with legs := p.legs.map fun l => { l with rising := hi, falling := hi } }
  else d.modDrive fun p => { p with legs := (numbered p.legs).map fun (i, l) =>
    if (p.bridge (bridgeOf i)).mode = 2 then
      { l with rising := trimDead l.rising l.fRising margin lo hi, falling := trimDead l.falling l.fFalling margin lo hi }
    else l }

/-! ### Bridge supply and motor temperature (R325, R326) -/

/-- Over-voltage of the bridge supply. -/
def Dev.busOver (mv : Nat) (d : Dev) : Dev :=
  if d.parN P.DRV_VBUS_OV ≤ mv ∧ ¬ d.drive.overVoltage ∧ d.live then
    (d.modDrive fun p => { p with vbus := mv, overVoltage := true }).onset 83 2 0xFF (u32 mv)
  else d

/-- The over-voltage ends. -/
def Dev.busOverEnd (mv : Nat) (d : Dev) : Dev :=
  if d.drive.overVoltage ∧ mv + d.parN P.DRV_VBUS_HYST < d.parN P.DRV_VBUS_OV then
    (d.modDrive fun p => { p with vbus := mv, overVoltage := false }).clearing 83 0xFF (u32 mv)
  else d

/-- The motor temperature at a speed sample: the reading, its validity and the two levels (R326). -/
def Dev.motorTemp (mv : Nat) (d : Dev) : Dev :=
  let bad := 2950 < mv ∨ mv < 30
  let temp := if bad then d.drive.motorTemp else ntcTemp mv (d.parN P.DRV_NTC_R25) (d.parN P.DRV_NTC_BETA)
  let held (was : Bool) (level : Int) : Bool := decide (level ≤ temp) || (was && decide (level - 50 < temp))
  let warm := held d.drive.motorWarm (d.par P.DRV_MOTOR_T_WARN)
  let hot := held d.drive.motorHot (d.par P.DRV_MOTOR_T_MAX)
  let d := d.modDrive fun p => { p with motorTemp := temp, motorWarm := warm, motorHot := hot, ntcFault := decide bad }
  let d := { d with pilot := { d.pilot with temp := temp } }
  let data := i16 (satI 16 temp)
  ((d.follow 84 1 0xFF warm data).follow 85 2 0xFF hot data).follow 86 2 0xFF (decide bad) (u16 (satU 16 mv))

/-- PILOT_I_MAX in force: halved when the motor is hot or its NTC fails (R326). -/
def Dev.iMax (d : Dev) : Int :=
  let m := d.par P.PILOT_I_MAX
  if d.drive.motorHot ∨ d.drive.ntcFault then m / 2 else m

/-- The clamp of the q reference in the braking quadrant, where the regeneration clamp acts (R325). -/
def Dev.regenLimit (d : Dev) (iq v : Int) : Option Int :=
  let v0 := d.par P.DRV_VBUS_REGEN_START
  let v1 := d.par P.DRV_VBUS_OV
  let vb : Int := d.drive.vbus
  if v0 ≤ vb ∧ vb < v1 ∧ (iq < 0 ∧ 0 < v ∨ 0 < iq ∧ v < 0) then some (truncDiv (d.iMax * (v1 - vb)) (v1 - v0)) else none

/-! ### Status (R328) -/

/-- The reply data of DRIVE_STATUS. -/
def Dev.driveStatus (d : Dev) : List Byte :=
  let p := d.drive
  let step := max (min 2 p.stepA.mode) (min 2 p.stepB.mode)
  u8 p.leaf.mode ++ u8 step
    ++ u8 (bitsOf [d.bin.inhibit, d.supply.vdrv, p.regenClamp, p.overVoltage, p.limitSuspended, d.par P.DRV_PWM_FREQ = 1, d.par P.DRV_DEAD_MODE = 1])
    ++ u32 p.vbus ++ u32 d.supply.vdrvMv ++ i16 (satI 16 (d.supply.dieTemp.getD 1 0)) ++ i16 (satI 16 p.motorTemp) ++ u32 p.faultWord
    ++ u8 (p.leaf.trips + 16 * min 15 (p.stepA.trips + p.stepB.trips)) ++ u8 0
    ++ (p.legs.flatMap fun l => u16 l.rising ++ u16 l.falling) ++ (p.legs.flatMap fun l => u16 (satU 16 l.boot))
    ++ (p.offsets.flatMap fun v => i16 (satI 16 v)) ++ u16 0

end Sys2Proof.Machine
end

