-- ==== Sys2Proof/Machine/SextantOps.lean ====
section
/-! DEFINITION. Sextant (chapter 08): Hall states, the position counter, speed, interpolated position and angle, the REFSW index, compare units and the pass-through; with the loss of feedback and of the leader, which its codes report (R38, R248). -/

namespace Sys2Proof.Machine

/-- Sextant changed. -/
def Dev.modSext (f : Sextant → Sextant) (d : Dev) : Dev := { d with sext := f d.sext }

/-- Pilot changed. -/
def Dev.modPilot (f : Pilot → Pilot) (d : Dev) : Dev := { d with pilot := f d.pilot }

/-- The leaf axis of the planner changed. -/
def Dev.modLeaf (f : LeafPlan → LeafPlan) (d : Dev) : Dev := { d with leaf := f d.leaf }

/-- The step axis of the planner changed. -/
def Dev.modStep (f : StepPlan → StepPlan) (d : Dev) : Dev := { d with step := f d.step }

/-- The sequencer changed. -/
def Dev.modDoor (f : Door → Door) (d : Dev) : Dev := { d with door := f d.door }

/-! ### Losses -/

/-- The reference becomes lost from established: 1 outside window, 2 frozen, 3 feedback lost, 4 feedback group committed (R294). -/
def Dev.refLost (cause : Nat) (um : Int) (d : Dev) : Dev :=
  if d.sext.ref ≠ 1 then d
  else
    let d := (d.modSext fun s => { s with ref := 2 }).onset 75 2 0xFF (u8 cause ++ i32 (satI 32 um))
    (d.trigger 3 75).recFlag 11

/-- The leaf moves toward the datum, by its order or by its measured speed. -/
def Dev.leafCloses (d : Dev) : Bool := d.leafMotion = 2 || (d.leafMotion = 0 && d.axisMoving 0 && !d.sext.opening)

/-- Feedback is lost: 1 edge overdue, 2 illegal code, 3 W3, 4 frozen. Pilot acts by the situation of the leaf (R246, R248). -/
def Dev.lostFeedback (cause : Nat) (d : Dev) : Dev :=
  if d.pilot.feedbackLost ∨ ¬ d.live then d
  else
    let window := if cause = 3 then 2 else 3
    let d := d.modPilot fun p => { p with feedbackLost := true, lostCause := cause, goodEdges := 0, wFailed := setAt window true p.wFailed }
    let d := ((d.onset 65 2 0xFF (u8 cause)).trigger 1 65).refLost 3 0
    if d.pilot.forceFault then d.modPilot fun p => { p with short := true, dr := if p.dr = 1 then 2 else p.dr }
    else if d.pilot.leafMode.mode ≠ 0 then
      d.modPilot fun p => { p with gatesOff := true, leafMode := { p.leafMode with want := 0, point := 0 } }
    else if d.leafCloses then
      (d.modPilot fun p => { p with dr := 1, drEnding := false, drStart := d.now, validity := max 1 p.validity, stopSince := none, endStop := false }).recFlag 9
    else if d.axisMoving 0 ∨ d.leafMotion = 1 then d.modPilot fun p => { p with shortAfterStop := true }
    else d.modPilot fun p => { p with short := true }

/-- The leader is lost to a geared follower: 1 edge overdue, 2 illegal code, 3 leader wait expired (R38, R301, R545). -/
def Dev.leaderLost (reason : Nat) (d : Dev) : Dev :=
  if ¬ d.leaf.gearing ∨ d.leaf.leaderLost then d
  else (d.modLeaf fun l => { l with leaderLost := true }).onset 43 2 0xFF (u8 reason)

/-! ### The counter (R278 to R282) -/

/-- The soft limits in sub-edges. -/
def Dev.softLow (d : Dev) : Int := d.subOfUm (d.par P.SEXT_SOFT_LOW)

/-- High soft limit. -/
def Dev.softHigh (d : Dev) : Int := d.subOfUm (d.par P.SEXT_SOFT_HIGH)

/-- The counter is held to the soft limits: not with an unknown reference, not while the leaf homes or seeks (R280). -/
def Dev.softHeld (d : Dev) : Bool := d.sext.ref ≠ 0 && d.leaf.mode ≠ 5 && !d.door.seeking

/-- The overrun has passed SEXT_LIMIT_OVERRUN: the feedback counts as frozen (R281). -/
def Dev.judgeFrozen (d : Dev) : Dev :=
  let s := d.sext
  if d.par P.SEXT_LIMIT_OVERRUN < s.overrun.natAbs ∧ ¬ s.frozen then
    let d := (d.modSext fun s => { s with frozen := true }).onset 72 2 0xFF (i16 (satI 16 s.overrun))
    (d.refLost 2 0).lostFeedback 4
  else if s.overrun = 0 then
    let d := (d.clearing 71 0 (u8 (if s.opening then 1 else 2))).clearing 71 1 (u8 (if s.opening then 1 else 2))
    if s.frozen then (d.modSext fun s => { s with frozen := false }).clearing 72 0xFF (i16 0) else d
  else d

/-- One counted edge moves the counter by 256 sub-edges, subject to the soft limits. -/
def Dev.moveCounter (opening : Bool) (d : Dev) : Dev :=
  let s := d.sext
  let step : Int := if opening then 1 else -1
  if ¬ d.softHeld then d.modSext fun s => { s with counter := satI 32 (s.counter + 256 * step) }
  else if s.overrun ≠ 0 then (d.modSext fun s => { s with overrun := satI 16 (s.overrun + step) }).judgeFrozen
  else
    let next := s.counter + 256 * step
    if d.softHigh < next then
      ((d.modSext fun s => { s with counter := d.softHigh, overrun := 1 }).onset 71 1 1 (u8 (if opening then 1 else 2))).judgeFrozen
    else if next < d.softLow then
      ((d.modSext fun s => { s with counter := d.softLow, overrun := -1 }).onset 71 1 0 (u8 (if opening then 1 else 2))).judgeFrozen
    else d.modSext fun s => { s with counter := next }

/-! ### Hall states, direction and speed (R276, R277, R283, R284) -/

/-- The last counted edge was a closing one: a resynchronisation does not change it (R287, R290). -/
def Sextant.lastCloses (s : Sextant) : Bool := !s.edgeTimes.isEmpty && !s.opening

/-- The electrical angle a travel, in 1/256 sub-edge, beyond the last counted edge (R287). -/
def Dev.angleAt (travel : Int) (d : Dev) : Nat :=
  let f := if d.sext.lastCloses then travel + 65536 else travel
  let f := (clampI 0 65535 f).toNat
  (d.parN P.SEXT_ANGLE_OFFSET + (d.sext.sector.getD 0 * 65536 + f) / 6) % 65536

/-- A current loop of the leaf is closed (R245): the bridge modulates and the axis is not in manual voltage. -/
def Dev.loopClosed (d : Dev) : Bool := d.live && d.modulating && decide (d.pilot.leafMode.mode ≠ 2)

/-- A legal edge that returns while feedback is lost: after 20 in succession that agree with the observer, feedback is restored (R252). The manual gives no measure of agreement; the model takes one Hall edge. -/
def Dev.goodEdge (d : Dev) : Dev :=
  let p := d.pilot
  if ¬ p.feedbackLost then
    d.modPilot fun p => { p with pObs := 16777216 * d.sext.counter, angObs := 65536 * d.angleAt 0 }
  else
    let agrees := (16777216 * d.sext.counter - p.pObs).natAbs ≤ 256 * 16777216
    let n := if agrees then p.goodEdges + 1 else 0
    if 20 ≤ n then
      let d := d.modPilot fun p => { p with
        feedbackLost := false, lostCause := 0, goodEdges := 0, wFailed := setAt 2 false (setAt 3 false p.wFailed) }
      (d.endStanding 65 0xFF).raise 67 0 0xFF []
    else d.modPilot fun p => { p with goodEdges := n }

/-- An illegal code is counted and reported; Pilot counts it under W4 (R245, R276). -/
def Dev.hallIllegal (n code : Nat) (d : Dev) : Dev :=
  let d := (d.modSext fun s => { s with illegalCount := satU 16 (s.illegalCount + 1) }).raise 70 1 0xFF (u8 n ++ u8 code)
  let d := d.modPilot fun p => { p with goodEdges := 0 }
  if d.loopClosed then d.lostFeedback 2 else d

/-- Speed over m intervals of some ticks, in 1/65,536 sub-edge per ms. -/
def edgeSpeed (m ticks : Nat) : Nat := if ticks = 0 then 2 ^ 31 - 1 else min (2 ^ 31 - 1) (m * 1677721600000 / ticks)

/-- The Chronometer stamp of a filtered Hall change as it becomes known: the first of the SEXT_HALL_FILTER_N samples at the new level, 100 ns apart (R273). -/
def Dev.hallStamp (d : Dev) : Nat := d.chron.time - 10 * (d.parN P.SEXT_HALL_FILTER_N - 1)

/-- A counted edge of a direction (R283, R288). A too short interval counts as illegal code 3 and as a change of direction. DESIGN CHOICE (log entry 61): an interval that a step of the Chronometer has made 0 or negative has no speed under R283; it counts as a change of direction and as no illegal code. -/
def Dev.countEdge (opening : Bool) (code sector : Nat) (d : Dev) : Dev :=
  let s := d.sext
  let stamp := d.hallStamp
  let gap : Int := match s.edgeTimes.head? with
    | some t => (stamp : Int) - t
    | none => 0
  let same := s.lastDir = some opening && decide (0 < gap)
  let short := same && decide (gap * d.parN P.SEXT_SPEED_MAX < d.parN P.SEXT_UM_PER_EDGE * 100000000)
  let turn := !same || short
  let d := d.modSext fun s => { s with code := code, sector := some sector, lastDir := some opening, opening := opening, timedOut := false }
  let d := d.moveCounter opening
  let times := (stamp :: s.edgeTimes).take 7
  let intervals := if turn then 0 else s.intervals + 1
  let m := min (d.parN P.SEXT_SPEED_EDGES) intervals
  let speed := if turn then 0 else edgeSpeed m (stamp - times.getD m stamp)
  let d := d.modSext fun s => { s with edgeTimes := times, edgeKnown := d.now, intervals := intervals, speed := speed, speedValid := !turn }
  let l : EdgeLatch := { counter := d.sext.counter, time := stamp, speed := speed, valid := !turn, opening := opening, code := code }
  let d := d.modSext fun s => { s with latch := l }
  if short then d.hallIllegal 3 code else d.goodEdge

/-- A filtered Hall code change (R276). The time of the row is the time at which the change is known; HOU, HOV and HOW follow it (R300). -/
def Dev.hallChange (code : Nat) (d : Dev) : Dev :=
  let s := d.sext
  if code = s.code ∨ 7 < code then d
  else
    let d := d.modSext fun s => { s with hallOut := s.hallOut.map fun _ => code }
    match hallSector code with
    | none => (d.modSext fun s => { s with code := code, illegal := true, speedValid := false, lastDir := none }).hallIllegal 1 code
    | some sector =>
      let resync (d : Dev) : Dev := d.modSext fun s => { s with code := code, sector := some sector, illegal := false, lastDir := none }
      if s.illegal then resync d
      else match s.sector with
        | none => resync d
        | some old =>
          let step := (sector + 6 - old) % 6
          let up := d.par P.SEXT_HALL_SENSE = 0
          if step = 1 then d.countEdge up code sector
          else if step = 5 then d.countEdge (!up) code sector
          else (resync d).hallIllegal 2 code

/-- The bound of R284 applied to the speed in force. -/
def Dev.decaySpeed (d : Dev) : Dev :=
  if d.sext.illegal then d else
    let v := d.speedNow
    d.modSext fun s => { s with speed := v }

/-- SEXT_SPEED_TIMEOUT without a counted edge: the speed is 0 (R284). -/
def Dev.speedTimeout (d : Dev) : Dev :=
  if ¬ d.sext.edgeTimes.isEmpty ∧ ms (d.parN P.SEXT_SPEED_TIMEOUT) ≤ d.now - d.sext.edgeKnown ∧ ¬ d.sext.illegal then
    d.modSext fun s => { s with speed := 0, timedOut := true }
  else d

/-! ### Compare units (R296 to R299) -/

/-- The sign of the compare position minus a position. -/
def CompareUnit.sideOf (u : CompareUnit) (p : Int) : Int :=
  let x := 256 * u.position - p
  if x < 0 then -1 else if 0 < x then 1 else 0

/-- The side taken again, by a correction or after a crossing that the filter excludes. A position that lies on the compare position then has side 2: it fires nothing, and the side is taken once the leaf has left it (R297 to R299). -/
def CompareUnit.sideAgain (u : CompareUnit) (p : Int) : Int := if u.sideOf p = 0 then 2 else u.sideOf p

/-- The direction in which the leaf moves: of its commanded speed, else of its measured one (R17). -/
def Dev.leafOpens (d : Dev) : Bool := if d.leaf.sp.v ≠ 0 then 0 < d.leaf.sp.v else d.sext.opening

/-- The compare position lies behind the moving leaf (R298). -/
def Dev.armedBehind (u : CompareUnit) (d : Dev) : Bool :=
  let side := u.sideOf d.sext.pInt
  d.axisMoving 0 && (if d.leafOpens then decide (side < 0) else decide (0 < side))

/-- The side and the flag of an armed unit are taken again (R298). -/
def Dev.retake (u : CompareUnit) (d : Dev) : CompareUnit :=
  if u.armed then { u with side := u.sideAgain d.sext.pInt, behind := d.armedBehind u } else u

/-- One unit at a current sample, between the sample before and this one (R296, R297). -/
def Dev.compareUnit (n : Nat) (p0 : Int) (t0 : Nat) (d : Dev) : Dev :=
  let u := d.sext.units.getD n {}
  let p1 := d.sext.pInt
  let at0 := 256 * u.position
  let crossed := u.armed && (if u.side = 0 then true else if 0 < u.side then decide (at0 ≤ p1) else decide (p1 ≤ at0))
  let put (v : CompareUnit) (d : Dev) : Dev := d.modSext fun s => { s with units := setAt n v s.units }
  if u.armed ∧ u.side = 2 then put { u with side := u.sideAgain p1 } d
  else if ¬ crossed then d
  else
    let opening := if u.side = 0 then d.sext.opening else decide (0 < u.side)
    let admitted := u.side = 0 || u.filter = 0 || (u.filter = 1 && opening) || (u.filter = 2 && !opening)
    if ¬ admitted then put { u with side := u.sideAgain p1 } d
    else
      let t1 := d.chron.time
      let time := if p1 = p0 then t1 else ((t0 : Int) + truncDiv ((at0 - p0) * ((t1 : Int) - t0)) (p1 - p0)).toNat
      let u := { u with armed := false, behind := false, fired := true }
      let u := if u.action = 2 then { u with latched := true, fireTime := time, firePos := u.position } else u
      (put u d).raise 77 0 n (u8 (if opening then 1 else 2) ++ i32 (satI 32 (d.umOfSub u.position)) ++ u64 time)

/-- All units at a current sample. -/
def Dev.compareAll (p0 : Int) (t0 : Nat) : List Nat → Dev → Dev
  | [], d => d
  | n :: ns, d => compareAll p0 t0 ns (d.compareUnit n p0 t0)

/-- COMPARE_ARM takes effect; the reply byte of R302. -/
def Dev.compareArm (n action filter : Nat) (um : Int) (d : Dev) : Nat × Dev :=
  let old := d.sext.units.getD n {}
  let u : CompareUnit := { armed := action ≠ 0, position := d.subOfUm um, action := action, filter := filter }
  let u := if u.armed then { u with side := u.sideOf d.sext.pInt, behind := d.armedBehind u } else u
  let hit := u.armed && u.side = 0
  (bitsOf [u.behind, hit, old.armed], d.modSext fun s => { s with units := setAt n u s.units })

/-- Sextant at a current sample: speed bound, interpolated position, angle and compare units (R284 to R287). -/
def Dev.sextSample (d : Dev) : Dev :=
  let d := d.decaySpeed
  let p0 := d.sext.pInt
  let t0 := d.sext.pIntTime
  let p := d.posNow
  let travel := p - 256 * d.sext.counter
  let angle := d.angleAt travel
  let d := d.modSext fun s => { s with pInt := p, pIntTime := d.chron.time, angle := angle }
  Dev.compareAll p0 t0 (List.range 4) d

/-! ### The index (R290 to R294) -/

/-- A correction of the counter: everything that holds a position moves with it (R292). Where the moved set-point would pass the target it is held there. -/
def Dev.correctBy (c : Int) (d : Dev) : Dev :=
  let d := d.modSext fun s => { s with
    counter := s.counter + c, overrun := 0, pInt := s.pInt + 256 * c, latch := { s.latch with counter := s.latch.counter + c }
    lastCorrection := c, correction := none }
  let d := d.modPilot fun p => { p with pObs := p.pObs + 16777216 * c }
  let shift := roundDiv (c * d.parN P.SEXT_UM_PER_EDGE * 1048576) 256
  let hold (m : Motion) : Motion :=
    let p := m.p + shift
    let target := d.leaf.target
    if d.leaf.phases.isEmpty then { m with p := p }
    else if d.leaf.opening then { m with p := min p target } else { m with p := max p target }
  let d := d.modLeaf fun l => { l with sp := hold l.sp, base := hold l.base }
  let units := d.sext.units.map fun u => d.retake u
  (d.modSext fun s => { s with units := units }).judgeFrozen

/-- A learning sample moved by `n` entries and `c` sub-edges (R293). -/
def LearnSample.shift (n c : Int) (s : LearnSample) : LearnSample := { s with entry := s.entry + n, pos := s.pos + c }

/-- The learning samples of the move follow a window correction of `c` sub-edges, by `n` friction entries; those outside the table are dropped (R293). -/
def Dev.shiftSamples (n c : Int) (d : Dev) : Dev :=
  let keep (s : LearnSample) : Bool := decide (0 ≤ s.entry) && decide (s.entry ≤ 2047)
  d.modPilot fun p => { p with learnMove := (p.learnMove.map (LearnSample.shift n c)).filter keep }

/-- The row of R290 that an assertion of REFSW fails, 0 for none. A pair that stands latched under R443 became asserted with a discrepancy fault. -/
def Dev.indexFails (d : Dev) : Nat :=
  if ¬ d.sext.lastCloses then 1
  else if d.sext.illegal ∨ d.pilot.dr = 1 ∨ d.pilot.feedbackLost then 2
  else if ¬ d.made 7 then 3
  else if d.sext.indexUsed then 4
  else 0

/-- A stable assertion of REFSW at a Q23.8 position (R290, R291, R294). -/
def Dev.indexEdge (pRef : Int) (d : Dev) : Dev :=
  let row := d.indexFails
  if row ≠ 0 then
    (d.modSext fun s => { s with unexpectedCount := satU 16 (s.unexpectedCount + 1) }).raise 73 1 0xFF (u8 row)
  else
    let c := -(roundDiv pRef 256)
    let um := d.umOfSub c
    let d := d.modSext fun s => { s with indexUsed := true }
    if d.sext.ref = 1 then
      if pRef.natAbs ≤ 131072 then
        d.modSext fun s => { s with correction := some c, silentCount := satU 16 (s.silentCount + 1) }
      else if pRef.natAbs ≤ 65536 * d.parN P.SEXT_INDEX_WINDOW then
        let n := roundDiv (-pRef) (256 * 2 ^ d.parN P.PILOT_FRIC_SHIFT)
        let d := d.modSext fun s => { s with correction := some c, shift := some n, windowCount := satU 16 (s.windowCount + 1) }
        (d.raise 74 1 0xFF (i32 (satI 32 um))).recFlag 10
      else d.refLost 1 (d.umOfFine pRef)
    else
      let lost := d.sext.ref = 2
      let d := d.modSext fun s => { s with ref := 1, correction := some c }
      if lost then (d.endStanding 75 0xFF).raise 76 0 0xFF (i32 (satI 32 um)) else d

/-- The correction that waits is applied at a position sample, with the samples learned up to it (R292, R293). -/
def Dev.applyCorrection (d : Dev) : Dev := match d.sext.correction with
  | some c =>
    let d := match d.sext.shift with
      | some n => (d.shiftSamples n c).modSext fun s => { s with shift := none }
      | none => d
    d.correctBy c
  | none => d

/-- REFSW at a tick: an assertion of both channels begins at the first sample of the earlier one (R221, R290). -/
def Dev.tickRefsw (d : Dev) : Dev :=
  match d.pairOf 7 with
  | none => d.modStep fun s => { s with refsw := { s.refsw with level := false, stable := false } }
  | some p =>
    let level := d.sinLevel (2 * p) && d.sinLevel (2 * p + 1)
    if level = d.step.refsw.level then d
    else
      let a := d.bin.channel (2 * p)
      let b := d.bin.channel (2 * p + 1)
      let first := if a.firstAt ≤ b.firstAt then a else b
      d.modStep fun s => { s with refsw := { level := level, since := first.firstAt, pos := first.firstPos, stable := false } }

/-- The classification of R181, row 3, sets the datum at the present position, whatever the reference was; a lost one is established again (R279, R294). -/
def Dev.setDatum (d : Dev) : Dev :=
  let lost := d.sext.ref = 2
  let um := d.umOfSub (-d.sext.counter)
  let d := (d.correctBy (-d.sext.counter)).modSext fun s => { s with ref := 1, counter := 0 }
  if lost then (d.endStanding 75 0xFF).raise 76 0 0xFF (i32 (satI 32 um)) else d

/-- A committed change of the feedback group (R294). -/
def Dev.feedbackChanged (d : Dev) : Dev := d.refLost 4 0

/-- A committed change of the soft limits sets the counter to the nearer limit (R282). -/
def Dev.softChanged (d : Dev) : Dev :=
  if ¬ d.softHeld then d
  else
    let c := d.sext.counter
    let held := clampI d.softLow d.softHigh c
    let excess := truncDiv (c - held) 256
    if held = c then d
    else (d.modSext fun s => { s with counter := held, overrun := satI 16 excess }).judgeFrozen

/-! ### Pass-through (R300, R301) -/

/-- An edge of the pass-through counter (R300): counted, and an illegal code as well where it follows the last edge of its direction too fast (class 3 of R276). -/
def Dev.passEdge (opening : Bool) (code : Nat) (d : Dev) : Dev :=
  let s := d.sext
  let t := d.modSext fun s => { s with ptCounter := satI 32 (s.ptCounter + (if opening then 256 else -256)), ptTime := d.now, ptDir := some opening }
  if s.ptDir = some opening ∧ (d.now - s.ptTime) * d.parN P.SEXT_SPEED_MAX < d.parN P.SEXT_UM_PER_EDGE * 100000000 then
    (t.raise 78 1 0xFF (u8 code)).leaderLost 2
  else t

/-- A filtered pass-through code in the follower role. -/
def Dev.passThrough (code : Nat) (d : Dev) : Dev :=
  let s := d.sext
  if d.par P.SYS_DRIVE_ROLE ≠ 2 ∨ code = s.ptCode ∨ 7 < code then d
  else
    let bad (d : Dev) : Dev := (d.raise 78 1 0xFF (u8 code)).leaderLost 2
    match hallSector code with
    | none => bad (d.modSext fun s => { s with ptCode := code, ptSector := none, ptDir := none })
    | some sector =>
      let d := d.modSext fun s => { s with ptCode := code, ptSector := some sector }
      match s.ptSector with
      | none => d
      | some old =>
        let step := (sector + 6 - old) % 6
        let up := decide (d.par P.SEXT_PT_SENSE = 0)
        if step = 1 then d.passEdge up code
        else if step = 5 then d.passEdge (!up) code
        else bad (d.modSext fun s => { s with ptDir := none })

/-- The pass-through counter is preset where gearing begins (R301). -/
def Dev.presetPassThrough (d : Dev) : Dev :=
  d.modSext fun s => { s with ptCounter := roundDiv (s.pInt * 65536) (256 * d.parN P.PLAN_FOLLOW_RATIO), ptTime := d.now }

/-- The leader's scaled position in µm (R212). -/
def Dev.leaderPos (d : Dev) : Int := roundDiv (d.sext.ptCounter * d.parN P.PLAN_FOLLOW_RATIO * d.parN P.SEXT_UM_PER_EDGE) (256 * 65536)

/-! ### LATCH_READ (R303) -/

/-- One compare unit of LATCH_READ. -/
def Dev.unitRecord (d : Dev) (u : CompareUnit) : List Byte :=
  u8 (bitsOf [u.armed, u.behind, u.fired, u.latched] + 16 * u.filter) ++ u8 u.action ++ u16 0 ++ i32 (satI 32 (d.umOfSub u.position))
    ++ u64 u.fireTime ++ i32 (satI 32 (d.umOfSub u.firePos))

/-- The reply data of LATCH_READ. -/
def Dev.latchRead (d : Dev) : List Byte :=
  let s := d.sext
  let l := s.latch
  let v := d.umsOfSpeed l.speed
  u8 s.ref ++ u8 (s.code + 8 * bitsOf [s.illegal, s.overrun < 0, 0 < s.overrun, s.frozen, s.speedValid])
    ++ u8 (if s.edgeTimes.isEmpty then 0 else if s.opening then 1 else 2) ++ i32 (satI 32 (d.umOfSub l.counter)) ++ u64 l.time
    ++ i32 (satI 32 (if l.opening then v else -v)) ++ i32 (satI 32 s.pInt) ++ u64 s.pIntTime ++ u16 s.silentCount ++ u16 s.windowCount
    ++ u16 s.illegalCount ++ i16 (satI 16 s.overrun) ++ i32 (satI 32 (d.umOfSub s.lastCorrection))
    ++ i32 (if d.par P.SYS_DRIVE_ROLE = 2 then s.ptCounter else 0) ++ s.units.flatMap fun u => d.unitRecord u

end Sys2Proof.Machine
end

