-- ==== Sys2Proof/Machine/PilotOps.lean ====
section
/-! DEFINITION. Pilot (chapter 07): second-order sections, loops, saturation, the motor model and force estimate, the plausibility windows, dead reckoning, tables and learning, manual modes, transfer and test signals. -/

namespace Sys2Proof.Machine

/-! ### Second-order sections (R233 to R235, R238) -/

/-- The set of coefficients that a loop uses: 0 POS, 1 SPD, 2 CUR, 3 STEP (R230, R270). -/
def loopSet (n : Nat) : Nat := if n ≤ 1 then n else if n ≤ 3 then 2 else 3

/-- A field of a loop group (R270). -/
def Dev.loopPar (d : Dev) (n field : Nat) : Int := d.par (0x0420 + 6 * loopSet n + field)

/-- A field of section `k` of a loop (R271). -/
def Dev.secPar (d : Dev) (n k field : Nat) : Int := d.par (0x0440 + 48 * loopSet n + 6 * (k - 1) + field)

/-- The shift of a coefficient. -/
def Dev.secShift (d : Dev) (n k field : Nat) : Nat := bitsAt (d.secPar n k 5).toNat (4 * field + 3) (4 * field)

/-- A coefficient of b0, b1, b2, a1, a2 times 2³¹: mantissa times 2^shift (R233). -/
def Dev.coef (d : Dev) (n k field : Nat) : Int := d.secPar n k field * 2 ^ d.secShift n k field

/-- The accumulator of a section (R234). -/
def Dev.secAcc (d : Dev) (n k : Nat) (x : Int) (s : Section) : Int :=
  d.coef n k 0 * x + d.coef n k 1 * s.x1 + d.coef n k 2 * s.x2 - d.coef n k 3 * s.y1 - d.coef n k 4 * s.y2

/-- What a loop has come to while its sections run. -/
structure LoopRun where
  /-- The signal between the sections. -/
  x : Int
  done : List Section := []
  /-- Values before any injection at points 1 to 8. -/
  points : List Int := []
  sat : Bool := false
  intLimit : Bool := false
  frozen : Bool := false
  injectSat : Bool := false

/-- A sum that saturates at 32 bits, and whether it did. -/
def addSat (a b : Int) : Int × Bool := (satI 32 (a + b), decide (satI 32 (a + b) ≠ a + b))

/-- One section: its output is rounded and saturated; the integrating section holds (R234, R238). `hold` holds it whatever it computes (R325). -/
def Dev.runSection (d : Dev) (n k : Nat) (l : Loop) (hold : Bool) (add : Int) (r : LoopRun) : LoopRun :=
  let s := l.sections.getD (k - 1) {}
  let (x, ovf) := addSat r.x add
  let acc := d.secAcc n k x s
  let full := shrI (acc + 2 ^ 30) 31
  let y := satI 32 full
  let integ := decide (d.loopPar n 1 = k)
  let lim := d.loopPar n 2
  let held := integ && (hold || (l.satHigh && decide (s.y1 < y)) || (l.satLow && decide (y < s.y1)))
  let y := if held then s.y1 else y
  let z := if integ then clampI (-lim) lim y else y
  { x := z
    done := r.done ++ [{ x1 := x, x2 := s.x1, y1 := z, y2 := s.y1 }]
    points := r.points ++ [r.x]
    sat := r.sat || decide (full ≠ satI 32 full)
    intLimit := r.intLimit || decide (z ≠ y)
    frozen := r.frozen || held
    injectSat := r.injectSat || ovf }

/-- The sections `k` and on, `todo` of them. -/
def Dev.runSections (d : Dev) (n : Nat) (l : Loop) (hold : Bool) (add : Nat → Int) : Nat → Nat → LoopRun → LoopRun
  | 0, _, r => r
  | todo + 1, k, r => runSections d n l hold add todo (k + 1) (d.runSection n k l hold (add k) r)

/-! ### Flags (R240, R241) -/

/-- Flags of an axis at a sample: the bits of `mask` are those that the sample decides, `set` those that it sets. -/
def AxisFlags.put (mask set now : Nat) (f : AxisFlags) : AxisFlags :=
  let new := set - (set &&& f.sticky)
  { sticky := f.sticky ||| set
    present := (f.present - (f.present &&& mask)) ||| set
    firstSet := if f.firstSet = 0 ∧ new ≠ 0 then now else f.firstSet }

/-- Flags put on the leaf axis. -/
def Dev.leafFlag (mask set : Nat) (d : Dev) : Dev :=
  d.modPilot fun p => { p with leafFlags := p.leafFlags.put mask set d.chron.time }

/-- Flags put on the step axis: bits 6, 7, 8 and 16 alone. -/
def Dev.stepFlag (mask set : Nat) (d : Dev) : Dev :=
  d.modPilot fun p => { p with stepFlags := p.stepFlags.put mask (set &&& 0x101C0) d.chron.time }

/-- A set of flag bits. -/
def flagBits (l : List (Bool × Nat)) : Nat := l.foldl (fun v b => if b.1 then v ||| 2 ^ b.2 else v) 0

/-- PILOT_FLAGS_CLEAR (R241): the first-set time starts anew. -/
def AxisFlags.clear (mask : Nat) (f : AxisFlags) : AxisFlags := { f with sticky := f.sticky - (f.sticky &&& mask), firstSet := 0 }

/-! ### Test signals (R262 to R264) -/

/-- Sample period of a loop in µs. -/
def loopPeriod (n : Nat) : Nat := if n = 0 then 500 else if n = 1 then 125 else 25

/-- Taps of the PRBS register by its length. -/
def prbsTaps (n : Nat) : List Nat :=
  [[7, 6], [8, 6, 5, 4], [9, 5], [10, 7], [11, 9], [12, 6, 4, 1], [13, 4, 3, 1], [14, 5, 3, 1], [15, 14]].getD (n - 7) []

/-- One shift of the register of n bits; bit i of the manual is bit i − 1 here. -/
def prbsShift (n r : Nat) : Nat :=
  let fb := (prbsTaps n).foldl (fun v t => v ^^ bitAt r (t - 1)) false
  (r * 2 + bit fb) % 2 ^ n

/-- The angle of the chirp at time t µs, in 2⁻³² turn, of 10⁻⁹ turns. -/
def chirpAngle (f0 f1 t ms : Nat) : Nat :=
  let turns : Int := (f0 * t : Nat) + ((f1 : Int) - f0) * (t * t : Nat) / (2000 * ms : Nat)
  ((turns * 4294967296 / 1000000000) % 4294967296).toNat

/-- The signal of the present sample (R263). -/
def Injection.value (j : Injection) : Int :=
  let t := j.t * loopPeriod j.loop
  if j.signal = 0 then (if j.p1 ≤ j.t then j.amplitude else 0)
  else if j.signal = 1 then
    if j.p3 * 1000 < t then 0 else roundDiv (j.amplitude * sinTurn (chirpAngle j.p1 j.p2 t j.p3)) (2 ^ 30)
  else if bitAt j.lfsr (j.p1 - 1) then j.amplitude else -j.amplitude

/-- The signal runs: the capture is not full (R264). -/
def Pilot.injecting (p : Pilot) : Bool := p.inject.isSome && decide (p.capture.length < 4096)

/-- What is added at a point of a loop. -/
def Dev.injectAt (d : Dev) (n point : Nat) : Int := match d.pilot.inject with
  | some j => if d.pilot.injecting ∧ j.loop = n ∧ j.point = point then j.value else 0
  | none => 0

/-- Bit 13 of the flags, INJECT_SAT, as far as a sample of loop `n` decides it: the injected loop's, or any loop's while none is injected. -/
def Dev.injectMask (d : Dev) (n : Nat) : Nat := match d.pilot.inject with
  | some j => if j.loop = n then 0x2000 else 0
  | none => 0x2000

/-- The reference of a loop with the signal that joins it at point 0, and whether the sum was clipped (R262). -/
def Dev.injectRef (d : Dev) (n : Nat) (ref : Int) : Int × Bool := addSat ref (d.injectAt n 0)

/-- The value that a loop showed at a point, before injection: 0 the reference, 9 the raw output. -/
def pointOf (ref out : Int) (points : List Int) (p : Nat) : Int :=
  if p = 0 then ref else if p = 9 then out else points.getD (p - 1) 0

/-- The injection notes what a loop showed. -/
def Dev.noteLoop (n : Nat) (ref out : Int) (points : List Int) (d : Dev) : Dev := match d.pilot.inject with
  | some j =>
    let j := if j.respLoop = n then { j with chan1 := satI 32 (pointOf ref out points j.respPoint) } else j
    let j := if j.loop = n then { j with chan0 := satI 32 (pointOf ref out points j.point + d.injectAt n j.point), fresh := true } else j
    d.modPilot fun p => { p with inject := some j }
  | none => d

/-- The injection steps on at the end of a sample in which its loop ran: the capture, the time, the PRBS register and the progress of R267. -/
def Dev.stepInjection (d : Dev) : Dev := match d.pilot.inject with
  | some j =>
    if ¬ j.fresh then d
    else
      let full := 4096 ≤ d.pilot.capture.length
      let take := !full && decide (j.t % j.decimation = 0)
      let time := if j.t = 0 then d.chron.time else d.pilot.captureTime
      let t := j.t + 1
      let lfsr := if j.signal = 2 ∧ t % j.p2 = 0 then prbsShift j.p1 j.lfsr else j.lfsr
      let past := j.signal = 1 && decide (j.p3 * 1000 < t * loopPeriod j.loop)
      let k : Injection := { j with t := t, lfsr := lfsr, fresh := false }
      let d := d.modPilot fun p => { p with
        inject := some k, captureTime := time, capture := if take then p.capture ++ [(j.chan0, j.chan1)] else p.capture }
      if past ∧ (d.entry j.slot).progress = 1 then d.progress j.slot 2 else d
  | none => d

/-! ### One loop (R232 to R239) -/

/-- A loop evaluated at a sample: its new state, its raw output, the values at its points and its flags. -/
structure LoopOut where
  loop : Loop
  raw : Int
  points : List Int
  sat : Bool
  limited : Bool
  /-- The slew limit acted. -/
  slewing : Bool
  intLimit : Bool
  frozen : Bool
  injectSat : Bool

/-- Evaluates loop `n` on its reference, any signal at point 0 in it, and its measurement: sections, slew limit, output limits (R234 to R239). A signal at the point behind the last section joins that section's output. -/
def Dev.evalLoop (d : Dev) (n : Nat) (ref meas : Int) (hold : Bool) : LoopOut :=
  let l := d.pilot.loops.getD n {}
  let sections := (d.loopPar n 0).toNat
  let r := d.runSections n l hold (d.injectAt n) sections 1 { x := satI 32 (ref - meas) }
  let (last, ovf') := addSat r.x (if sections < 8 then d.injectAt n (sections + 1) else 0)
  let (raw, ovf) := addSat last (d.injectAt n 9)
  let slew := d.loopPar n 5
  let s := clampI (l.nextOut - slew) (l.nextOut + slew) raw
  let out := clampI (d.loopPar n 4) (d.loopPar n 3) s
  { loop := { sections := r.done, out := l.out, nextOut := out
              satHigh := decide (s < raw) || decide (out < s), satLow := decide (raw < s) || decide (s < out) }
    raw := last, points := r.points ++ [r.x], sat := r.sat, limited := decide (out ≠ raw), slewing := decide (s ≠ raw)
    intLimit := r.intLimit, frozen := r.frozen, injectSat := ovf || ovf' || r.injectSat }

/-- A loop stored. -/
def Dev.putLoop (n : Nat) (l : Loop) (d : Dev) : Dev := d.modPilot fun p => { p with loops := setAt n l p.loops }

/-- A loop. -/
def Pilot.loop (p : Pilot) (n : Nat) : Loop := p.loops.getD n {}

/-- The output computed at the sample before comes into force (R232). -/
def Dev.applyLoop (n : Nat) (d : Dev) : Dev := d.modPilot fun p => { p with loops := modAt (fun l => { l with out := l.nextOut }) n p.loops }

/-- A limit behind a loop saturates it in a direction (R239). -/
def Dev.saturate (n : Nat) (high low : Bool) (d : Dev) : Dev :=
  d.modPilot fun p => { p with loops := modAt (fun l => { l with satHigh := l.satHigh || high, satLow := l.satLow || low }) n p.loops }

/-! ### Units -/

/-- mA or mV as a Q15.16 word in A or V. -/
def milliQ (v : Int) : Int := satI 32 (roundDiv (v * 65536) 1000)

/-- A Q15.16 word in A or V as mA or mV. -/
def qMilli (v : Int) : Int := roundDiv (v * 1000) 65536

/-- µm/s as sub-edges per ms, Q15.16. -/
def Dev.speedQ (d : Dev) (v : Int) : Int := satI 32 (roundDiv (v * 16777216) (1000 * d.parN P.SEXT_UM_PER_EDGE))

/-- The position set-point as passed to Pilot: 1/256 sub-edge (R189). -/
def Dev.spFine (d : Dev) : Int := roundDiv (d.leaf.sp.p * 65536) (1048576 * d.parN P.SEXT_UM_PER_EDGE)

/-- The speed set-point: rounded to 1/256 sub-edge per second (R189), in sub-edges per ms, Q15.16. -/
def Dev.spSpeedQ (d : Dev) : Int :=
  let v := roundDiv (d.leaf.sp.v * 65536) (1048576 * d.parN P.SEXT_UM_PER_EDGE)
  satI 32 (roundDiv (v * 256) 1000)

/-- The acceleration set-point as passed to Pilot: 1/256 sub-edge per second squared (R189). -/
def Dev.spAcc (d : Dev) : Int := roundDiv (d.leaf.sp.a * 65536) (1048576 * d.parN P.SEXT_UM_PER_EDGE)

/-! ### Force and tables (R237, R253) -/

/-- The leaf is held under Landfall (R164), and through a withdrawal that finds it within DOOR_CLOSED_WINDOW; from farther out the planner closes it (R167). -/
def Dev.landfallHold (d : Dev) : Bool := match d.door.landfall with
  | .none => false
  | .armed _ _ => false
  | .withdrawing _ => decide ((d.leafPos.natAbs : Int) ≤ d.par P.DOOR_CLOSED_WINDOW)
  | _ => true

/-- The direction of motion: opening (R237). At standstill the direction of the last move. -/
def Dev.dirOpening (d : Dev) : Bool :=
  if d.landfallHold then false
  else if d.leafMotion = 1 then true else if d.leafMotion = 2 then false
  else if d.axisMoving 0 then d.sext.opening
  else d.pilot.lastOpening

/-- The direction as a table number (R253). -/
def dirOf (opening : Bool) : Nat := if opening then 0 else 1

/-- The friction entry of a position in sub-edges. -/
def Dev.fricIndex (d : Dev) (pos : Int) : Int := clampI 0 2047 (shrI pos (d.parN P.PILOT_FRIC_SHIFT))

/-- The cogging entry of a position in sub-edges. -/
def Dev.cogIndex (d : Dev) (pos : Int) : Nat :=
  let rev := d.parN P.PILOT_COG_EDGES_PER_REV * 256
  (pos % (rev : Int)).toNat * 2048 / rev

/-- The present position in sub-edges. -/
def Dev.subPos (d : Dev) : Int := if d.pilot.dr = 1 then d.pilot.pObs / 16777216 else d.sext.pInt / 256

/-- F_fric + F_cog at the present position and direction, in mN. -/
def Dev.tableForce (d : Dev) : Int :=
  let dir := dirOf d.dirOpening
  let f := sget 0 (d.fricIndex d.subPos).toNat (d.pilot.fric.getD dir [])
  let c := sget 0 (d.cogIndex d.subPos) (d.pilot.cog.getD dir [])
  10 * (f + c)

/-- M·a of an acceleration in µm/s², in mN (the product is in 10⁻⁶ mN). -/
def Dev.massForce (d : Dev) (a : Int) : Int := roundDiv (d.par P.PILOT_MASS * a) 1000000

/-- M·a of the acceleration set-point, in mN. -/
def Dev.setForce (d : Dev) : Int := roundDiv (d.par P.PILOT_MASS * d.spAcc * d.parN P.SEXT_UM_PER_EDGE) 65536000000

/-- F_lim in the direction of motion (R237, R295). -/
def Dev.forceLimit (d : Dev) : Int :=
  let f := if d.landfallHold then d.par P.DOOR_LANDFALL_FORCE
    else if d.dirOpening then d.par P.PILOT_FORCE_LIMIT_OPEN else d.par P.PILOT_FORCE_LIMIT_CLOSE
  let f := if d.pilot.dr = 1 then f / 2 else f
  if d.sext.ref = 1 then f else f * d.par P.SEXT_LOST_FORCE / 1000

/-- The force-limited current i_F in mA, never below 0 (R237). -/
def Dev.forceCurrent (d : Dev) : Int :=
  let ma := if d.dirOpening then d.setForce else -d.setForce
  max 0 (roundDiv (1000 * (d.forceLimit + d.tableForce + ma)) (d.parN P.PILOT_FORCE_CONST))

/-- The leaf current limit in force in mA: PILOT_I_MAX, falling over 50 ms to the standstill current (R209). -/
def Dev.leafLimit (d : Dev) : Int :=
  let m := d.iMax
  if d.leaf.reduced then
    let h := min m (d.par P.PLAN_LEAF_HOLD_CURRENT)
    m - (m - h) * (min (ms 50) (d.now - d.leaf.reduceFrom) : Nat) / (ms 50 : Nat)
  else m

/-! ### Motor model (R242 to R244, R309) -/

/-- R(T) in mΩ times 10⁶, at the winding temperature in 0.1 °C. -/
def Dev.resistance (d : Dev) : Int := d.par P.PILOT_R_PHASE * (1000000 + 393 * (d.pilot.temp - 250))

/-- R(T)·i in mV. -/
def Dev.dropOf (d : Dev) (i : Int) : Int := roundDiv (d.resistance * i) 1000000000

/-- ke + 2πL·i_d / (6 · SEXT_UM_PER_EDGE), in mV per m/s: what the speed multiplies in the q equation. -/
def Dev.emfConst (d : Dev) (id : Int) : Int :=
  d.par P.PILOT_KE + roundDiv (355 * d.par P.PILOT_L_PHASE * id) (339 * d.parN P.SEXT_UM_PER_EDGE)

/-- The speed that solves the q equation, in µm/s. A vanishing constant leaves it without a value; so does a bridge that applies no known voltage. -/
def Dev.solveSpeed (uq : Option Int) (iq iqPrev id : Int) (d : Dev) : Int × Bool × Dev :=
  let k := d.emfConst id
  match uq with
  | some u =>
    if k = 0 then
      let (v, d) := d.drawValue
      (toSigned 32 (v % 2 ^ 32), true, d)
    else
      let num := 1000000 * (u - d.dropOf iq - roundDiv (d.par P.PILOT_L_PHASE * (iq - iqPrev)) 25)
      let v := roundDiv (if 0 < k then num else -num) k.natAbs
      (satI 32 v, decide (satI 32 v ≠ v), d)
  | none =>
    let (v, d) := d.drawValue
    (toSigned 32 (v % 2 ^ 32), false, d)

/-- The q voltage that the leaf bridge applied over the last sample: Pilot's, 0 in a short, unknown with gates off. -/
def Dev.appliedQ (d : Dev) : Option Int :=
  let m := d.drive.leaf.mode
  if m = 2 then some (qMilli (d.pilot.loop 2).out) else if (m = 3 ∨ m = 4) ∧ ¬ d.drive.leaf.limited then some 0 else none

/-- The angle in 2⁻³² turn, and with `per` 1 the travel in 2⁻²⁴ sub-edge, that a speed in µm/s makes in one current sample. -/
def Dev.travelOf (d : Dev) (v : Int) (per : Nat) : Int := roundDiv (v * 4294967296 * 25) (per * d.parN P.SEXT_UM_PER_EDGE * 1000000)

/-- The observer at a current sample (R244). -/
def Dev.observe (iq id : Int) (d : Dev) : Dev :=
  let (v, sat, d) := d.solveSpeed d.appliedQ iq d.pilot.iqPrev id
  let v := if v.natAbs < d.parN P.PILOT_OBS_MIN_SPEED then 0 else v
  let step := d.travelOf v 1
  let turn := d.travelOf v 6
  (d.modPilot fun p => { p with
    vObs := v, pObs := p.pObs + step, angObs := ((p.angObs + turn) % 4294967296).toNat }).leafFlag 0x1000 (flagBits [(sat, 12)])

/-- The electrical angle for commutation in 2⁻³² turn: Sextant's of this sample, or the observer's carried on to it under dead reckoning (R230, R249). -/
def Dev.commAngle (d : Dev) : Nat :=
  if d.pilot.dr = 1 then ((d.pilot.angObs + d.travelOf d.pilot.vObs 6) % 4294967296).toNat else 65536 * d.sext.angle

/-- The leaf speed that the loops run on, in µm/s: the observer's under dead reckoning and in a stop after feedback was lost while opening (R249, R251), else Sextant's. -/
def Dev.onObserver (d : Dev) : Bool := d.pilot.dr = 1 || (d.pilot.feedbackLost && d.pilot.shortAfterStop)

/-- That speed. -/
def Dev.runSpeed (d : Dev) : Int := if d.onObserver then d.pilot.vObs else d.leafSpeed

/-- The amplitude-invariant dq transform of three phase currents (R310): i_d and i_q. -/
def dqOf (angle : Nat) (u v w : Int) : Int × Int :=
  let third := 1431655765
  let a0 := angle
  let a1 := angle + 4294967296 - third
  let a2 := angle + third
  let d := u * cosTurn a0 + v * cosTurn a1 + w * cosTurn a2
  let q := -(u * sinTurn a0 + v * sinTurn a1 + w * sinTurn a2)
  (roundDiv (2 * d) (3 * 2 ^ 30), roundDiv (2 * q) (3 * 2 ^ 30))

/-- At a 20 kHz peak the dq currents advance over 25 µs by their voltage equations (R309). -/
def Dev.predictDq (d : Dev) : Int × Int :=
  let p := d.pilot
  let l := d.parN P.PILOT_L_PHASE
  let v := d.runSpeed
  let um := d.parN P.SEXT_UM_PER_EDGE
  let uq := qMilli (p.loop 2).out
  let ud := qMilli (p.loop 3).out
  -- ω_e·L·i in mV for v in µm/s, L in µH, i in mA.
  let cross (i : Int) : Int := roundDiv (355 * v * (l : Int) * i) (339 * um * 1000000)
  let iq := p.iq + roundDiv (25 * (uq - d.dropOf p.iq - roundDiv (d.par P.PILOT_KE * v) 1000000 - cross p.id)) l
  let id := p.id + roundDiv (25 * (ud - d.dropOf p.id + cross p.iq)) l
  (id, iq)

/-! ### Faults and windows (R245, R246) -/

/-- A force channel fault: 0 W1, 1 W2. With feedback lost, winding short at once (R246). -/
def Dev.forceChannelFault (window : Nat) (d : Dev) : Dev :=
  let d := d.modPilot fun p => { p with wFailed := setAt window true p.wFailed, wClean := 0 }
  if d.pilot.forceFault then d
  else
    let failed := bitsOf (d.pilot.wFailed.take 2)
    let d := ((d.modPilot fun p => { p with forceFault := true, validity := 2, learnOk := false }).onset 64 2 0xFF (u8 failed))
    if d.pilot.feedbackLost then d.modPilot fun p => { p with short := true, dr := if p.dr = 1 then 2 else p.dr } else d

/-- A window's violation count: it fails when the violation has lasted `limit` samples without a break. -/
def Dev.window (n : Nat) (violated : Bool) (d : Dev) : Nat × Dev :=
  let c := if violated then d.pilot.wCount.getD n 0 + 1 else 0
  (c, d.modPilot fun p => { p with wCount := setAt n c p.wCount })

/-- W1 at a measured current sample. -/
def Dev.windowSum (u v w : Int) (d : Dev) : Dev :=
  let bad := d.drive.enabled && decide (d.parN P.PILOT_PLAUS_ISUM < (u + v + w).natAbs)
  let (c, d) := d.window 0 bad
  let d := d.leafFlag 0x40000 (flagBits [(bad, 18)])
  if c = 4 then d.forceChannelFault 0
  else if c = 0 ∧ ¬ d.pilot.forceFault then d.modPilot fun p => { p with wFailed := setAt 0 false p.wFailed } else d

/-! ### Current samples -/

/-- A shunt reading: at either end of the converter range it counts as full scale (R312). -/
def shuntOf (fs i : Int) : Int × Bool := (clampI (-fs) fs i, decide (fs ≤ i.natAbs))

/-- A reading of a channel U, V, W, A, B and whether it is at an end of the range; within the range the channel's offset is subtracted (R312, R313). -/
def Dev.shuntRead (c : Nat) (i : Int) (d : Dev) : Int × Bool :=
  let (v, sat) := shuntOf (if c < 3 then d.leafFs else d.stepFs) i
  let shunt := d.parN (if c < 3 then P.DRV_LEAF_SHUNT else P.DRV_STEP_SHUNT)
  (if sat then v else v - roundDiv (1000 * d.drive.offsets.getD c 0) shunt, sat)

/-- A manual set-point moves toward the one asked for (R259). -/
def AxisMode.slew (slewI slewU : Nat) (m : AxisMode) : AxisMode :=
  if m.mode = 0 then m
  else
    let by' : Int := ((if m.mode = 1 then slewI else slewU) * 65536 / 40 : Nat)
    { m with point := clampI (m.point - by') (m.point + by') (m.want * 65536) }

/-- The manual set-point as a Q15.16 word in A or V. -/
def AxisMode.pointQ (m : AxisMode) : Int := satI 32 (roundDiv m.point 1000)

/-- The q reference of this sample before its clamps, Q15.16 A: the manual set-point, or that of the speed sample. -/
def Dev.rawRef (d : Dev) : Int := if d.pilot.leafMode.mode = 1 then d.pilot.leafMode.pointQ else d.pilot.iqRef

/-- The q reference, with any test signal in it, clamped (R236, step 3; R262, R325), Q15.16 A, with the clamps noted. FORCE_LIMIT is set where i_F is the clamp that governed (R240). -/
def Dev.clampedRef (ref : Int) (d : Dev) : Int × Dev :=
  let p := d.pilot
  let manual := p.leafMode.mode = 1
  let iF := d.forceCurrent
  let limit := milliQ (if manual then d.iMax else min d.iMax d.leafLimit)
  let force := milliQ iF
  let regen := d.regenLimit ref d.runSpeed
  let m := min limit force
  let m := match regen with
    | some r => min m (milliQ r)
    | none => m
  let out := clampI (-m) m ref
  let byForce := force < ref.natAbs ∧ force = m
  let d := d.modPilot fun p => { p with iF := iF }
  let d := d.modDrive fun q => { q with regenClamp := regen.isSome }
  let d := d.leafFlag 0x400 (flagBits [(decide (out ≠ ref), 4), (decide byForce, 10)])
  (out, if manual then d else d.saturate 1 (decide (out < ref)) (decide (ref < out)))

/-- The flags of two current loops of an axis. -/
def curFlags (a b : LoopOut) (fsSat limited : Bool) : Nat :=
  flagBits [(a.sat || b.sat || fsSat, 6), (a.limited || b.limited || limited, 7), (a.intLimit || b.intLimit, 8),
    (a.injectSat || b.injectSat, 13), (a.frozen || b.frozen, 16)]

/-- A loop of an axis whose clamped preset it has come within a slew step of: LOOP_MODE ends with the last (R261). -/
def Dev.settled (axis : Nat) (loops : List Nat) (d : Dev) : Dev :=
  let m := if axis = 0 then d.pilot.leafMode else d.pilot.stepMode
  let rest := m.residual.filter fun n => !loops.contains n
  if rest = m.residual then d
  else
    let slot := if rest.isEmpty then m.modeSlot else none
    let n : AxisMode := { m with residual := rest, modeSlot := if rest.isEmpty then none else m.modeSlot }
    (d.modPilot fun p => if axis = 0 then { p with leafMode := n } else { p with stepMode := n }).replyTo slot 0 []

/-- Loops that do not slew at this sample. -/
def steadyLoops (l : List (Nat × LoopOut)) : List Nat := (l.filter fun o => !o.2.slewing).map (·.1)

/-- The leaf's current loops at a current sample, with the limit of the voltage vector (R236, R239, R258). -/
def Dev.leafCurrents (fsSat : Bool) (d : Dev) : Dev :=
  let d := (d.applyLoop 2).applyLoop 3
  let vmax : Int := milliQ d.leafVmax
  if d.pilot.leafMode.mode = 2 then
    let u := d.pilot.leafMode.pointQ
    let c := clampI (-vmax) vmax u
    let d := (d.putLoop 2 { d.pilot.loop 2 with nextOut := c }).putLoop 3 { d.pilot.loop 3 with nextOut := 0 }
    d.leafFlag 0x121C0 (flagBits [(fsSat, 6), (decide (c ≠ u), 7)])
  else
    let raw := d.rawRef
    let (sum, ovf) := d.injectRef 2 raw
    let (ref, d) := d.clampedRef sum
    let (ref3, ovf3) := d.injectRef 3 0
    let mask := 0x101C0 ||| d.injectMask 2 ||| d.injectMask 3
    let q := d.evalLoop 2 ref (milliQ d.pilot.iq) false
    let e := d.evalLoop 3 ref3 (milliQ d.pilot.id) false
    let mag : Int := isqrt (q.loop.nextOut.natAbs ^ 2 + e.loop.nextOut.natAbs ^ 2)
    let over' := vmax < mag
    let scale (v : Int) : Int := if over' then truncDiv (v * vmax) mag else v
    let put (o : LoopOut) : Loop := { o.loop with
      nextOut := scale o.loop.nextOut
      satHigh := o.loop.satHigh || (decide over' && decide (0 < o.loop.nextOut))
      satLow := o.loop.satLow || (decide over' && decide (o.loop.nextOut < 0)) }
    let d := (d.putLoop 2 (put q)).putLoop 3 (put e)
    let d := (d.noteLoop 2 raw q.raw q.points).noteLoop 3 0 e.raw e.points
    let d := d.leafFlag mask (curFlags q e fsSat (decide over') ||| flagBits [(ovf || ovf3, 13)])
    d.settled 0 (steadyLoops [(2, q), (3, e)])

/-- The microstep table at an address (R214). -/
def Dev.stepTable (d : Dev) (k : Nat) : Int := sget (factoryStep (k % 1024)) (k % 1024) d.step.table

/-- The microstep count interpolated across the samples of a profile update (R189). -/
def Dev.countNow (d : Dev) : Int :=
  let j : Int := d.pilot.samples % 10
  d.step.countPrev + truncDiv ((d.step.count - d.step.countPrev) * j) 10

/-- A value times the microstep table for coil A or B, Q15.16. -/
def Dev.coilOf (b : Bool) (d : Dev) (v : Int) : Int :=
  let k := (d.countNow % 1024).toNat + (if b then 256 else 0)
  satI 32 (roundDiv (v * d.stepTable k) 32767)

/-- The coil loops at a current sample; each coil voltage within the bridge's (R230, R310). -/
def Dev.coilCurrents (fsSat : Bool) (d : Dev) : Dev :=
  let d := (d.applyLoop 4).applyLoop 5
  let vmax : Int := milliQ d.coilVmax
  let m := d.pilot.stepMode
  if m.mode = 2 then
    let a := d.coilOf false m.pointQ
    let b := d.coilOf true m.pointQ
    let ca := clampI (-vmax) vmax a
    let cb := clampI (-vmax) vmax b
    let d := (d.putLoop 4 { d.pilot.loop 4 with nextOut := ca }).putLoop 5 { d.pilot.loop 5 with nextOut := cb }
    d.stepFlag 0x101C0 (flagBits [(fsSat, 6), (decide (ca ≠ a) || decide (cb ≠ b), 7)])
  else
    let amp := if m.mode = 1 then clampI (-milliQ d.iMax) (milliQ d.iMax) m.pointQ else milliQ d.step.amplitude
    let a := d.evalLoop 4 (d.injectRef 4 (d.coilOf false amp)).1 (milliQ (d.drive.currents.getD 3 0)) false
    let b := d.evalLoop 5 (d.injectRef 5 (d.coilOf true amp)).1 (milliQ (d.drive.currents.getD 4 0)) false
    let put (o : LoopOut) : Loop := { o.loop with
      nextOut := clampI (-vmax) vmax o.loop.nextOut
      satHigh := o.loop.satHigh || decide (vmax < o.loop.nextOut), satLow := o.loop.satLow || decide (o.loop.nextOut < -vmax) }
    let over' (o : LoopOut) : Bool := decide ((put o).nextOut ≠ o.loop.nextOut)
    let d := (d.noteLoop 4 (d.coilOf false amp) a.raw a.points).noteLoop 5 (d.coilOf true amp) b.raw b.points
    let d := (d.putLoop 4 (put a)).putLoop 5 (put b)
    let d := d.stepFlag 0x101C0 (curFlags a b fsSat (over' a || over' b))
    d.settled 1 (steadyLoops [(4, a), (5, b)])

/-- LOOP_MANUAL orders reply at the current sample behind them (R267). -/
def Dev.manualDone (d : Dev) : Dev :=
  let a := d.pilot.leafMode.manualSlot
  let b := d.pilot.stepMode.manualSlot
  let d := d.modPilot fun p => { p with leafMode := { p.leafMode with manualSlot := none }, stepMode := { p.stepMode with manualSlot := none } }
  (d.replyTo a 0 []).replyTo b 0 []

/-- The end-stop condition at a current sample (R250). -/
def Dev.judgeEndStop (d : Dev) : Dev :=
  let p := d.pilot
  let holds := d.modulating && decide (9 * p.iF ≤ 10 * p.iq.natAbs) && decide (p.vObs = 0) && decide (d.leafMotion ≠ 0)
  if ¬ holds then d.modPilot fun p => { p with stopSince := none, endStop := false }
  else match p.stopSince with
    | some t => if ms (d.parN P.PILOT_DR_ENDSTOP_TIME) ≤ d.now - t then d.modPilot fun p => { p with endStop := true } else d
    | none => d.modPilot fun p => { p with stopSince := some d.now }

/-- A bridge whose shunt reads beyond its level latches an over-current (R320). -/
def Dev.judgeOver (d : Dev) (leafMeasured : Bool) : Dev :=
  let i (c : Nat) : Nat := (d.drive.currents.getD c 0).natAbs
  let big (c : Nat) : Bool := decide (d.parN (if c < 3 then P.DRV_OC_LEAF else P.DRV_OC_STEP) < i c)
  let d := if leafMeasured ∧ (big 0 ∨ big 1 ∨ big 2) then d.overCurrent 0 else d
  let d := if big 3 then d.overCurrent 1 else d
  if big 4 then d.overCurrent 2 else d

/-- Writes to tables 0 to 2 take effect at the current sample behind them (R254): entries put into a table. -/
def putTable (off : Nat) : List Int → List (Nat × Int) → List (Nat × Int)
  | [], t => t
  | v :: vs, t => putTable (off + 1) vs (sset 0 off v t)

/-- One write of table 0, 1 or 2. -/
def Dev.writeTable (table dir off : Nat) (vs : List Int) (d : Dev) : Dev :=
  let put (t : List (List (Nat × Int))) : List (List (Nat × Int)) := modAt (putTable off vs) dir t
  d.modPilot fun p =>
    if table = 0 then { p with fric := put p.fric } else if table = 1 then { p with cog := put p.cog } else { p with fricRef := put p.fricRef }

/-- All waiting writes of tables 0 to 2. -/
def Dev.writeTables : List (Nat × Nat × Nat × List Int × Nat) → Dev → Dev
  | [], d => d
  | (t, dir, off, vs, slot) :: rest, d => writeTables rest (if t ≤ 2 then (d.writeTable t dir off vs).done slot [] else d)

/-- The pending writes of tables 0 to 2 are made; those of table 8 wait for the profile update. -/
def Dev.takeTables (d : Dev) : Dev :=
  let all := d.pilot.tableWrites
  (d.modPilot fun p => { p with tableWrites := p.tableWrites.filter fun w => 2 < w.1 }).writeTables all

/-- COMPARE_ARM orders arm their units at the current sample behind them (R302). -/
def Dev.armUnits : List (Nat × Nat × Nat × Int × Nat) → Dev → Dev
  | [], d => d
  | (u, act, filter, um, slot) :: rest, d =>
    let (r, d) := d.compareArm u act filter um
    armUnits rest (d.done slot (u8 r))

/-- The waiting COMPARE_ARM orders. -/
def Dev.takeArms (d : Dev) : Dev := Dev.armUnits d.sext.arms (d.modSext fun s => { s with arms := [] })

/-- PILOT_FLAGS_CLEAR orders clear their flags at the current sample behind them (R241). -/
def Dev.clearFlags : List (Nat × Nat × Nat) → Dev → Dev
  | [], d => d
  | (axis, mask, slot) :: rest, d =>
    let d := d.modPilot fun p =>
      if axis = 0 then { p with leafFlags := p.leafFlags.clear mask } else { p with stepFlags := p.stepFlags.clear mask }
    clearFlags rest (d.done slot [])

/-- The waiting PILOT_FLAGS_CLEAR orders. -/
def Dev.takeClears (d : Dev) : Dev := Dev.clearFlags d.pilot.flagClears (d.modPilot fun p => { p with flagClears := [] })

/-- A sample lies on the grid of R231: behind every `n`-th current sample. -/
def Dev.onGrid (n : Nat) (d : Dev) : Bool := d.pilot.samples % n = 0

/-- An illegal Hall code that stands counts at the first sample with the loop closed (R245, R247). -/
def Dev.judgeIllegal (d : Dev) : Dev := if d.sext.illegal ∧ d.loopClosed then d.lostFeedback 2 else d

/-- A current sample from the measured values (R231, R242 to R250, R308 to R325). -/
def Dev.currentSample (i : CurrentIn) (d : Dev) : Dev :=
  let valley := d.par P.DRV_PWM_FREQ = 1 ∨ d.pilot.samples % 2 = 0
  let d := d.takeTables.manualDone.takeClears
  let d := d.sextSample.takeArms
  let d := d.deadMeasures i.delays
  let d := if valley then d.bootReads 0 i.boots else d
  let (u, s1) := d.shuntRead 0 i.u
  let (v, s2) := d.shuntRead 1 i.v
  let (w, s3) := d.shuntRead 2 i.w
  let (a, s4) := d.shuntRead 3 i.a
  let (b, s5) := d.shuntRead 4 i.b
  -- At the valley a step shunt carries its coil's current reversed (R311).
  let (a, b) := if valley then (-a, -b) else (a, b)
  let leafSat := decide valley && (s1 || s2 || s3)
  let old := d.drive.currents
  let currents := if valley then [u, v, w, a, b] else [old.getD 0 0, old.getD 1 0, old.getD 2 0, a, b]
  let (id, iq) := if valley then dqOf d.commAngle u v w else d.predictDq
  let d := d.modDrive fun p => { p with currents := currents, vbus := i.vbus }
  let dirty := !d.modulating
  let d := d.observe iq id
  let d := if valley then d.windowSum u v w else d
  -- The W2 residual of this sample, at the Hall speed.
  let res := qMilli (d.pilot.loop 2).out - d.dropOf iq - roundDiv (d.par P.PILOT_L_PHASE * (iq - d.pilot.iqPrev)) 25
    - roundDiv (d.emfConst id * d.leafSpeed) 1000000
  let d := d.modPilot fun p => { p with
    iq := iq, id := id, iqPrev := iq, iqWindow := (iq :: p.iqWindow).take 5, uqWindow := ((res.natAbs : Int) :: p.uqWindow).take 5
    windowDirty := p.windowDirty || dirty
    leafMode := p.leafMode.slew (d.parN P.PILOT_MAN_SLEW_I) (d.parN P.PILOT_MAN_SLEW_U)
    stepMode := p.stepMode.slew (d.parN P.PILOT_MAN_SLEW_I) (d.parN P.PILOT_MAN_SLEW_U) }
  let d := if valley then d.judgeShort else d
  let d := (d.judgeOver valley).takeBridges
  let d := if valley then d.trimDeads else d
  let d := d.judgeIllegal
  let d := d.leafCurrents leafSat
  let d := if d.par P.SYS_STEP_FITTED = 1 then d.coilCurrents (s4 || s5) else d
  let d := d.modPilot fun p => { p with uq := qMilli (p.loop 2).out, ud := qMilli (p.loop 3).out }
  let d := d.judgeEndStop.stepInjection
  d.modPilot fun p => { p with samples := p.samples + 1 }

/-! ### Learning (R255 to R257) -/

/-- Mean of some numbers, truncated. -/
def meanOf (l : List Int) : Int := if l.isEmpty then 0 else truncDiv (l.foldl (· + ·) 0) l.length

/-- A learning sample at a speed sample: residual r splits into its moving average over the last motor revolution of travel and the rest (R255, R256). -/
def Dev.learnSample (r : Int) (d : Dev) : Dev :=
  let p := d.pilot
  let v := d.leafSpeed.natAbs
  let opening := d.dirOpening
  let near := !opening && decide (d.leafPos ≤ d.par P.PLAN_CLOSE_FINAL_DIST)
  if ¬ p.learnOk ∨ d.leafMotion = 0 ∨ (v : Int) < d.par P.PILOT_LEARN_MIN_SPEED ∨ near then d
  else
    let pos := d.subPos
    let rev : Int := d.parN P.PILOT_COG_EDGES_PER_REV * 256
    let recent := p.learnMove.filter fun s => (s.pos - pos).natAbs < rev.toNat
    let lp := meanOf (r :: recent.map fun s => s.lp + s.hp)
    let s : LearnSample := { dir := dirOf opening, pos := pos, entry := d.fricIndex pos, lp := lp, hp := r - lp }
    d.modPilot fun p => { p with learnMove := s :: p.learnMove }

/-- One value added to the cell of an entry. -/
def addCell (e : Nat) (v : Int) (t : List (Nat × LearnCell)) : List (Nat × LearnCell) :=
  let c := sget {} e t
  sset {} e { sum := c.sum + v, count := c.count + 1 } t

/-- The samples of a move that learned join the sums of the cycle. -/
def Dev.learnSums : List LearnSample → Dev → Dev
  | [], d => d
  | s :: rest, d =>
    learnSums rest (d.modPilot fun p => { p with
      fricSums := modAt (addCell s.entry.toNat s.lp) s.dir p.fricSums
      cogSums := modAt (addCell (d.cogIndex s.pos) s.hp) s.dir p.cogSums })

/-- The move has ended: at its target with learning still allowed, its samples count (R255); otherwise they are dropped. -/
def Dev.learnEnd (atTarget : Bool) (d : Dev) : Dev :=
  let samples := d.pilot.learnMove
  let d := if atTarget ∧ d.pilot.learnOk ∧ d.par P.PILOT_LEARN_ENABLE = 1 then d.learnSums samples else d
  d.modPilot fun p => { p with learnMove := [], learnOk := false }

/-- One entry of a table learns: the new table value in 10 mN, and whether its step or its bound was limited. -/
def Dev.learnEntry (c : LearnCell) (old : Int) (d : Dev) : Int × Bool × Bool :=
  let mean := truncDiv c.sum c.count
  let m := d.par P.PILOT_LEARN_STEP_MAX
  let b := d.par P.PILOT_FRIC_MAX
  let raw := shrI mean (d.parN P.PILOT_LEARN_SHIFT)
  let step := clampI (-m) m raw
  let v := clampI (-b) b (10 * old + step)
  (roundDiv v 10, decide (step ≠ raw), decide (b ≤ v.natAbs))

/-- The entries of one direction of a table learn; flags are set on the way. -/
def Dev.learnTable : List (Nat × LearnCell) → List (Nat × Int) → Dev → List (Nat × Int) × Dev
  | [], t, d => (t, d)
  | (e, c) :: rest, t, d =>
    if c.count < 16 then learnTable rest t d
    else
      let (v, limited, atMax) := d.learnEntry c (sget 0 e t)
      learnTable rest (sset 0 e v t) (d.leafFlag 0 (flagBits [(limited, 21), (atMax, 22)]))

/-- The mean of a cogging direction subtracted from its 2,048 entries, in mN, each stored rounded to 10 mN; a table of zeros stays so. -/
def zeroMean (t : List (Nat × Int)) : List (Nat × Int) :=
  let mean := truncDiv (10 * (t.foldl (fun s e => s + e.2) 0)) 2048
  if t.isEmpty then [] else (List.range 2048).foldl (fun r e => sset 0 e (roundDiv (10 * sget 0 e t - mean) 10) r) []

/-- Runs of two or more adjacent entries that meet a condition: first, last, largest value. -/
def runsOf (f : Nat → Option Int) : List Nat → Option (Nat × Nat × Int) → List (Nat × Nat × Int) → List (Nat × Nat × Int)
  | [], cur, acc => match cur with
    | some (a, b, v) => if a < b then acc ++ [(a, b, v)] else acc
    | none => acc
  | e :: es, cur, acc => match f e, cur with
    | some v, some (a, _, w) => runsOf f es (some (a, e, max v w)) acc
    | some v, none => runsOf f es (some (e, e, v)) acc
    | none, some (a, b, v) => runsOf f es none (if a < b then acc ++ [(a, b, v)] else acc)
    | none, none => runsOf f es none acc

/-- The anomaly events of the runs of one type and direction (R257). DESIGN CHOICE: the first and the last position are those at which the first and the last entry of the run begin (log entry 55). -/
def Dev.anomalies (type dir : Nat) : List (Nat × Nat × Int) → Dev → Dev
  | [], d => d
  | (a, b, v) :: rest, d =>
    let um (e : Nat) : Int := d.umOfSub (e * 2 ^ d.parN P.PILOT_FRIC_SHIFT : Nat)
    let d := d.raise 68 1 0xFF (u8 type ++ u8 dir ++ i32 (satI 32 (um a)) ++ i32 (satI 32 (um b)) ++ i32 (satI 32 v))
    anomalies type dir rest d

/-- The friction means of one direction in this cycle. -/
def meansOf (t : List (Nat × LearnCell)) : List (Nat × Int) :=
  (t.filter fun e => 16 ≤ e.2.count).map fun e => (e.1, truncDiv e.2.sum e.2.count)

/-- The mean of an entry, where it learned. -/
def meanAt (e : Nat) : List (Nat × Int) → Option Int
  | [] => none
  | (a, v) :: t => if a = e then some v else meanAt e t

/-- One direction at the end of a door cycle: tables, then anomalies (R256, R257). -/
def Dev.learnDir (dir : Nat) (d : Dev) : Dev :=
  let fs := d.pilot.fricSums.getD dir []
  let cs := d.pilot.cogSums.getD dir []
  let (ft, d) := d.learnTable fs (d.pilot.fric.getD dir [])
  let (ct, d) := d.learnTable cs (d.pilot.cog.getD dir [])
  let means := meansOf fs
  let prev := d.pilot.prevMeans.getD dir []
  let level := d.par P.PILOT_ANOM_SUDDEN
  let sudden (e : Nat) : Option Int := match meanAt e means, meanAt e prev with
    | some m, some n => if level ≤ m ∧ level ≤ n then some m else none
    | _, _ => none
  let ref := d.pilot.fricRef.getD dir []
  let drift (e : Nat) : Option Int :=
    let x := 10 * (sget 0 e ft - sget 0 e ref)
    if d.par P.PILOT_ANOM_DRIFT < x then some x else none
  let d := d.modPilot fun p => { p with
    fric := setAt dir ft p.fric, cog := setAt dir (zeroMean ct) p.cog
    prevMeans := if means.isEmpty then p.prevMeans else setAt dir means p.prevMeans }
  let d := d.anomalies 1 dir (runsOf sudden (List.range 2048) none [])
  d.anomalies 2 dir (runsOf drift (List.range 2048) none [])

/-- The learning update when the Log casts a cycle record (R256); the anomalies of R257 are judged at each. -/
def Dev.learnUpdate (d : Dev) : Dev :=
  ((d.learnDir 0).learnDir 1).modPilot fun p => { p with fricSums := [[], []], cogSums := [[], []] }

/-! ### Speed samples (R236, R243, R245) -/

/-- The feedforward of the current reference, Q15.16 A (R236, step 2), and whether it saturated. -/
def Dev.feedforward (d : Dev) : Int :=
  let kf := d.parN P.PILOT_FORCE_CONST
  let acc := if d.par P.PILOT_FF_ACC = 1 then roundDiv (d.setForce * 65536) kf else 0
  let t := if d.par P.PILOT_FF_TABLES = 1 then roundDiv (d.tableForce * 65536) kf else 0
  acc + (if d.dirOpening then t else -t)

/-- The speed loop and the current reference it makes for the next speed sample (R232, R236). In Landfall the hold force comes from the motor model, and the position loop may add to it but not release it. -/
def Dev.speedLoop (d : Dev) : Dev :=
  let d := (d.applyLoop 1).modPilot fun p => { p with iqRef := p.iqNext }
  if d.pilot.leafMode.mode ≠ 0 then d
  else
    let dr := d.pilot.dr = 1
    let corr := if dr then 0 else (d.pilot.loop 0).out
    let (ref, refSat) := addSat d.spSpeedQ corr
    let meas := if d.onObserver then d.speedQ d.pilot.vObs else d.sext.signedSpeed
    let (refIn, ovf) := d.injectRef 1 ref
    let o := d.evalLoop 1 refIn meas d.drive.overVoltage
    let (sum, over') := addSat o.loop.nextOut d.feedforward
    let hold := -(roundDiv (d.par P.DOOR_LANDFALL_FORCE * 65536) (d.parN P.PILOT_FORCE_CONST))
    let next := if d.landfallHold then min sum hold else sum
    let d := (d.noteLoop 1 ref o.raw o.points).putLoop 1 o.loop
    let d := d.modPilot fun p => { p with iqNext := next }
    let d := d.leafFlag (0x8A38 ||| d.injectMask 1)
      (flagBits [(o.sat, 3), (o.limited, 4), (o.intLimit, 5), (over' || refSat, 9), (o.injectSat || ovf, 13), (o.frozen, 15)])
    d.settled 0 (steadyLoops [(1, o)])

/-- The measured acceleration over the last 8 speed samples in µm/s². -/
def Pilot.accel (p : Pilot) : Int := match p.speedHist with
  | v :: rest => match rest.getLast? with
    | some old => truncDiv ((v - old) * 8000) rest.length
    | none => 0
  | [] => 0

/-- The force estimate in mN, positive in the direction of motion (R243). -/
def Dev.estimate (d : Dev) : Int :=
  let s (v : Int) : Int := if d.dirOpening then v else -v
  roundDiv (d.par P.PILOT_FORCE_CONST * s d.pilot.iqMean) 1000 - d.tableForce - d.massForce (s d.pilot.accel)

/-- W2 and W3 at a speed sample, and the ends of a force channel fault (R245, R582 row 64). -/
def Dev.windowSpeed (d : Dev) : Dev :=
  let p := d.pilot
  let count := d.parN P.PILOT_PLAUS_COUNT
  let closed := d.loopClosed && !p.windowDirty && decide (p.dr ≠ 1)
  let badU := closed && decide (d.par P.PILOT_PLAUS_UQ < meanOf p.uqWindow)
  let (c2, d) := d.window 1 badU
  let vHall := d.leafSpeed
  let tol := max (d.par P.PILOT_PLAUS_SPEED_ABS) (d.par P.PILOT_PLAUS_SPEED_REL * (vHall.natAbs : Int) / 1000)
  let badV := decide (d.par P.PILOT_OBS_MIN_SPEED ≤ (vHall.natAbs : Int)) && decide (tol < ((p.vObs - vHall).natAbs : Int))
  let (c3, d) := d.window 2 badV
  let d := d.leafFlag 0x180000 (flagBits [(badU, 19), (badV, 20)])
  let d := if c2 = count then d.forceChannelFault 1 else d
  let d := if c3 = count then d.lostFeedback 3 else d
  if ¬ d.pilot.forceFault then d
  else
    let clean := if closed ∧ ¬ badU ∧ d.pilot.wCount.getD 0 0 = 0 then d.pilot.wClean + 1 else 0
    let d := d.modPilot fun p => { p with wClean := clean }
    if 1000 ≤ clean then
      (d.modPilot fun p => { p with forceFault := false, wFailed := setAt 0 false (setAt 1 false p.wFailed) }).clearing 64 0xFF (u8 0)
    else d

/-- A speed sample (R231, R236, R243). -/
def Dev.speedSample (ntc : Nat) (d : Dev) : Dev :=
  let d := (d.motorTemp ntc).leafFlag 0x620000 0
  let d := d.modPilot fun p => { p with speedHist := (d.leafSpeed :: p.speedHist).take 8, iqMean := meanOf p.iqWindow }
  let d := d.speedLoop
  let d := d.windowSpeed
  let f := satI 32 d.estimate
  let v := if d.pilot.forceFault ∨ d.pilot.windowDirty then 2 else if d.pilot.dr = 1 then 1 else 0
  let d := d.modPilot fun p => { p with force := f, validity := v, learnOk := p.learnOk && decide (v = 0) }
  let d := d.learnSample f
  let d := d.modPilot fun p => { p with iqWindow := [], uqWindow := [], windowDirty := false }
  d.stepInjection

/-- A Hall edge is overdue at a speed sample (R247). -/
def Dev.edgeOverdue (d : Dev) : Bool :=
  let v := d.pilot.vObs.natAbs
  let age := d.now - d.sext.edgeKnown
  !d.sext.edgeTimes.isEmpty && d.loopClosed && decide (d.parN P.PILOT_OBS_MIN_SPEED ≤ v) && decide (ms 5 ≤ age)
    && decide (3 * d.parN P.SEXT_UM_PER_EDGE * 100000000 < age * v)

/-! ### Position samples, manual and automatic control (R258 to R261) -/

/-- The gains of the sections from `k` on, as numerators and denominators of DC gains multiplied. -/
def Dev.dcGain (d : Dev) (n : Nat) : Nat → Nat → Int × Int
  | 0, _ => (1, 1)
  | todo + 1, k =>
    let (a, b) := d.dcGain n todo (k + 1)
    (a * (d.coef n k 0 + d.coef n k 1 + d.coef n k 2), b * (2147483648 + d.coef n k 3 + d.coef n k 4))

/-- A quotient to the nearest with either sign of the divisor; 0 has no value and gives 0, which no checked section group allows. -/
def ratio (a b : Int) : Int := if b = 0 then 0 else roundDiv (if b < 0 then -a else a) b.natAbs

/-- The sections after the integrating one, each at its steady state for the constant input it gets. -/
def Dev.steady (d : Dev) (n : Nat) : Nat → Nat → Int → List Section
  | 0, _, _ => []
  | todo + 1, k, x =>
    let y := satI 32 (ratio (x * (d.coef n k 0 + d.coef n k 1 + d.coef n k 2)) (2147483648 + d.coef n k 3 + d.coef n k 4))
    { x1 := x, x2 := x, y1 := y, y2 := y } :: d.steady n todo (k + 1) y

/-- A loop preset so that its output is `target` (R260): the loop, and the residual where the integrator limit clamped the preset (R261). -/
def Dev.presetLoop (n : Nat) (target held : Int) (d : Dev) : Loop × Option Int :=
  let sections := (d.loopPar n 0).toNat
  let k := (d.loopPar n 1).toNat
  if k = 0 then ({ sections := [], out := held, nextOut := held }, none)
  else
    let (num, den) := d.dcGain n (sections - k) (k + 1)
    let want := ratio (target * den) num
    let lim := d.loopPar n 2
    let y := clampI (-lim) lim want
    let secs := List.replicate (k - 1) ({} : Section) ++ [{ y1 := y, y2 := y }] ++ d.steady n (sections - k) (k + 1) y
    let reached := satI 32 (ratio (y * num) den)
    ({ sections := secs, out := held, nextOut := held }, if y = want then none else some (target - reached))

/-- Presets a loop; a clamp sets TRANSFER_CLAMP and raises "transfer residual". The loop, where it was clamped. -/
def Dev.presetOne (axis n : Nat) (target held : Int) (d : Dev) : List Nat × Dev :=
  let (l, res) := d.presetLoop n target held
  let d := d.putLoop n l
  match res with
  | some r =>
    let d := if axis = 0 then d.leafFlag 0x20000 (flagBits [(true, 17)]) else d
    ([n], d.raise 69 1 axis (i32 (satI 32 (qMilli r))))
  | none => ([], d)

/-- The position loop of the leaf at a position sample (R230, R231). -/
def Dev.positionLoop (d : Dev) : Dev :=
  let d := d.applyLoop 0
  if d.pilot.leafMode.mode ≠ 0 then d
  else if d.pilot.dr = 1 then d.putLoop 0 {}
  else
    let ref := d.spFine * 256
    let (refIn, ovf) := d.injectRef 0 ref
    let o := d.evalLoop 0 refIn (d.sext.pInt * 256) false
    let d := (d.noteLoop 0 ref o.raw o.points).putLoop 0 o.loop
    d.leafFlag (0x4007 ||| d.injectMask 0) (flagBits [(o.sat, 0), (o.limited, 1), (o.intLimit, 2), (o.injectSat || ovf, 13), (o.frozen, 14)])

/-- LOOP_MODE orders into a manual mode end at the position sample (R267). -/
def Dev.modeDone (d : Dev) : Dev :=
  let done (m : AxisMode) : Option Nat := if m.mode ≠ 0 ∧ ¬ m.toAuto then m.modeSlot else none
  let a := done d.pilot.leafMode
  let b := done d.pilot.stepMode
  let clear (m : AxisMode) : AxisMode := if (done m).isSome then { m with modeSlot := none } else m
  let d := d.modPilot fun p => { p with leafMode := clear p.leafMode, stepMode := clear p.stepMode }
  (d.replyTo a 0 []).replyTo b 0 []

/-- A position sample. -/
def Dev.positionSample (d : Dev) : Dev := d.applyCorrection.positionLoop.modeDone.stepInjection

/-- An axis enters a manual mode: the set-point starts at what the replaced point held (R259). -/
def Dev.enterManual (axis mode : Nat) (d : Dev) : Dev :=
  let p := d.pilot
  if axis = 0 then
    let point := if mode = 1 then (if p.leafMode.mode = 2 then milliQ p.iq else p.iqRef) else (p.loop 2).nextOut
    let m : AxisMode := { p.leafMode with mode := mode, want := qMilli point, point := point * 1000, toAuto := false, residual := [] }
    d.modPilot fun p => { p with leafMode := m }
  else
    let a := (p.loop 4).nextOut
    let b := (p.loop 5).nextOut
    let point : Int := if mode = 1 then milliQ d.step.amplitude else isqrt (a.natAbs ^ 2 + b.natAbs ^ 2)
    let m : AxisMode := { p.stepMode with mode := mode, want := qMilli point, point := point * 1000, toAuto := false, residual := [] }
    d.modPilot fun p => { p with stepMode := m }

/-- Presets the loops that a manual mode replaced (R260): those that were clamped. -/
def Dev.presetAxis (axis : Nat) (d : Dev) : List Nat × Dev :=
  let p := d.pilot
  if axis = 0 then
    let m := p.leafMode
    let ff := d.feedforward
    let (c1, d) := if m.mode = 2 then
        let (a, d) := d.presetOne 0 2 (p.loop 2).nextOut (p.loop 2).nextOut
        let (b, d) := d.presetOne 0 3 (p.loop 3).nextOut (p.loop 3).nextOut
        (a ++ b, d)
      else ([], d)
    let cur := if m.mode = 1 then m.pointQ else milliQ p.iq
    let (c2, d) := d.presetOne 0 1 (cur - ff) (cur - ff)
    let (c3, d) := d.presetOne 0 0 0 0
    (c1 ++ c2 ++ c3, d.modPilot fun p => { p with iqRef := cur, iqNext := cur })
  else if p.stepMode.mode = 2 then
    let (a, d) := d.presetOne 1 4 (p.loop 4).nextOut (p.loop 4).nextOut
    let (b, d) := d.presetOne 1 5 (p.loop 5).nextOut (p.loop 5).nextOut
    (a ++ b, d)
  else ([], d)

/-! ### PILOT_FLAGS (R268) -/

/-- The reply data of PILOT_FLAGS. -/
def Dev.pilotFlags (axis : Nat) (d : Dev) : List Byte :=
  let p := d.pilot
  let f := if axis = 0 then p.leafFlags else p.stepFlags
  let m := if axis = 0 then p.leafMode else p.stepMode
  let leaf (v : Int) : Int := if axis = 0 then v else 0
  u8 axis ++ u8 m.mode ++ u8 p.dr ++ u32 f.sticky ++ u32 f.present ++ u64 f.firstSet ++ i32 (leaf p.force) ++ u8 p.validity
    ++ u8 (bitsOf p.wFailed) ++ u16 0 ++ i32 p.vObs ++ i16 (satI 16 p.temp) ++ u16 0

/-- The reply data of CAPTURE_READ (R267): the count is that of the samples in the reply, as far as the capture reaches (R265). -/
def Dev.captureRead (off count : Nat) (d : Dev) : List Byte :=
  let p := d.pilot
  let count := min count (p.capture.length - off)
  u16 off ++ u16 count ++ u64 p.captureTime ++ u32 p.capturePeriod ++ ((p.capture.drop off).take count).flatMap fun s => i32 s.1 ++ i32 s.2

/-- The entries of a table that TABLE_READ returns (R214, R253). -/
def Dev.tableRead (table dir off count : Nat) (d : Dev) : List Byte :=
  let p := d.pilot
  let t := (if table = 0 then p.fric else if table = 1 then p.cog else p.fricRef).getD dir []
  let v (k : Nat) : Int := if table = 8 then d.stepTable k else sget 0 k t
  u8 table ++ u8 dir ++ u16 off ++ u16 count ++ ((List.range count).flatMap fun k => i16 (v (off + k)))

end Sys2Proof.Machine
end

