-- ==== Sys2Proof/Machine/PlannerOps.lean ====
section
/-! DEFINITION. The Course planner (chapter 06): phases in closed form, the jerk-limited speed change, the S-curve and trapezoid moves, changes in motion, stops, standstill, gearing, the step axis and homing. -/

namespace Sys2Proof.Machine

/-! ### Phases (R190, R196, R197) -/

/-- One unit of the planner's fixed point. -/
abbrev planQ : Nat := 1048576

/-- The state a time of `t` ticks into a phase that began in `m` (R190). -/
def Motion.after (m : Motion) (ph : Phase) (t : Nat) : Motion :=
  let a0 := ph.acc.getD m.a
  let j : Int := ph.jerk * planQ
  { a := a0 + roundDiv (j * t) 100000000
    v := m.v + roundDiv (2 * a0 * t * 100000000 + j * (t * t : Nat)) 20000000000000000
    p := m.p + roundDiv (m.v * t * 60000000000000000 + a0 * (t * t : Nat) * 300000000 + j * (t * t * t : Nat)) 6000000000000000000000000 }

/-- A profile run to a time: set-point, base of the phase in force, its start and the phases from it on. With no phase left the axis rests where it came to. -/
def runPhases (now : Nat) : Motion → Nat → List Phase → Motion × Motion × Nat × List Phase
  | b, t0, [] => ({ b with v := 0, a := 0 }, { b with v := 0, a := 0 }, t0, [])
  | b, t0, ph :: rest =>
    match ph.dur with
    | some n => if t0 + n ≤ now then runPhases now (b.after ph n) (t0 + n) rest else (b.after ph (now - t0), b, t0, ph :: rest)
    | none => (b.after ph (now - t0), b, t0, ph :: rest)

/-- Where some phases of finite length lead from a state. -/
def Motion.through : Motion → List Phase → Motion
  | m, [] => m
  | m, ph :: rest => Motion.through (m.after ph (ph.dur.getD 0)) rest

/-- A phase of some ticks, left out when it has no length. -/
def phaseOf (num : Nat) (jerk dur : Int) : List Phase := if dur ≤ 0 then [] else [{ num := num, jerk := jerk, dur := some dur.toNat }]

/-- The speed change from a speed and acceleration to a speed at rest in acceleration, in 2⁻²⁰ units, under A in µm/s² and J in µm/s³: phases num, num + 1, num + 2 (R196, R197). -/
def speedChange (v0 a0 v1 : Int) (acc jerk num : Nat) : List Phase :=
  let jq : Int := jerk * planQ
  let aMax : Int := acc * planQ
  -- The speed left once the acceleration has been brought to 0.
  let vz := v0 + truncDiv (a0 * a0.natAbs) (2 * jq)
  let s : Int := if vz ≤ v1 then 1 else -1
  let al := s * a0
  let dv := s * (v1 - v0)
  let ticks (x : Int) : Int := roundDiv (x * 100000000) jq.toNat
  if aMax < al then
    let hold := roundDiv ((2 * jq * dv - al * al) * 100000000) (2 * jq * aMax).toNat
    phaseOf num (-s * jerk) (ticks (al - aMax)) ++ phaseOf (num + 1) 0 hold ++ phaseOf (num + 2) (-s * jerk) (ticks aMax)
  else
    let peak : Int := isqrt (jq * dv + truncDiv (al * al) 2).toNat
    if peak < aMax then phaseOf num (s * jerk) (ticks (peak - al)) ++ phaseOf (num + 2) (-s * jerk) (ticks peak)
    else
      let hold := roundDiv ((2 * jq * dv - 2 * aMax * aMax + al * al) * 100000000) (2 * jq * aMax).toNat
      phaseOf num (s * jerk) (ticks (aMax - al)) ++ phaseOf (num + 1) 0 hold ++ phaseOf (num + 2) (-s * jerk) (ticks aMax)

/-- D(v0, v1) of R196 in 2⁻²⁰ µm, for whole speeds in µm/s. -/
def speedDist (v0 v1 acc jerk : Nat) : Nat :=
  let dv := if v0 ≤ v1 then v1 - v0 else v0 - v1
  if acc * acc ≤ dv * jerk then (v0 + v1) * (dv * jerk + acc * acc) * planQ / (2 * acc * jerk)
  else (v0 + v1) * isqrt (dv * 2 ^ 80 / jerk) / planQ

/-- The largest number below 2 ^ bits, from `r` on, that meets a condition which holds up to it. -/
def searchMax (ok : Nat → Bool) : Nat → Nat → Nat
  | 0, r => r
  | k + 1, r => searchMax ok k (if ok (r + 2 ^ k) then r + 2 ^ k else r)

/-! ### The S-curve move (R198, R199, R203) -/

/-- The phases of a leaf move to a target from a state of rest or of motion toward it; none where the S-curve cannot come to rest there. `approach` asks for phases 5 to 8. -/
def planMove (m : Motion) (target : Int) (l : Limits) (approach : Bool) : Option (List Phase) :=
  let s : Int := if m.p ≤ target then 1 else -1
  let len := s * (target - m.p)
  let v := s * m.v
  let first (vc : Nat) : List Phase :=
    speedChange m.v m.a (s * (vc * planQ : Nat)) (if v ≤ (vc * planQ : Nat) then l.acc else l.dec) l.jerk 1
  let way (vc : Nat) : Int := s * ((m.through (first vc)).p - m.p)
  -- DESIGN CHOICE: a FINAL_SPEED above the SPEED of the direction counts as that SPEED (log entry 55).
  let vf := min l.finalSpeed l.speed
  let near : Int := (l.finalDist * planQ : Nat)
  let fits (vc : Nat) : Bool := decide (vc ≤ l.speed) && decide (way vc + speedDist vc vf l.dec l.jerk ≤ len - near)
  let fits0 (cap vc : Nat) : Bool := decide (vc ≤ cap) && decide (way vc + speedDist vc 0 l.dec l.jerk ≤ len)
  if approach ∧ vf ≠ 0 ∧ fits vf then
    let vc := searchMax fits 21 vf
    let p1 := first vc
    let p5 := speedChange (s * (vc * planQ : Nat)) 0 (s * (vf * planQ : Nat)) l.dec l.jerk 5
    let p9 := speedChange (s * (vf * planQ : Nat)) 0 0 l.dec l.jerk 9
    let d5 : Int := speedDist vc vf l.dec l.jerk
    let d9 : Int := speedDist vf 0 l.dec l.jerk
    let t4 := roundDiv ((len - near - way vc - d5) * 100000000) (vc * planQ)
    let t8 := roundDiv ((near - d9) * 100000000) (vf * planQ)
    some (p1 ++ phaseOf 4 0 t4 ++ p5 ++ phaseOf 8 0 t8 ++ p9)
  else
    let cap := if approach ∧ vf ≠ 0 then vf else l.speed
    if ¬ fits0 cap 0 then none
    else
      let vc := searchMax (fits0 cap) 21 0
      let p1 := first vc
      let p9 := speedChange (s * (vc * planQ : Nat)) 0 0 l.dec l.jerk 9
      let t4 := if vc = 0 then 0 else roundDiv ((len - way vc - speedDist vc 0 l.dec l.jerk) * 100000000) (vc * planQ)
      some (p1 ++ phaseOf 4 0 t4 ++ p9)

/-- The rest of a decelerating move without approach: down at once to the largest speed from which the target can be met, at that speed over what is left, and the stop. -/
def planRest (m : Motion) (target : Int) (l : Limits) : Option (List Phase) :=
  let s : Int := if m.p ≤ target then 1 else -1
  let len := s * (target - m.p)
  let first (vc : Nat) : List Phase := speedChange m.v m.a (s * (vc * planQ : Nat)) l.dec l.jerk 9
  let way (vc : Nat) : Int := s * ((m.through (first vc)).p - m.p) + speedDist vc 0 l.dec l.jerk
  let fits (vc : Nat) : Bool := decide ((vc * planQ : Nat) ≤ s * m.v) && decide (way vc ≤ len)
  if ¬ fits 0 then none
  else
    let vc := searchMax fits 21 0
    let hold := if vc = 0 then 0 else roundDiv ((len - way vc) * 100000000) (vc * planQ)
    some (first vc ++ phaseOf 9 0 hold ++ speedChange (s * (vc * planQ : Nat)) 0 0 l.dec l.jerk 9)

/-- The acceleration of a braking state moves to a higher deceleration at the jerk in force (R203). -/
def brakeHarder (m : Motion) (s : Int) (l : Limits) : List Phase :=
  phaseOf 9 (-s * l.jerk) (roundDiv ((l.dec * planQ + s * m.a) * 100000000) (l.jerk * planQ))

/-- The rest of a decelerating move with new values (R203, R204): down to the approach speed wherever they allow, the approach over what is left, and the stop. Behind the approach, or without one, a higher deceleration is taken at once, and the speed that is left carries the leaf to the point where it brakes to the target. -/
def planSlow (m : Motion) (target : Int) (l : Limits) (approach : Bool) : Option (List Phase) :=
  let s : Int := if m.p ≤ target then 1 else -1
  let len := s * (target - m.p)
  let vf := min l.finalSpeed l.speed
  let p5 := speedChange m.v m.a (s * (vf * planQ : Nat)) l.dec l.jerk 5
  let d5 := s * ((m.through p5).p - m.p)
  let d9 : Int := speedDist vf 0 l.dec l.jerk
  if approach ∧ vf ≠ 0 ∧ d5 + d9 ≤ len ∧ s * m.v ≥ (vf * planQ : Nat) then
    some (p5 ++ phaseOf 8 0 (roundDiv ((len - d5 - d9) * 100000000) (vf * planQ)) ++ speedChange (s * (vf * planQ : Nat)) 0 0 l.dec l.jerk 9)
  else
    let p1 := brakeHarder m s l
    let m1 := m.through p1
    match if 0 < s * m1.v then planRest m1 target l else none with
    | some ph => some (p1 ++ ph)
    | none => planRest m target l

/-- The distance, in 2⁻²⁰ µm, in which a state comes to rest straight under R197. -/
def stopDist (m : Motion) (dec jerk : Nat) : Int := (m.through (speedChange m.v m.a 0 dec jerk 9)).p - m.p

/-! ### The trapezoid (R201, R202) -/

/-- Parameters of the trapezoid in 2⁻²⁰ units. -/
structure Trap where
  vStart : Int
  vStop : Int
  v1 : Int
  a1 : Nat
  a2 : Nat

/-- The trapezoid group in force. -/
def Dev.trap (d : Dev) : Trap :=
  { vStart := d.par P.PLAN_TRAP_VSTART * planQ, vStop := d.par P.PLAN_TRAP_VSTOP * planQ, v1 := d.par P.PLAN_TRAP_V1 * planQ
    a1 := d.parN P.PLAN_TRAP_A1, a2 := d.parN P.PLAN_TRAP_A2 }

/-- A segment at a constant acceleration over a change of speed. -/
def segment (dv : Int) (acc : Nat) (sign : Int) : List Phase :=
  if dv ≤ 0 then [] else [{ num := 0, acc := some (sign * (acc * planQ : Nat)), jerk := 0, dur := some (roundDiv (dv * 100000000) (acc * planQ)).toNat }]

/-- A stretch at constant speed until something ends it. -/
def holdSpeed : List Phase := [{ num := 0, acc := some 0, jerk := 0, dur := none }]

/-- The segments from one speed to another in a direction, then that speed until something ends it. -/
def Trap.to (t : Trap) (v vc : Int) (s : Int) : List Phase :=
  if v ≤ vc then segment (min vc t.v1 - v) t.a1 s ++ segment (vc - max v t.v1) t.a2 s ++ holdSpeed
  else segment (v - max vc t.v1) t.a2 (-s) ++ segment (min v t.v1 - vc) t.a1 (-s) ++ holdSpeed

/-- S(v) of R201 in 2⁻²⁰ µm, for a speed in 2⁻²⁰ µm/s. -/
def Trap.stop (t : Trap) (v : Int) : Int :=
  if t.v1 < v then roundDiv (v * v - t.v1 * t.v1) (2 * t.a2 * planQ) + roundDiv (t.v1 * t.v1 - t.vStop * t.vStop) (2 * t.a1 * planQ)
  else max 0 (roundDiv (v * v - t.vStop * t.vStop) (2 * t.a1 * planQ))

/-! ### Moves of the leaf -/

/-- The speed of a direction with every cap in force (R178, R180, R295, R393, and the cap of the move). -/
def Dev.speedCap (opening : Bool) (cap : Nat) (d : Dev) : Nat :=
  let v := d.parN (if opening then P.PLAN_OPEN_SPEED else P.PLAN_CLOSE_SPEED)
  let v := if d.sext.ref = 1 then v else min v (d.parN P.SEXT_LOST_SPEED)
  let v := if d.door.state = 12 then min v (d.parN P.DOOR_MAINT_SPEED) else v
  let v := if ¬ opening ∧ (d.obst.degradedA ≠ 0 ∨ d.obst.degradedB ≠ 0) then min v (d.parN P.OBST_DEGRADED_SPEED) else v
  if cap = 0 then v else min v cap

/-- The limits of a direction in force. -/
def Dev.limitsOf (opening : Bool) (cap : Nat) (d : Dev) : Limits :=
  let b := if opening then P.PLAN_OPEN_ACC else P.PLAN_CLOSE_ACC
  { speed := d.speedCap opening cap, acc := d.parN b, dec := d.parN (b + 1), jerk := d.parN (b + 2)
    finalSpeed := d.parN (b + 3), finalDist := d.parN (b + 4) }

/-- Measured leaf position and speed as a planner state. -/
def Dev.measured (d : Dev) : Motion := { p := roundDiv (d.sext.pInt * d.parN P.SEXT_UM_PER_EDGE * planQ) 65536, v := d.leafSpeed * planQ, a := 0 }

/-- "Profile fallback", each case once per move: 1 Reef 2, 2 dead reckoning, 3 leader lost, 4 S-curve cannot stop (R200). -/
def Dev.fallBack (case : Nat) (d : Dev) : Dev :=
  if d.leaf.fallen.contains case then d
  else
    let d := d.modLeaf fun l => { l with fallback := true, fallen := l.fallen ++ [case] }
    (d.modPilot fun p => { p with learnOk := false }).raise 41 1 0 (u8 case)

/-- The trapezoid runs toward the target from the present set-point (R201, R202). Under dead reckoning (mode 7) it comes down to the creep speed and holds it (R249). -/
def Dev.startTrap (mode : Nat) (d : Dev) : Dev :=
  let l := d.leaf
  let t := d.trap
  let s : Int := if l.opening then 1 else -1
  let lim := d.limitsOf l.opening ((l.move.map (·.cap)).getD 0)
  let vc : Int := (lim.speed * planQ : Nat)
  let v := s * l.sp.v
  let left := s * (l.target - l.sp.p)
  let low := if mode = 7 then max t.vStop vc else t.vStop
  if 0 < v ∧ left < t.stop v then
    -- R202: a constant deceleration, capped at PLAN_EMERG_DEC.
    let cap := d.par P.PLAN_EMERG_DEC * planQ
    let a := if left ≤ 0 then cap else min cap (roundDiv (v * v - t.vStop * t.vStop) (2 * left).toNat)
    let dur := if a ≤ 0 then 0 else roundDiv ((v - low) * 100000000) a.toNat
    let ph : List Phase := if dur ≤ 0 then holdSpeed else { num := 0, acc := some (-s * a), jerk := 0, dur := some dur.toNat } :: holdSpeed
    d.modLeaf fun l => { l with mode := mode, base := { l.sp with a := 0 }, baseTime := d.now, phases := ph, slowing := true, limits := lim }
  else
    let v := if v ≤ 0 then min t.vStart vc else v
    let b : Motion := { p := l.sp.p, v := s * v, a := 0 }
    d.modLeaf fun l => { l with mode := mode, base := b, baseTime := d.now, phases := t.to v vc s, slowing := false, limits := lim }

/-- The cap of a move while dead reckoning or after leader lost: the creep speed. -/
def Dev.creep (d : Dev) : Nat := d.parN P.PILOT_DR_CREEP_SPEED

/-- A move begins from the present set-point (R192, R198 to R202). -/
def Dev.startMove (mv : Move) (d : Dev) : Dev :=
  let high := d.softHigh * d.subUnit
  let limited := mv.toEnd && decide (mv.target ≠ 0) && decide (high < mv.target)
  let target := if limited then high else mv.target
  let opening := decide (d.leaf.sp.p ≤ target)
  let d := if limited then d.raise 40 1 0xFF (i32 (satI 32 (wholeOf high))) else d
  let d := d.modLeaf fun l => { l with
    move := some mv, next := none, target := target, opening := opening, limited := limited, fallback := false, fallen := [], stopping := false
    slowing := false, inPosSince := none, atTarget := false, reduced := false, stillSince := none }
  let d := d.modPilot fun p => { p with
    lastOpening := opening, learnMove := [], stopSince := none, endStop := false
    learnOk := decide (d.par P.PILOT_LEARN_ENABLE = 1) && decide (d.supply.reef = 0) && !d.captureStopped && !mv.trapezoid }
  let d : Dev := { d with obst := { d.obst with contactInMove := false } }
  let d : Dev := if opening then d else { d with sext := { d.sext with indexUsed := false } }
  if mv.trapezoid then d.startTrap 5
  else if 2 ≤ d.supply.reef then (d.fallBack 1).startTrap 2
  else if d.leaf.leaderLost then (d.fallBack 3).startTrap 2
  else
    let lim := d.limitsOf opening mv.cap
    match planMove d.leaf.sp target lim mv.toEnd with
    | some ph => d.modLeaf fun l => { l with mode := 1, base := l.sp, baseTime := d.now, phases := ph, limits := lim }
    | none => (d.fallBack 4).startTrap 2

/-- The axis rests in the planner: no phase runs. -/
def LeafPlan.rests (l : LeafPlan) : Bool := l.phases.isEmpty && decide (l.sp.v = 0) && !l.gearing

/-- The running move is brought to rest: on the emergency ramp, or on the ramp of its own direction (R193, R207). -/
def Dev.rampDown (emergency : Bool) (d : Dev) : Dev :=
  let l := d.leaf
  let trap := l.mode = 2 ∨ l.mode = 5 ∨ l.mode = 7
  if l.rests then d.modLeaf fun l => { l with phases := [], gearing := false, mode := if l.mode = 8 then 8 else 0 }
  else if trap ∧ ¬ emergency then
    let t := d.trap
    let s : Int := if l.sp.v < 0 then -1 else 1
    let v := s * l.sp.v
    let ph := segment (v - max t.vStop t.v1) t.a2 (-s) ++ segment (min v t.v1 - t.vStop) t.a1 (-s)
    -- At or below VSTOP the step to 0 is all that is left (R201).
    let m : Motion := if ph.isEmpty then { l.sp with v := 0, a := 0 } else { l.sp with a := 0 }
    d.modLeaf fun l => { l with mode := 4, sp := m, base := m, baseTime := d.now, phases := ph, slowing := true, gearing := false }
  else
    let lim := d.limitsOf l.opening 0
    let dec := if emergency then d.parN P.PLAN_EMERG_DEC else lim.dec
    let jerk := if emergency then d.parN P.PLAN_EMERG_JERK else lim.jerk
    let ph := speedChange l.sp.v l.sp.a 0 dec jerk 9
    d.modLeaf fun l => { l with mode := if emergency then 3 else 4, base := l.sp, baseTime := d.now, phases := ph, slowing := true, gearing := false }

/-- An axis order in flight ends with a status. -/
def Dev.endAxisOrders (p : Nat × Nat × Nat → Bool) (f : Nat → Dev → Dev) (d : Dev) : Dev :=
  let hit := d.leaf.orders.filter p
  let d := d.modLeaf fun l => { l with orders := l.orders.filter fun o => !p o }
  hit.foldl (fun d o => f o.2.1 d) d

/-- A stop request of R191 for the leaf (R207, R208): a second one during a stop of R207 changes nothing. -/
def Dev.stopLeaf (d : Dev) : Dev :=
  let l := d.leaf
  if l.stopping then d
  else
    let d := d.modPilot fun p => { p with learnOk := false }
    let d := d.modLeaf fun l => { l with next := none, leaderWait := none }
    if l.rests then d
    else
      let heavy := d.par P.PLAN_DRIVE_CLASS = 1
      let already := heavy && decide (l.mode = 4)
      let dr := d.pilot.dr = 1
      let d := if already then d else d.rampDown (!heavy)
      let d := d.modLeaf fun l => { l with stopping := true }
      let d := (d.leaf.orders.filter fun o => o.1 = 0x31 && o.2.2 = 0).foldl (fun d o => d.progress o.2.1 3) d
      if dr then d.modPilot fun p => { p with shortAfterStop := true } else d

/-- The doorway or an axis order calls for a leaf move (R192, R193, R208); one that meets a manual mode starts after the transfer of R260. -/
def Dev.goLeaf (mv : Move) (d : Dev) : Dev :=
  let l := d.leaf
  if d.pilot.leafMode.mode ≠ 0 then d.modLeaf fun l => { l with next := some mv }
  else if l.rests then d.startMove mv
  else if l.stopping then d.modLeaf fun l => { l with next := some mv }
  else
    let opening := decide (l.sp.p ≤ mv.target)
    let same : Bool := match l.move with
      | some m => decide (m.target = mv.target) && decide (opening = l.opening) && decide (l.mode ≠ 4)
      | none => false
    if same then d.modLeaf fun l => { l with move := some mv }
    else if l.mode = 4 then d.modLeaf fun l => { l with next := some mv }
    else (d.rampDown false).modLeaf fun l => { l with next := some mv }

/-! ### Evaluation at a profile update (R191, R202, R203, R212) -/

/-- The current of the standing leaf may be reduced (R209): not in Released, in Landfall, under a manual mode or in winding short. -/
def Dev.reducible (d : Dev) : Bool :=
  decide (d.pilot.leafMode.mode = 0) && !d.pilot.short && decide (d.door.state ≠ 2) && decide (d.door.state ≠ 9) && !d.door.landfall.busy

/-- The leaf set-point is held within the target (R202, R207). -/
def clampTarget (l : LeafPlan) (m : Motion) : Motion × Bool :=
  let past := l.move.isSome && (if l.opening then decide (l.target ≤ m.p) else decide (m.p ≤ l.target))
  if past ∧ l.mode ≠ 7 then ({ p := l.target, v := 0, a := 0 }, true) else (m, false)

/-- A running S-curve follows changed limits (R203): replanned in phases 1 to 4; in phases 5 to 11 for a higher or a tested lower deceleration or a tested lower jerk. -/
def Dev.followLimits (d : Dev) : Dev :=
  let l := d.leaf
  let lim := d.limitsOf l.opening ((l.move.map (·.cap)).getD 0)
  if lim = l.limits then d
  else
    let toEnd := (l.move.map (·.toEnd)).getD false
    let num := (l.phases.head?.map (·.num)).getD 0
    let put (ph : List Phase) (d : Dev) : Dev := d.modLeaf fun l => { l with base := l.sp, baseTime := d.now, phases := ph, limits := lim }
    if l.mode = 2 ∨ l.mode = 5 then
      if l.slowing then d.modLeaf fun l => { l with limits := lim } else d.startTrap l.mode
    else if l.mode ≠ 1 then d
    else if num ≤ 4 then
      match planMove l.sp l.target lim toEnd with
      | some ph => put ph d
      | none => (d.fallBack 4).startTrap 2
    else if lim.dec ≠ l.limits.dec ∨ lim.jerk < l.limits.jerk then
      let used := { lim with
        jerk := min lim.jerk l.limits.jerk, finalSpeed := l.limits.finalSpeed, finalDist := l.limits.finalDist, speed := l.limits.speed }
      match planSlow l.sp l.target used (toEnd && decide (num ≤ 8)) with
      | some ph => put ph d
      | none => d.modLeaf fun l => { l with limits := lim }
    else d.modLeaf fun l => { l with limits := lim }

/-- A lower deceleration or jerk of the moving direction, taken during the deceleration or before it, would carry the leaf past its target (R204). `par` gives the values after the commit. -/
def Dev.infeasible (par : Nat → Int) (d : Dev) : Bool :=
  let l := d.leaf
  if l.mode ≠ 1 ∨ l.phases.isEmpty then false
  else
    let b := if l.opening then P.PLAN_OPEN_ACC else P.PLAN_CLOSE_ACC
    let dec := (par (b + 1)).toNat
    let jerk := (par (b + 2)).toNat
    let lower := decide (dec < l.limits.dec) || decide (jerk < l.limits.jerk)
    let stop := l.sp.p + stopDist l.sp dec jerk
    lower && (if l.opening then decide (l.target < stop) else decide (stop < l.target))

/-- The jerk of a geared update in µm/s³: the acceleration moves toward the one that brings the speed to the gap's within an update, inside the follower's own speed, acceleration and jerk. -/
def gearJerk (lim : Limits) (gap v a : Int) : Int :=
  let vWant := clampI 0 (lim.speed * planQ : Nat) (gap * 4000)
  let aWant := clampI (-(lim.dec * planQ : Nat)) (lim.acc * planQ : Nat) ((vWant - v) * 4000)
  clampI (-(lim.jerk : Int)) lim.jerk (truncDiv ((aWant - a) * 4000) planQ)

/-- A geared update (R212): the set-point follows the leader's scaled position within the follower's own limits, each update a phase evaluated in closed form (R190). Where the way to the target is no longer than a straight stop, gearing ends in that stop. -/
def Dev.gearStep (d : Dev) : Dev :=
  let l := d.leaf
  let lim := d.limitsOf l.opening 0
  let lead := d.leaderPos * planQ
  let want := if l.opening then min lead l.target else max lead l.target
  let s : Int := if l.opening then 1 else -1
  let (m, _, _, _) := runPhases d.now l.base l.baseTime l.phases
  let m : Motion := if s * m.v < 0 then { m with v := 0, a := 0 } else m
  let (m, past) := clampTarget l m
  let left := s * (l.target - m.p)
  let lag := wholeOf (m.p - lead)
  let far := d.parN P.PLAN_FOLLOW_LAG_MAX < lag.natAbs
  let ends := past || decide (left ≤ s * stopDist m lim.dec lim.jerk)
  let ph : List Phase := if past then [] else if ends then speedChange m.v m.a 0 lim.dec lim.jerk 9
    else [{ num := 0, jerk := s * gearJerk lim (s * (want - m.p)) (s * m.v) (s * m.a), dur := some (us 250) }]
  let d := d.modLeaf fun l => { l with
    sp := m, base := m, baseTime := d.now, phases := ph, gearing := !ends, gearLagged := decide far, limits := lim
    mode := if past then 0 else if ends then 1 else 6 }
  if far ∧ ¬ l.gearLagged then d.raise 42 1 0xFF (i32 (satI 32 lag)) else d

/-- The next move starts once the stop has ended (R192), or the axis idles. -/
def Dev.afterStop (d : Dev) : Dev :=
  let d := d.modLeaf fun l => { l with stopping := false, mode := 0, move := none, phases := [], base := l.sp, limits := {} }
  let ended (p : Pilot) : Pilot := { p with short := true, shortAfterStop := false, dr := if p.dr = 1 ∧ p.drEnding then 2 else p.dr }
  let d := if d.pilot.shortAfterStop then d.modPilot ended else d
  match d.leaf.next with
  | some mv => if d.leaf.leaderWait.isSome then d else d.startMove mv
  | none => d

/-- A leaf whose move has ended is idle (R227); homing and dead reckoning end by rules of their own. -/
def LeafPlan.idle (l : LeafPlan) : LeafPlan := { l with mode := if l.mode = 1 ∨ l.mode = 2 ∨ l.mode = 6 then 0 else l.mode }

/-- Leaf set-points at a profile update (R191, row 5). -/
def Dev.evalLeaf (d : Dev) : Dev :=
  let l := d.leaf
  if d.pilot.leafMode.mode ≠ 0 then
    let m : Motion := { d.measured with v := 0 }
    d.modLeaf fun l => { l with mode := 8, phases := [], gearing := false, sp := m, base := m, move := none, stopping := false }
  else if l.gearing then d.gearStep
  else if l.phases.isEmpty then
    if (l.mode = 3 ∨ l.mode = 4) ∨ l.stopping then d.afterStop
    else
      let d := if l.mode = 8 then d.modLeaf fun l => { l with mode := 0 } else d
      if l.move.isNone ∧ ¬ d.modulating then
        let m : Motion := { d.measured with v := 0 }
        d.modLeaf fun l => { l with sp := m, base := m }
      else d
  else
    let d := d.followLimits
    let l := d.leaf
    let (m, b, t0, ph) := runPhases d.now l.base l.baseTime l.phases
    let trap := (l.mode = 2 ∨ l.mode = 5) ∧ ¬ l.slowing
    let s : Int := if l.opening then 1 else -1
    let left := s * (l.target - m.p)
    let (m2, past) := clampTarget l m
    if past then d.modLeaf fun l => { l with sp := m2, base := m2, baseTime := d.now, phases := [] }.idle
    else if ph.isEmpty then
      -- The last set-point of a move equals its target exactly (R190).
      let fin : Motion := if l.mode = 1 then { p := l.target, v := 0, a := 0 } else m
      d.modLeaf fun l => { l with sp := fin, base := fin, baseTime := d.now, phases := [] }.idle
    else
      let d := d.modLeaf fun l => { l with sp := m, base := b, baseTime := t0, phases := ph }
      let t := d.trap
      if trap ∧ left ≤ t.stop (s * m.v) then
        let v := s * m.v
        let dn := segment (v - max t.vStop t.v1) t.a2 (-s) ++ segment (min v t.v1 - t.vStop) t.a1 (-s) ++ holdSpeed
        d.modLeaf fun l => { l with base := { m with a := 0 }, baseTime := d.now, phases := dn, slowing := true }
      else d

/-- Standstill bookkeeping of the leaf at a profile update (R195, R209). The full current limit returns when the position error leaves PLAN_INPOS_WINDOW or a move starts. -/
def Dev.judgeStill (d : Dev) : Dev :=
  let l := d.leaf
  let slow := decide ((d.leafSpeed.natAbs : Int) ≤ d.par P.PLAN_STANDSTILL_SPEED)
  let err := (d.leafPos - wholeOf l.sp.p).natAbs
  let window := d.parN P.PLAN_INPOS_WINDOW
  let inPos := l.move.isSome && l.phases.isEmpty && decide (l.sp.p = l.target) && slow
    && decide ((d.leafPos - wholeOf l.target).natAbs ≤ window) && !l.gearing
  let still := slow && l.rests
  d.modLeaf fun l => { l with
    inPosSince := if inPos then (match l.inPosSince with | some t => some t | none => some d.now) else none
    stillSince := if still then (match l.stillSince with | some t => some t | none => some d.now) else none
    reduced := l.reduced && l.rests && decide (err ≤ window) && d.reducible }

/-- The standstill reduction of the leaf current may begin (R209). -/
def Dev.mayReduce (d : Dev) : Bool :=
  !d.leaf.reduced && d.reducible && d.modulating && (match d.leaf.stillSince with
    | some t => decide (ms (d.parN P.PLAN_HOLD_DELAY) ≤ d.now - t)
    | none => false)

/-- Dead reckoning takes the trapezoid from the present state, capped at the creep speed (R200, R249). -/
def Dev.enterDr (d : Dev) : Dev :=
  if d.pilot.dr ≠ 1 ∨ d.leaf.mode = 7 ∨ d.leaf.stopping then d
  else
    let d := d.fallBack 2
    let d := d.modLeaf fun l => { l with
      opening := false, target := 0, gearing := false
      move := some { target := 0, toEnd := true, cap := d.creep } }
    d.startTrap 7

/-- Entering Reef 2: a running S-curve, and a geared move, go on as a trapezoid (R91, R200). -/
def Dev.reefFallback (d : Dev) : Dev :=
  if 2 ≤ d.supply.reef ∧ ((d.leaf.mode = 1 ∧ ¬ d.leaf.phases.isEmpty) ∨ d.leaf.gearing) then
    ((d.modLeaf fun l => { l with gearing := false }).fallBack 1).startTrap 2
  else d

/-- A follower whose leader is lost leaves gearing: closing it completes the stroke at the creep speed, opening it stops (R38). -/
def Dev.leaveGearing (d : Dev) : Dev :=
  if ¬ d.leaf.leaderLost ∨ ¬ d.leaf.gearing then d
  else
    let d := d.modLeaf fun l => { l with gearing := false }
    if d.leaf.opening then d.rampDown false
    else
      let d := d.modLeaf fun l => { l with move := l.move.map fun m => { m with cap := d.creep } }
      (d.fallBack 3).startTrap 2

/-- A homing move of the leaf (R224). -/
def Dev.homeLeaf (d : Dev) : Dev :=
  let d := d.modLeaf fun l => { l with homeEdges := [] }
  let start := d.leafPos
  d.goLeaf { target := d.goalOf (start - (d.par P.SEXT_SOFT_HIGH - d.par P.SEXT_SOFT_LOW)), toEnd := false, cap := d.parN P.DOOR_SEEK_SPEED, trapezoid := true }

/-- The end of an AXIS_HOME of an axis with a result of R226. -/
def Dev.homeEnds (axis result : Nat) (d : Dev) : Dev :=
  let d := d.raise 39 0 axis (u8 result)
  d.endAxisOrders (fun o => o.1 = 0x30 && o.2.2 = axis) fun slot d => d.done slot (u8 result)

/-- REFSW has been accepted while the leaf homes or seeks: it stops at the datum (R224). The correction that waits is still to move the counter, and the set-point with it (R292), so the datum lies at the correction's negative until then. -/
def Dev.homeAccepted (d : Dev) : Dev :=
  if d.leaf.mode ≠ 5 then d
  else
    let m : Motion := { p := -(d.sext.correction.getD 0) * d.subUnit, v := 0, a := 0 }
    d.modLeaf fun l => { l with mode := 0, target := 0, opening := false, move := some { target := 0, toEnd := true }, phases := [], sp := m, base := m, baseTime := d.now }

/-- Leaf homing fails with a result: the leaves stop where they are (R222, R224). -/
def Dev.homeLeafFails (result : Nat) (d : Dev) : Dev :=
  let d := d.modLeaf fun l => { l with homeResult := result }
  let d := d.rampDown false
  d.homeEnds 0 result

/-- Leaf homing at a profile update: the end stop, or the target, without REFSW. -/
def Dev.judgeHoming (d : Dev) : Dev :=
  if d.leaf.mode = 5 ∧ (d.pilot.endStop ∨ d.leaf.phases.isEmpty) then d.homeLeafFails 2 else d

/-- A transition of REFSW while the leaf homes or seeks: more than four within 20 ms fail the homing as unstable (R222, R224). -/
def Dev.refswMoved (d : Dev) : Dev :=
  if d.leaf.mode ≠ 5 then d
  else
    let edges := (d.leaf.homeEdges.filter fun t => d.now - t ≤ ms 20) ++ [d.now]
    let d := d.modLeaf fun l => { l with homeEdges := edges }
    if 4 < edges.length then d.homeLeafFails 1 else d

/-! ### The step axis (R210 to R220) -/

/-- Step speed in force: capped at 4,096,000 microsteps per second (R213). -/
def Dev.stepSpeed (v : Nat) (d : Dev) : Nat := min v (4096000000 / d.parN P.PLAN_STEP_USTEP_PER_MM)

/-- The step's limits at a speed (R215). -/
def Dev.stepLimits (v : Nat) (d : Dev) : Limits :=
  let a := d.parN P.PLAN_STEP_ACC
  { speed := d.stepSpeed v, acc := a, dec := a, jerk := d.parN P.PLAN_STEP_JERK }

/-- The step sets out for a target at a speed, or changes its speed on the way (R215). Every move starts at PLAN_STEP_I_RUN (R217). -/
def Dev.goStep (target : Int) (v : Nat) (d : Dev) : Dev :=
  let ph := (planMove d.step.sp (target * planQ) (d.stepLimits v) false).getD []
  d.modStep fun s => { s with
    mode := if s.home ≠ 0 then 5 else 1, target := target, speed := v, base := s.sp, baseTime := d.now, phases := ph
    arrived := false, inPosSince := none, atTarget := false
    stopping := false, reduced := false, stalled := false, stallCount := 0, amplitude := d.parN P.PLAN_STEP_I_RUN }

/-- The step stops on its programmed ramp or on its emergency ramp (R215). -/
def Dev.rampStep (emergency : Bool) (d : Dev) : Dev :=
  let s := d.step
  let dec := d.parN (if emergency then P.PLAN_STEP_EMERG_DEC else P.PLAN_STEP_ACC)
  let jerk := d.parN (if emergency then P.PLAN_STEP_EMERG_JERK else P.PLAN_STEP_JERK)
  let ph := if s.phases.isEmpty then [] else speedChange s.sp.v s.sp.a 0 dec jerk 9
  d.modStep fun s => { s with
    mode := if ph.isEmpty then (if s.home ≠ 0 then 5 else 0) else if emergency then 3 else 4
    base := s.sp, baseTime := d.now, phases := ph, stopping := emergency && !ph.isEmpty, arrived := false, atTarget := false, inPosSince := none }

/-- A stop request for the step (R215); a second one changes nothing. -/
def Dev.stopStep (d : Dev) : Dev :=
  if d.step.stopping then d
  else ((d.leaf.orders.filter fun o => o.1 = 0x31 && o.2.2 = 1).foldl (fun d o => d.progress o.2.1 3) d).rampStep true

/-- A stop request for an axis; linked axes stop together (R211). -/
def Dev.stopAxis (axis : Nat) (d : Dev) : Dev :=
  let d := if axis = 0 ∨ axis = 2 ∨ d.leaf.linked then d.stopLeaf else d
  if axis = 1 ∨ axis = 2 ∨ d.leaf.linked then d.stopStep else d

/-- The microstep count of a position in 2⁻²⁰ µm (R213). -/
def Dev.countOf (p : Int) (d : Dev) : Int := satI 32 (roundDiv (p * d.parN P.PLAN_STEP_USTEP_PER_MM) (1000 * planQ))

/-- The step rests at its target since (R195): its measured position is its count. -/
def StepPlan.standing (now : Nat) (s : StepPlan) : StepPlan :=
  { s with inPosSince := if s.arrived then (match s.inPosSince with | some t => some t | none => some now) else none }

/-- Step set-points at a profile update. A stalled step keeps its count (R218). -/
def Dev.evalStep (d : Dev) : Dev :=
  let s := d.step
  let d := d.modStep fun s => { s with countPrev := s.count }
  if s.stalled then d.modStep fun s => { s with phases := [], mode := 0, stopping := false, arrived := false, sp := { s.sp with v := 0, a := 0 } }
  else if s.phases.isEmpty then
    if s.mode = 3 ∨ s.mode = 4 then d.modStep fun s => { s with mode := if s.home ≠ 0 then 5 else 0, stopping := false }
    else if s.mode = 1 then
      d.modStep fun s => ({ s with mode := 0, arrived := decide (s.sp.p = s.target * planQ) } : StepPlan).standing d.now
    else d.modStep fun s => s.standing d.now
  else
    let (m, b, t0, ph) := runPhases d.now s.base s.baseTime s.phases
    let ended := ph.isEmpty && !(s.mode = 3 || s.mode = 4)
    let m := if ended then { p := s.target * planQ, v := 0, a := 0 } else m
    let c := d.countOf m.p
    d.modStep fun s => ({ s with
      sp := m, base := if ph.isEmpty then m else b, baseTime := t0, phases := ph, count := c
      stillSince := if c = s.count then s.stillSince else d.now
      arrived := ended && decide (s.mode = 1), mode := if ended && decide (s.mode = 1) then 0 else s.mode } : StepPlan).standing d.now

/-- The step holds its current at standstill: R210. -/
def Dev.stepHold (d : Dev) : Dev :=
  let s := d.step
  if s.reduced ∨ ¬ s.phases.isEmpty ∨ s.stalled ∨ d.now - s.stillSince < ms (d.parN P.PLAN_STEP_HOLD_DELAY) then d
  else d.modStep fun s => { s with reduced := true, amplitude := d.parN P.PLAN_STEP_I_HOLD }

/-- A stall of the step (R218): the count freezes and the position is unverified. -/
def Dev.stepStall (d : Dev) : Dev :=
  let d := d.modStep fun s => { s with
    stalled := true, unverified := true, phases := [], stopping := false, mode := 0, sp := { s.sp with v := 0, a := 0 }, amplitude := d.parN P.PLAN_STEP_I_MAX }
  let d := d.raise 44 2 0xFF (i32 (satI 32 d.stepPos) ++ u16 (satU 16 d.step.amplitude))
  d.endAxisOrders (fun o => o.1 = 0x31 && o.2.2 = 1) fun s d => d.abort (some s) 2

/-- Every 1 ms while the step moves the amplitude follows the load angle, in ‰ of 90° (R217, R218). -/
def Dev.stepAdapt (angle : Nat) (d : Dev) : Dev :=
  let s := d.step
  if s.phases.isEmpty ∨ d.par P.SYS_STEP_FITTED = 0 then d
  else
    let target := d.parN P.PLAN_STEP_LOAD_TARGET
    let v := (wholeOf s.sp.v).natAbs
    let i := if v < d.parN P.PLAN_STEP_ADAPT_MIN_SPEED then d.parN P.PLAN_STEP_I_RUN
      else if target + 55 < angle then s.amplitude + d.parN P.PLAN_STEP_I_UP
      else if angle + 55 < target then s.amplitude - d.parN P.PLAN_STEP_I_DOWN else s.amplitude
    let lo := d.parN P.PLAN_STEP_I_MIN
    let hi := d.parN P.PLAN_STEP_I_MAX
    let i := if i < lo then lo else if hi < i then hi else i
    let n := if 900 ≤ angle ∧ s.amplitude = hi then s.stallCount + 1 else 0
    let d := d.modStep fun s => { s with amplitude := i, loadAngle := angle, stallCount := n }
    if n = 8 then d.stepStall else d

/-! ### Step homing (R222, R223) -/

/-- The homing switch of the step. -/
def Dev.homeSwitch (d : Dev) : SwitchFilter := if d.par P.PLAN_HOME_SWITCH = 0 then d.step.shome else d.step.slimRet

/-- A homing step begins: travel counts from here, where the step is to go and how fast. -/
def Dev.homeStep (n : Nat) (d : Dev) : Dev :=
  let d := d.modStep fun s => { s with home := n, homeStart := s.sp.p }
  let d := (d.leaf.orders.filter fun o => o.1 = 0x30 && o.2.2 = 1).foldl (fun d o => d.progress o.2.1 n) d
  let fast := d.parN P.PLAN_HOME_FAST
  let slow := d.parN P.PLAN_HOME_SLOW
  let far := d.par P.PLAN_HOME_MAX_TRAVEL + 1000
  let pos := wholeOf d.step.sp.p
  let back := d.par P.PLAN_HOME_BACKOFF
  if n = 1 then d.goStep (pos + far) fast
  else if n = 2 then d.goStep (pos - far) fast
  else if n = 3 then d.goStep (wholeOf d.step.homeEdge + back) fast
  else if n = 4 then d.goStep (pos - 2 * back - 1000) slow
  else if n = 5 then d.goStep 0 slow
  else d.modStep fun s => { s with homeWait := d.now, mode := 5 }

/-- Homing of the step begins (R223). -/
def Dev.homeStepAxis (d : Dev) : Dev :=
  let d := d.modStep fun s => { s with homeEdges := [], accepted := false, find := 0 }
  if d.homeSwitch.level then d.homeStep 1 else d.homeStep 2

/-- The retracting homing ends with a result of R226. -/
def Dev.homeStepEnds (result : Nat) (d : Dev) : Dev :=
  let d := d.modStep fun s => { s with home := 0, homeResult := result, mode := 0, unverified := if result = 0 then false else s.unverified }
  d.homeEnds 1 result

/-- A retraction begins: homing while the position is unverified (R171, R218). -/
def Dev.retractStep (d : Dev) : Dev :=
  let d := d.modStep fun s => { s with find := 0 }
  if d.step.unverified then d.homeStepAxis else d.goStep 0 (d.parN P.PLAN_STEP_SPEED)

/-- Platform find begins (R219). -/
def Dev.deployStep (d : Dev) : Dev :=
  let d := d.modStep fun s => { s with find := 1, findStops := 0, home := 0 }
  d.goStep (d.par P.PLAN_STEP_EXT_MAX) (d.parN P.PLAN_STEP_SPEED)

/-- Platform contact in find steps 1 and 2 (R219). -/
def Dev.platformContact (d : Dev) : Dev :=
  let s := d.step
  if s.find = 1 ∨ s.find = 2 then
    let d := if s.find = 1 then d.raise 46 1 0xFF (i32 (satI 32 (wholeOf s.sp.p))) else d
    (d.rampStep true).modStep fun s => { s with find := 3, stopping := false }
  else d

/-- The reply data of AXIS_STATE (R227). Leaf homing has no numbered steps; it reports step 1. -/
def Dev.axisState (axis : Nat) (d : Dev) : List Byte :=
  let l := d.leaf
  let s := d.step
  let phase (mode : Nat) (ph : List Phase) (home : Nat) : Nat :=
    if mode = 1 ∨ mode = 3 ∨ mode = 4 then (ph.head?.map (·.num)).getD 0 else if mode = 5 then home else 0
  let w (v : Int) : List Byte := i32 (satI 32 v)
  if axis = 0 then
    u8 0 ++ u8 l.mode ++ u8 (phase l.mode l.phases 1)
      ++ u8 (bitsOf [d.axisMoving 0, l.atTarget, l.linked, l.reduced, false, l.fallback, l.limited])
      ++ w (wholeOf l.target) ++ w (wholeOf l.sp.p) ++ w (wholeOf l.sp.v) ++ w (wholeOf l.sp.a) ++ w d.leafPos
      ++ w (if d.pilot.dr = 1 then d.pilot.vObs else d.leafSpeed) ++ w d.leafLimit
      ++ u16 0 ++ u8 l.homeResult ++ u8 0 ++ u32 0
  else
    u8 1 ++ u8 (if d.pilot.stepMode.mode ≠ 0 then 8 else s.mode) ++ u8 (phase s.mode s.phases s.home)
      ++ u8 (bitsOf [d.axisMoving 1, s.atTarget, l.linked, s.reduced, s.unverified])
      ++ w s.target ++ w (wholeOf s.sp.p) ++ w (wholeOf s.sp.v) ++ w (wholeOf s.sp.a) ++ w d.stepPos ++ w (wholeOf s.sp.v) ++ w s.amplitude
      ++ u16 s.loadAngle ++ u8 s.homeResult ++ u8 0 ++ i32 s.count

end Sys2Proof.Machine
end

