-- ==== Sys2Proof/Machine/SkinOps.lean ====
section
/-! DEFINITION. The Sounding engine (chapter 10): ports and tiles, packets, training, frames, baselines and thresholds, suspect taxels, contacts and their identities, strip faults, legacy edges, and the skin queries. -/

namespace Sys2Proof.Machine

/-! ### Ports -/

/-- The Sounding engine changed. -/
def Dev.modSkin (f : Skin → Skin) (d : Dev) : Dev := { d with skin := f d.skin }

/-- A port. -/
def Dev.port (d : Dev) (p : Nat) : Port := d.skin.ports.getD p {}

/-- One port changed. -/
def Dev.modPort (p : Nat) (f : Port → Port) (d : Dev) : Dev := d.modSkin fun s => { s with ports := modAt f p s.ports }

/-- Tiles commissioned on a port (R332). -/
def Dev.portTiles (d : Dev) (p : Nat) : Nat := if p = 2 then 1 else d.parN (if p = 0 then P.SKIN_A_TILES else P.SKIN_B_TILES)

/-- SKIN_x_ORIENT. -/
def Dev.portOrient (d : Dev) (p : Nat) : Nat := d.parN ([P.SKIN_A_ORIENT, P.SKIN_B_ORIENT, P.SKIN_C_ORIENT].getD p P.SKIN_C_ORIENT)

/-- SKIN_x_BASE. -/
def Dev.portBase (d : Dev) (p : Nat) : Int := d.par ([P.SKIN_A_BASE, P.SKIN_B_BASE, P.SKIN_C_BASE].getD p P.SKIN_C_BASE)

/-- Along pitch in µm (R332). -/
def portPitch (p : Nat) : Nat := if p = 2 then 5000 else 500

/-- The port takes part in frames: trained and not suspended, its link up. -/
def Port.framed (p : Port) : Bool :=
  p.state = 2 || p.state = 3 || p.state = 4 || (p.state = 1 && p.trainStart.isNone && !p.tiles.isEmpty) || (p.state = 5 && p.cause = 3)

/-- Orders on SKIN_PORT_SET of a port that meet a condition on their action end. -/
def Dev.endPortOrders (p : Nat) (which : Nat → Bool) (f : Nat → Dev → Dev) (d : Dev) : Dev :=
  let hit := d.skin.setOrders.filter fun o => o.1 = p && which o.2.1
  let d := d.modSkin fun s => { s with setOrders := s.setOrders.filter fun o => !(o.1 = p && which o.2.1) }
  hit.foldl (fun d o => f o.2.2 d) d

/-- A command of the module to the tiles (R340). -/
def tileCommand (code address arg : Nat) : List Byte :=
  let body := u8 code ++ u8 address ++ u32 arg
  body ++ u16 (crc16 body)

/-- A command goes down a port's chain. -/
def Dev.tellTiles (p code address arg : Nat) (d : Dev) : Dev := d.modPort p fun q => { q with sent := q.sent ++ [tileCommand code address arg] }

/-- SET_MODE for a scan mode: the mode and the delta band (R340). -/
def Dev.sendMode (p scan : Nat) (d : Dev) : Dev :=
  let arg := scan + 16 * d.parN P.SKIN_DELTA_BAND
  (d.modPort p fun q => { q with modeArg := arg }).tellTiles p 0x02 0xFF arg

/-- The order SKIN_BASELINE_REBUILD ends when one of its ports can no longer rebuild. -/
def Dev.loseRebuild (p : Nat) (f : Nat → Dev → Dev) (d : Dev) : Dev := match d.skin.rebuildOrder with
  | some (m, slot) => if bitAt m p then f slot (d.modSkin fun s => { s with rebuildOrder := none }) else d
  | none => d

/-- A port takes a state, with the events of R361 and R576. -/
def Dev.portState (p state cause : Nat) (d : Dev) : Dev :=
  let old := d.port p
  let d := d.modPort p fun q => { q with state := state, cause := cause }
  let bad := state = 4 ∨ state = 5
  let data := u8 state ++ u8 (if state = 4 then 0 else cause)
  let d :=
    if bad then
      if ¬ d.host.stands 98 p then d.onset 98 2 p data
      else if old.state ≠ state ∨ old.cause ≠ cause then d.raiseAt 98 2 0 p data d.chron.time else d
    else if state = 3 ∧ d.host.stands 98 p then (d.endStanding 98 p).raise 99 0 p (u8 state)
    else d
  if state = 3 ∨ state = 4 then d.endPortOrders p (fun a => a ≠ 0) fun slot d => d.done slot []
  else d

/-- A port fault that ends its link: 1 no lock, 2 chain mismatch. Training retries 100 ms later (R361). -/
def Dev.portFault (p cause : Nat) (d : Dev) : Dev :=
  let d := d.modPort p fun q => { q with trainStart := none, retryAt := some (d.now + ms 100), rebuild := none, contacts := [], lines := [], candidates := [] }
  let d := d.portState p 5 cause
  (d.endPortOrders p (fun a => a ≠ 0) fun slot d => d.abort (some slot) 2).loseRebuild p fun slot d => d.abort (some slot) 2

/-- Training of a port begins (R344). -/
def Dev.startTraining (p : Nat) (d : Dev) : Dev :=
  d.modPort p fun q => { q with
    state := 1, trainStart := some d.now, trainCount := satU 16 (q.trainCount + 1), retryAt := none, goodFrames := 0, suspended := false, contacts := []
    rebuild := none, sent := [] }

/-- Training of every enabled port begins: step 11 of start-up. -/
def Dev.trainAll : List Nat → Dev → Dev
  | [], d => d
  | p :: ps, d => trainAll ps (if d.portLink p = 1 then d.startTraining p else d.modPort p fun q => { q with state := 0 })

/-! ### Training results (R344, R345) -/

/-- The tiles found make the chain that is commissioned: types, number and end of chain. -/
def Dev.chainOk (p : Nat) (tiles : List TileIn) (d : Dev) : Bool :=
  decide (tiles.length = d.portTiles p) && tiles.all (fun t => t.type = if p = 2 then 2 else 1)
    && (match tiles.getLast? with
      | some t => t.endOfChain
      | none => false)

/-- A stored serial number, 0 for none. -/
def Dev.serialAt (p k : Nat) (d : Dev) : Nat := sget 0 (16 * p + k) d.nv.serials

/-- Serial numbers that differ from those stored raise "tile replaced" and are stored. A first number, with none stored, is stored without an event. -/
def Dev.storeSerials (p : Nat) : Nat → List TileIn → Dev → Dev
  | _, [], d => d
  | k, t :: ts, d =>
    let old := d.serialAt p k
    let d := if old ≠ 0 ∧ old ≠ t.serial then d.raise 100 1 p (u8 k ++ u64 old ++ u64 t.serial) else d
    let d := { d with nv := { d.nv with serials := sset 0 (16 * p + k) t.serial d.nv.serials } }
    storeSerials p (k + 1) ts d

/-- Every taxel row of a port of n tiles, blank. -/
def blankRows (n : Nat) : List TaxelRow := List.replicate (32 * n) {}

/-- A rebuild of a port waits for its first frame. -/
def Dev.armRebuild (p : Nat) (d : Dev) : Dev :=
  d.modPort p fun q => { q with
    rebuild := some 0, rebuildBinned := d.skin.binned, medians := 0, contacts := [], lines := [], candidates := [], band := none, confirmed := false
    rows := q.rows.map fun r => ({ r with sum := [], label := [] } : TaxelRow) }

/-- A rebuild of a port begins (R350). -/
def Dev.startRebuild (p : Nat) (d : Dev) : Dev := (d.armRebuild p).portState p 2 0

/-- The tiles of an enumeration; the faults of an address stand until R360 clears them. -/
def foundTiles (old : List Tile) (found : List TileIn) : List Tile :=
  (numbered found).map fun (k, t) =>
    let faults := match old[k]? with
      | some o => o.faults
      | none => 0
    { type := t.type, serial := t.serial, hw := t.hw, fw := t.fw, endOfChain := t.endOfChain, faults := faults }

/-- How the training of a port went. The port reports training until its first sync (R345). -/
def Dev.endTraining (p : Nat) (t : TrainIn) (d : Dev) : Dev :=
  let q := d.port p
  if q.trainStart.isNone then d
  else if ¬ t.locked then d.portFault p 1
  else
    let tiles := foundTiles q.tiles t.tiles
    let d := d.tellTiles p 0x01 0xFF 0
    if ¬ d.chainOk p t.tiles then (d.modPort p fun q => { q with tiles := tiles }).portFault p 2
    else
      let changed := (numbered t.tiles).any fun (k, t) => d.serialAt p k ≠ t.serial
      let d := d.storeSerials p 0 t.tiles
      let d := d.modPort p fun q => { q with
        tiles := tiles, trainStart := none, goodFrames := 0
        rows := if q.rows.length = 32 * tiles.length then q.rows.map fun r => ({ r with lost := false } : TaxelRow) else blankRows tiles.length }
      let d := d.sendMode p (if d.skin.binned then 2 else d.parN P.SKIN_SCAN_MODE)
      if changed ∨ q.baselines = 0 then d.armRebuild p else d

/-! ### Packets (R337, R338, R343) -/

/-- The 12-bit values packed in pairs. -/
def unpack12 : Nat → List Byte → List Nat
  | 0, _ => []
  | n + 1, bs =>
    let w := fieldAt 0 3 bs
    bitsAt w 11 0 :: bitsAt w 23 12 :: unpack12 n (bs.drop 3)

/-- Payload length that fits a type. -/
def tileLength (type : Nat) (payload : List Byte) : Nat :=
  if type = 0x10 then 40 else if type = 0x11 then 384
  else if type = 0x12 then
    let m := ((List.range 256).filter fun j => bitAt (fieldAt 0 32 payload) j).length
    32 + 3 * ((m + 1) / 2)
  else if type = 0x13 then 96 else if type = 0x20 then 4 else if type = 0x21 then 20 else 65536

/-- Values put where a map has its bits set. -/
def putChanged (map : Nat) : Nat → List Nat → List Nat → List Nat
  | _, [], _ => []
  | j, x :: xs, vs =>
    if bitAt map j then match vs with
      | v :: rest => v :: putChanged map (j + 1) xs rest
      | [] => x :: putChanged map (j + 1) xs []
    else x :: putChanged map (j + 1) xs vs

/-- A list brought to 256 entries. -/
def fill256 {α : Type} (dflt : α) (l : List α) : List α := if l.length = 256 then l else (List.range 256).map fun j => l.getD j dflt

/-- A kept row packet put into its row. -/
def TaxelRow.take (type : Nat) (payload : List Byte) (r : TaxelRow) : TaxelRow :=
  let now := if r.received then r.fresh else r.x
  let x :=
    if type = 0x11 then unpack12 128 payload
    else if type = 0x13 then (unpack12 32 payload).flatMap fun v => [v, v, v, v]
    else putChanged (fieldAt 0 32 payload) 0 (fill256 0 now) (unpack12 128 (payload.drop 32))
  { r with fresh := x, received := true }

/-- A kept header put into its tile. -/
def Tile.takeHeader (payload : List Byte) (t : Tile) : Tile :=
  { t with header := some (fieldAt 0 4 payload), temp := sfieldAt 4 2 payload, status := fieldAt 6 1 payload
           tested := fieldAt 7 1 payload % 32, testMap := fieldAt 8 32 payload }

/-- A tile packet that came whole, its bytes from offset 0 to the check, with the code violations in it. -/
def Dev.tilePacket (p : Nat) (bytes : List Byte) (violations : Nat) (d : Dev) : Dev :=
  let q := d.port p
  if ¬ d.skin.running ∨ ¬ q.framed then d
  else
    let d := d.modPort p fun q => { q with
      chars := q.chars + bytes.length + 2, codeCount := satU 16 (q.codeCount + violations), frameCodes := q.frameCodes + violations }
    if 8 ≤ (d.port p).frameCodes then d.portFault p 1
    else if violations ≠ 0 then d
    else
      let n := fieldAt 4 2 bytes
      let type := fieldAt 0 1 bytes
      let payload := (bytes.drop 6).take n
      if bytes.length ≠ n + 10 then d.modPort p fun q => { q with checkCount := satU 16 (q.checkCount + 1) }
      else if crc32c (bytes.take (6 + n)) ≠ fieldAt (6 + n) 4 bytes then
        d.modPort p fun q => { q with checkCount := satU 16 (q.checkCount + 1) }
      else
        let tile := fieldAt 1 1 bytes % 16
        let row := fieldAt 3 1 bytes
        let rowType := type = 0x11 ∨ type = 0x12 ∨ type = 0x13
        let fits := tileLength type payload = n ∧ fieldAt 2 1 bytes = d.skin.frame % 256 ∧ tile < q.tiles.length
          ∧ (rowType → row < 32 ∧ (type = 0x13 ↔ q.scan = 2))
        if ¬ fits then d
        else if type = 0x10 then d.modPort p fun q => { q with tiles := modAt (Tile.takeHeader payload) tile q.tiles }
        else if rowType then d.modPort p fun q => { q with rows := modAt (TaxelRow.take type payload) (32 * tile + row) q.rows }
        else d

/-! ### The start of a frame (R341) -/

/-- One port at a sync. -/
def Dev.syncPort (binned : Bool) (p : Nat) (d : Dev) : Dev :=
  let q := d.port p
  if ¬ q.framed then d
  else
    let scan := if binned then 2 else d.parN P.SKIN_SCAN_MODE
    let clear (r : TaxelRow) : TaxelRow := { r with received := false }
    let d := d.modPort p fun q => { q with
      scan := scan, chars := 0, frameCodes := 0, rows := q.rows.map clear, realign := q.realign || (decide (q.scan = 2) && !binned)
      tiles := q.tiles.map fun t => ({ t with header := none } : Tile), sent := [] }
    -- A change of mode goes out before the sync at which it takes effect.
    let d := if q.modeArg ≠ scan + 16 * d.parN P.SKIN_DELTA_BAND then d.sendMode p scan else d
    if q.rebuild.isSome ∧ (q.rebuildBinned ≠ binned ∨ q.state = 1) then d.startRebuild p else d

/-- A sync goes out on every enabled port. -/
def Dev.frameSync (d : Dev) : Dev :=
  let binned := decide (2 ≤ d.supply.reef)
  let d := d.modSkin fun s => { s with frame := s.frame + 1, frameTime := d.chron.time, running := true, binned := binned }
  ((d.syncPort binned 0).syncPort binned 1).syncPort binned 2

/-! ### Reception and tile faults (R343, R360) -/

/-- A tile's row was received: kept, or, in delta mode, left out by the mask of a kept header; without its header no row of a tile is received in delta mode. -/
def rowReceived (scan : Nat) (t : Tile) (r : Nat) (row : TaxelRow) : Bool :=
  if scan = 1 then (match t.header with
    | some mask => row.received || !bitAt mask r
    | none => false)
  else row.received

/-- The rows of tile k as numbered pairs. -/
def Port.tileRows (q : Port) (k : Nat) : List (Nat × TaxelRow) := numbered ((q.rows.drop (32 * k)).take 32)

/-- A tile enters or leaves fault with its causes; the events of R360. -/
def Dev.setTileFaults (p k faults : Nat) (d : Dev) : Dev :=
  let q := d.port p
  let old := (q.tiles.getD k { type := 0, serial := 0, hw := 0, fw := 0, endOfChain := false }).faults
  let others := (numbered q.tiles).any fun (i, t) => i ≠ k && t.faults ≠ 0
  let d := d.modPort p fun q => { q with tiles := modAt (fun t => { t with faults := faults }) k q.tiles }
  if old = 0 ∧ faults ≠ 0 then
    let data := u8 k ++ u8 faults
    if others then d.raiseAt 96 2 0 p data d.chron.time else d.onset 96 2 p data
  else if old ≠ 0 ∧ faults = 0 then
    (if others then d else d.endStanding 96 p).raise 97 0 p (u8 k)
  else d

/-- Reception of one tile's rows at the end of a frame: the first miss is counted and refreshed, the second in succession is "data lost". -/
def Dev.judgeTile (p k : Nat) (d : Dev) : Dev :=
  let q := d.port p
  let t := q.tiles.getD k { type := 0, serial := 0, hw := 0, fw := 0, endOfChain := false }
  let rows := q.tileRows k
  let missed := rows.filter fun (r, row) => !rowReceived q.scan t r row
  let again := missed.any fun (_, row) => row.lost
  let first := missed.filter fun (_, row) => !row.lost
  let mark (i : Nat) (row : TaxelRow) : TaxelRow := { row with lost := !rowReceived q.scan t i row }
  let good := if missed.isEmpty then t.goodFrames + 1 else 0
  let badStatus := t.header.isSome && decide (t.status % 16 ≠ 0)
  let goodStatus := if t.header.isSome && !badStatus then t.goodStatus + 1 else 0
  let f := t.faults
  let f := if again then f ||| 1 else if 10 ≤ good then f - (f &&& 1) else f
  let f := if badStatus then f ||| 8 else if 10 ≤ goodStatus then f - (f &&& 8) else f
  let d := d.modPort p fun q => { q with
    lostCount := satU 16 (q.lostCount + first.length)
    refresh := q.refresh ++ (if q.scan = 1 then first.map fun (r, _) => (k, r) else [])
    rows := (numbered q.rows).map fun (i, row) => if i / 32 = k then mark (i % 32) row else row
    tiles := modAt (fun t => { t with goodFrames := good, goodStatus := goodStatus }) k q.tiles }
  let asked := if q.scan = 1 then first.foldl (fun m (r, _) => m + 2 ^ r) 0 else 0
  let d := if asked = 0 then d else d.tellTiles p 0x03 k asked
  d.setTileFaults p k f

/-- Reception of the tiles from k on. -/
def Dev.judgeTiles (p : Nat) : Nat → Nat → Dev → Dev
  | 0, _, d => d
  | n + 1, k, d => judgeTiles p n (k + 1) (d.judgeTile p k)

/-! ### Suspect taxels (R349) -/

/-- Thresholds that stand for a row not yet set: SKIN_THR_INIT. -/
def Dev.thrInit (d : Dev) : Nat := 2 * d.parN P.SKIN_THR_INIT

/-- The row check of a row: its marks from its test result, its values and its baselines. -/
def TaxelRow.check (r : TaxelRow) (testMap : Nat) (outlier : Nat) : TaxelRow :=
  let base := fill256 0 r.base
  let m := medianD 0 (base.map fun b => (b : Int))
  let x := fill256 0 r.x
  let old := fill256 false r.suspect
  let judge (j : Nat) : Bool :=
    let off := ((base.getD j 0 : Int) - m).natAbs
    let v := x.getD j 0
    if bitAt testMap j ∨ v = 0 ∨ v = 4095 ∨ 16 * outlier < off then true
    else old.getD j false && decide (8 * outlier < off)
  { r with suspect := (List.range 256).map judge }

/-- A value of 0 or 4,095 makes a taxel suspect in any frame. -/
def TaxelRow.checkValues (r : TaxelRow) : TaxelRow :=
  if r.x.any (fun v => v = 0 || v = 4095) then
    let old := fill256 false r.suspect
    { r with suspect := (numbered r.x).map fun (j, v) => old.getD j false || v = 0 || v = 4095 }
  else r

/-- The suspects of one frame: the row check of row (n mod 32) of each tile, and the test of values. -/
def Dev.checkRows (p : Nat) (d : Dev) : Dev :=
  let q := d.port p
  let row := d.skin.frame % 32
  let outlier := d.parN P.SKIN_OUTLIER
  let testOf (k : Nat) : Nat := match q.tiles[k]? with
    | some t => if t.header.isSome ∧ t.tested = row then t.testMap else 0
    | none => 0
  let f (i : Nat) (r : TaxelRow) : TaxelRow := if i % 32 = row then (r.check (testOf (i / 32)) outlier).checkValues else r.checkValues
  d.modPort p fun q => { q with rows := (numbered q.rows).map fun (i, r) => f i r }

/-- Suspect taxels of a tile. -/
def Port.suspects (q : Port) (k : Nat) : Nat := ((q.tileRows k).map fun (_, r) => (r.suspect.filter fun b => b).length).foldl (· + ·) 0

/-- Some column of a tile has more than `limit` suspect taxels. -/
def Port.columnBlind (q : Port) (k limit : Nat) : Bool :=
  let rows := (q.tileRows k).map (·.2.suspect)
  (List.range 256).any fun j => decide (limit < (rows.filter fun s => s.getD j false).length)

/-- The blind causes of a tile, judged at its row check (R360, bits 1 and 2). -/
def Dev.judgeBlind (p : Nat) : Nat → Nat → Dev → Dev
  | 0, _, d => d
  | n + 1, k, d =>
    let q := d.port p
    let f := (q.tiles.getD k { type := 0, serial := 0, hw := 0, fw := 0, endOfChain := false }).faults
    let col := q.columnBlind k (d.parN P.SKIN_DEAD_PER_COLUMN)
    let tile := decide (d.parN P.SKIN_DEAD_PER_TILE < q.suspects k)
    let f := bitsOf [bitAt f 0, col, tile, bitAt f 3]
    judgeBlind p n (k + 1) (d.setTileFaults p k f)

/-! ### Taxels and bins as the engine evaluates them (R347, R352) -/

/-- One taxel, or in binned mode one bin. -/
structure SkinUnit where
  d16 : Int := 0
  thr : Nat := 0
  suspect : Bool := false
  /-- In contact in this frame. -/
  hit : Bool := false
  /-- Of a faulted tile, so left out of labelling and of the line tests (R360). -/
  excluded : Bool := false
  deriving DecidableEq, Repr

/-- Contact under R347. -/
def inContact (d16 : Int) (thr release : Nat) (was : Bool) : Bool :=
  decide ((8 * thr : Int) < d16) || (was && decide ((8 * thr * release : Int) ≤ 1000 * d16))

/-- The units of one tile row. -/
def TaxelRow.units (r : TaxelRow) (binned excluded : Bool) (release thr0 : Nat) : List SkinUnit :=
  let x := fill256 0 r.x
  let b := fill256 0 r.base
  let th := fill256 thr0 r.thr
  let s := fill256 false r.suspect
  let l := fill256 0 r.label
  let make (d16 : Int) (t : Nat) (sus was : Bool) : SkinUnit :=
    { d16 := d16, thr := t, suspect := sus, hit := !sus && !excluded && inContact d16 t release was, excluded := excluded }
  if binned then (List.range 64).map fun i =>
    let js := [4 * i, 4 * i + 1, 4 * i + 2, 4 * i + 3]
    let sb : Int := (js.map fun j => (b.getD j 0 : Int)).foldl (· + ·) 0
    let t := js.foldl (fun m j => min m (th.getD j thr0)) (th.getD (4 * i) thr0)
    make (16 * (x.getD (4 * i) 0 : Int) - truncDiv sb 4) t (js.any fun j => s.getD j false) (js.any fun j => l.getD j 0 ≠ 0)
  else (List.range 256).map fun j =>
    make (16 * (x.getD j 0 : Int) - (b.getD j 0 : Int)) (th.getD j thr0) (s.getD j false) (decide (l.getD j 0 ≠ 0))

/-- The rows of a port over the whole edge, in ascending along index (R333). -/
def Dev.grid (p : Nat) (d : Dev) : List (List SkinUnit) :=
  let q := d.port p
  let binned := decide (q.scan = 2)
  let release := d.parN P.SKIN_RELEASE
  let n := q.tiles.length
  let flip := decide (d.portOrient p = 1)
  (List.range 32).map fun r =>
    let line := (List.range n).flatMap fun k =>
      let bad := decide ((q.tiles.getD k { type := 0, serial := 0, hw := 0, fw := 0, endOfChain := false }).faults ≠ 0)
      (q.rows.getD (32 * k + r) {}).units binned bad release d.thrInit
    if flip then line.reverse else line

/-- A unit in contact: column, row, deviation in counts. -/
structure Hit where
  col : Nat
  row : Nat
  d : Nat
  deriving DecidableEq, Repr

/-- Ascending by column, then row. -/
def Hit.before (a b : Hit) : Bool := decide (a.col < b.col) || (decide (a.col = b.col) && decide (a.row ≤ b.row))

/-- A hit put into an ascending list. -/
def insertHit (h : Hit) : List Hit → List Hit
  | [] => [h]
  | x :: xs => if h.before x then h :: x :: xs else x :: insertHit h xs

/-- Every unit in contact, ascending by column and row. -/
def hitsOf (g : List (List SkinUnit)) : List Hit :=
  let all := (numbered g).flatMap fun (r, line) => (numbered line).filterMap fun (u, c) =>
    if c.hit then some { col := u, row := r, d := (c.d16 / 16).toNat } else none
  all.foldr insertHit []

/-! ### Labelling (R354) -/

/-- Neighbours in along, around or diagonally. -/
def Hit.near (a b : Hit) : Bool := decide (a.col ≤ b.col + 1) && decide (b.col ≤ a.col + 1) && decide (a.row ≤ b.row + 1) && decide (b.row ≤ a.row + 1)

/-- A hit joined to the components that it touches; they become one, in the place of the first. -/
def joinHit (cs : List (List Hit)) (h : Hit) : List (List Hit) :=
  let touch (c : List Hit) : Bool := c.any fun x => x.near h
  let all := (cs.filter touch).flatten ++ [h]
  let rec' := cs.foldl (fun (st : Bool × List (List Hit)) c => if touch c then (if st.1 then st else (true, st.2 ++ [all])) else (st.1, st.2 ++ [c])) (false, [])
  if rec'.1 then rec'.2 else cs ++ [[h]]

/-- The contacts of a frame in label order: at most 64, and the aggregate of all further ones. -/
def componentsOf (hits : List Hit) : List (List Hit) := hits.foldl joinHit []

/-! ### Contact records (R355, R356) -/

/-- Full-resolution cells of a hit. -/
def Hit.cells (w : Nat) (h : Hit) : List (Nat × Nat) := (List.range w).map fun i => (w * h.col + i, h.row)

/-- The measures of a contact of some hits; `sus` are the suspect units. -/
def measure (w : Nat) (sus : List (Nat × Nat)) (hits : List Hit) : Contact :=
  let cols := hits.map (·.col)
  let rows := hits.map (·.row)
  let lo (l : List Nat) : Nat := l.foldl min (l.headD 0)
  let hi (l : List Nat) : Nat := l.foldl max 0
  let peak := hi (hits.map (·.d))
  let ordered := hits.foldr insertHit []
  let top := (ordered.find? fun h => h.d = peak).getD { col := 0, row := 0, d := 0 }
  let core := hits.filter fun h => peak ≤ 2 * h.d
  let widthOf (r : Nat) : Nat :=
    let cs := (core.filter fun h => h.row = r).map (·.col)
    if cs.isEmpty then 0 else w * (hi cs - lo cs + 1)
  let sum := (hits.map (·.d)).foldl (· + ·) 0
  let moment := (hits.map fun h => h.d * (16 * w * h.col + 8 * (w - 1))).foldl (· + ·) 0
  { taxels := hits.length
    alongFirst := w * lo cols, alongLast := w * hi cols + (w - 1), aroundFirst := lo rows, aroundLast := hi rows
    peak := peak, peakAlong := w * top.col, peakRow := top.row, core := core.length, coreWidth := hi ((List.range 32).map widthOf)
    centroid := if sum = 0 then 0 else (2 * moment + sum) / (2 * sum), devSum := sum, binned := decide (w = 4)
    besideSuspect := hits.any fun h => sus.any fun s => h.near { col := s.1, row := s.2, d := 0 }
    cells := hits.flatMap (Hit.cells w) }

/-- Cells that two contacts share. -/
def sharedCells (a b : Contact) : Nat := (a.cells.filter fun c => b.cells.contains c).length

/-- The identity that a contact would take, with how much it shares: most taxels, the lower identity where two share equally. -/
def bestOf (c : Contact) (prev : List Contact) : Option (Nat × Nat) :=
  prev.foldl (fun best q =>
    let n := sharedCells c q
    if n = 0 then best else match best with
      | none => some (q.identity, n)
      | some (i, m) => if m < n ∨ (m = n ∧ q.identity < i) then some (q.identity, n) else best) none

/-- The next identity of a port, wrapping from 65,535 to 1. -/
def nextIdentity (i : Nat) : Nat := if 65535 ≤ i then 1 else i + 1

/-- Gives the contacts of a frame their identities, in label order. -/
def identify (prev : List Contact) (all : List (Contact × Option (Nat × Nat))) : List (Nat × Contact × Option (Nat × Nat)) → Nat → List Contact → Nat × List Contact
  | [], next, acc => (next, acc)
  | (i, c, best) :: rest, next, acc =>
    let shared := (prev.filter fun q => 0 < sharedCells c q).length
    let c := { c with merged := decide (2 ≤ shared) }
    match best with
    | none => identify prev all rest (nextIdentity next) (acc ++ [{ c with identity := next, isNew := true, frames := 1, peakChange := c.peak }])
    | some (id, n) =>
      let beaten := (numbered all).any fun (j, _, b) => match b with
        | some (id', m) => j ≠ i && id' = id && (decide (n < m) || (decide (n = m) && decide (j < i)))
        | none => false
      if beaten then
        identify prev all rest (nextIdentity next) (acc ++ [{ c with identity := next, isNew := true, split := true, frames := 1, peakChange := c.peak }])
      else
        let q := (prev.find? fun q => q.identity = id).getD {}
        let c := { c with
          identity := id, frames := min 255 (q.frames + 1), motion := (c.centroid : Int) - q.centroid, peakChange := (c.peak : Int) - q.peak
          cls := q.cls, demanded := q.demanded }
        identify prev all rest next (acc ++ [c])

/-- The contact records of a port in this frame, in label order, and its next identity. -/
def Dev.contactsOf (p : Nat) (g : List (List SkinUnit)) (d : Dev) : Nat × List Contact × List (List Hit) :=
  let q := d.port p
  let w := if q.scan = 2 then 4 else 1
  let comps := componentsOf (hitsOf g)
  let sus := (numbered g).flatMap fun (r, line) => (numbered line).filterMap fun (u, c) => if c.suspect then some (u, r) else none
  let single := comps.take 64
  let more := (comps.drop 64).flatten
  let prev := q.contacts.filter fun c => !c.aggregate
  let cs := single.map (measure w sus)
  let withBest := cs.map fun c => (c, bestOf c prev)
  let (next, named) := identify prev withBest (numbered withBest) q.nextId []
  let extra := if more.isEmpty then [] else [{ measure w sus more with aggregate := true }]
  (next, named ++ extra, single ++ (if more.isEmpty then [] else [more]))

/-! ### Labels, baselines and thresholds after a frame (R348, R352, R353) -/

/-- The label of a unit among the labelled components. -/
def labelAt (comps : List (List Hit)) (u r : Nat) : Nat :=
  match (numbered comps).find? fun (_, c) => c.any fun h => h.col = u && h.row = r with
  | some (i, _) => if i < 64 then i + 1 else 127
  | none => 0

/-- A unit lies within the ring of a hit. -/
def frozenAt (hits : List (Nat × Nat)) (ring a r : Nat) : Bool :=
  hits.any fun (x, y) => decide (x ≤ a + ring) && decide (a ≤ x + ring) && decide (y ≤ r + ring) && decide (r ≤ y + ring)

/-- The update laws' settings. -/
structure SkinLaws where
  upPeriod : Nat
  downShift : Nat
  thrPeriod : Nat
  k : Nat
  lo : Nat
  hi : Nat
  release : Nat
  ring : Nat

/-- The update laws in force. -/
def Dev.skinLaws (d : Dev) : SkinLaws :=
  { upPeriod := d.parN P.SKIN_BASE_UP_PERIOD, downShift := d.parN P.SKIN_BASE_DOWN_SHIFT, thrPeriod := d.parN P.SKIN_THR_PERIOD, k := d.parN P.SKIN_THR_K
    lo := 2 * d.parN P.SKIN_THR_MIN, hi := 2 * d.parN P.SKIN_THR_MAX, release := d.parN P.SKIN_RELEASE, ring := d.parN P.SKIN_FREEZE_RING }

/-- The change of a baseline under R348, in sixteenths of a count. -/
def SkinLaws.baseStep (s : SkinLaws) (n period : Nat) (d16 : Int) (thr : Nat) (frozen : Bool) : Int :=
  if d16 < 0 then shrI d16 s.downShift
  else if !frozen && decide (10 * d16 < truncDiv (8 * thr * s.release : Nat) 100) && decide (n % period = 0) then 1 else 0

/-- The threshold after a frame (R348). -/
def SkinLaws.thrStep (s : SkinLaws) (n : Nat) (d16 : Int) (thr : Nat) (frozen : Bool) : Nat :=
  if frozen ∨ n % s.thrPeriod ≠ 0 then thr
  else
    let t := s.k * d16.natAbs / 64
    let v := if thr < 2 * t then thr + 1 else if 2 * t < thr then thr - 1 else thr
    if v < s.lo then s.lo else if s.hi < v then s.hi else v

/-- A 16-bit baseline moved by a step. -/
def baseAdd (b : Nat) (step : Int) : Nat := satU 16 ((b : Int) + step).toNat

/-- One row after a frame: labels, and where it was received its baselines and thresholds. -/
def TaxelRow.update (r : TaxelRow) (s : SkinLaws) (n : Nat) (binned received : Bool) (thr0 : Nat) (label : Nat → Nat) (frozen : Nat → Bool) : TaxelRow :=
  let x := fill256 0 r.x
  let b := fill256 0 r.base
  let th := fill256 thr0 r.thr
  let labels := (List.range 256).map label
  if ¬ received then { r with label := labels }
  else if binned then
    let stepOf (i : Nat) : Int :=
      let js := [4 * i, 4 * i + 1, 4 * i + 2, 4 * i + 3]
      let sb : Int := (js.map fun j => (b.getD j 0 : Int)).foldl (· + ·) 0
      let t := js.foldl (fun m j => min m (th.getD j thr0)) (th.getD (4 * i) thr0)
      s.baseStep n ((s.upPeriod + 1) / 2) (16 * (x.getD (4 * i) 0 : Int) - truncDiv sb 4) t (js.any frozen)
    { r with label := labels, base := (numbered b).map fun (j, v) => baseAdd v (stepOf (j / 4)) }
  else
    let dev (j : Nat) : Int := 16 * (x.getD j 0 : Int) - (b.getD j 0 : Int)
    { r with
      label := labels
      base := (numbered b).map fun (j, v) => baseAdd v (s.baseStep n s.upPeriod (dev j) (th.getD j thr0) (frozen j))
      thr := (numbered th).map fun (j, v) => s.thrStep n (dev j) v (frozen j) }

/-- The along index of a tile's column (R333). -/
def Dev.alongOf (p k j : Nat) (d : Dev) : Nat :=
  let a := 256 * k + j
  if d.portOrient p = 1 then 256 * (d.port p).tiles.length - 1 - a else a

/-- Every row of a port after its labelling. -/
def Dev.updateRows (p : Nat) (comps : List (List Hit)) (d : Dev) : Dev :=
  let q := d.port p
  let binned := decide (q.scan = 2)
  let w := if binned then 4 else 1
  let s := d.skinLaws
  let thr0 := d.thrInit
  let cells := comps.flatten.flatMap (Hit.cells w)
  let none' := comps.isEmpty
  let f (i : Nat) (r : TaxelRow) : TaxelRow :=
    let k := i / 32
    let row := i % 32
    let t := q.tiles.getD k { type := 0, serial := 0, hw := 0, fw := 0, endOfChain := false }
    let label (j : Nat) : Nat := if none' then 0 else labelAt comps (d.alongOf p k j / w) row
    let frozen (j : Nat) : Bool := !none' && frozenAt cells s.ring (d.alongOf p k j) row
    r.update s d.skin.frame binned (rowReceived q.scan t row r) thr0 label frozen
  d.modPort p fun q => { q with rows := (numbered q.rows).map fun (i, r) => f i r }

/-- Re-alignment at the first full frame after binned mode: baselines fall to the values below them, none rises (R353). -/
def TaxelRow.realign (r : TaxelRow) : TaxelRow :=
  let x := fill256 0 r.x
  { r with base := (numbered (fill256 0 r.base)).map fun (j, b) => if 16 * x.getD j 0 < b then 16 * x.getD j 0 else b }

/-! ### Rebuilds (R350) -/

/-- One frame of a rebuild joins the sums. -/
def TaxelRow.addSum (r : TaxelRow) : TaxelRow :=
  let s := fill256 0 r.sum
  { r with sum := (numbered (fill256 0 r.x)).map fun (j, v) => satU 16 (s.getD j 0 + v) }

/-- The sums of a row become its baselines: the row and how many taxels took the row median. -/
def TaxelRow.endRebuild (r : TaxelRow) (outlier thr0 : Nat) : TaxelRow × Nat :=
  let s := fill256 0 r.sum
  let m := medianD 0 (s.map fun v => (v : Int))
  let high (v : Nat) : Bool := decide ((16 * outlier : Int) < (v : Int) - m)
  let low (v : Nat) : Bool := decide ((16 * outlier : Int) < m - (v : Int))
  ({ r with base := s.map fun v => if high v then m.toNat else v, suspect := s.map low, thr := List.replicate 256 thr0, sum := [], label := [] },
    (s.filter high).length)

/-- The state that the tiles of a trained port give it: state and fault cause (R359, R361). -/
def Dev.tileState (p : Nat) (d : Dev) : Nat × Nat :=
  let q := d.port p
  let faulted := q.tiles.any fun t => t.faults ≠ 0
  if faulted && (q.tiles.all (fun t => t.faults ≠ 0) || decide (p = 2)) then (5, 3) else if faulted then (4, 0) else (3, 0)

/-- A rebuild of a port ends. -/
def Dev.endRebuild (p : Nat) (d : Dev) : Dev :=
  let q := d.port p
  if q.rebuild ≠ some 16 then d
  else
    let rows := q.rows.map fun r => r.endRebuild (d.parN P.SKIN_OUTLIER) d.thrInit
    let (state, cause) := d.tileState p
    let d := d.modPort p fun q => { q with
      rows := rows.map (·.1), medians := (rows.map (·.2)).foldl (· + ·) 0, baselines := if q.rebuildBinned then 2 else 1, rebuild := none }
    if 2 ≤ q.goodFrames ∨ state ≠ 3 then d.portState p state cause else d.modPort p fun q => { q with state := 1 }

/-- Ports of a mask. -/
def portsOf (mask : Nat) : List Nat := (List.range 3).filter fun p => bitAt mask p

/-- SKIN_BASELINE_REBUILD ends once none of its ports rebuilds; "baseline rebuilt" names the ports. -/
def Dev.rebuildDone (d : Dev) : Dev :=
  let done := (List.range 3).filter fun p => (d.port p).rebuild = some 16
  if done.isEmpty then d
  else
    let d := done.foldl (fun d p => d.endRebuild p) d
    let mask := bitsOf ((List.range 3).map fun p => done.contains p)
    let data := (List.range 3).flatMap fun p => u16 (satU 16 (if done.contains p then (d.port p).medians else 0))
    let d := d.raise 110 0 mask data
    match d.skin.rebuildOrder with
    | some (m, slot) =>
      if (portsOf m).all fun p => (d.port p).rebuild.isNone then
        let data := (List.range 3).flatMap fun p => u16 (satU 16 (if bitAt m p then (d.port p).medians else 0))
        (d.modSkin fun s => { s with rebuildOrder := none }).done slot data
      else d
    | none => d

/-- CANCEL of SKIN_BASELINE_REBUILD (R350). -/
def Dev.cancelRebuild (d : Dev) : Dev := match d.skin.rebuildOrder with
  | some (m, _) =>
    let drop (d : Dev) (p : Nat) : Dev :=
      if (d.port p).rebuild.isSome then
        let s := d.tileState p
        (d.modPort p fun q => { q with rebuild := none }).portState p s.1 s.2
      else d
    (portsOf m).foldl drop (d.modSkin fun s => { s with rebuildOrder := none })
  | none => d

/-! ### The port's state after a frame (R345, R361) -/

/-- Running, degraded or all tiles faulted, once two frames in succession have had every row received. -/
def Dev.judgePort (p : Nat) (d : Dev) : Dev :=
  let q := d.port p
  let all := (numbered q.tiles).all fun (k, t) => (q.tileRows k).all fun (r, row) => rowReceived q.scan t r row
  let good := if all then q.goodFrames + 1 else 0
  let (state, cause) := d.tileState p
  let d := d.modPort p fun q => { q with goodFrames := good }
  if q.state = 2 then d
  else if q.state = 1 ∧ good < 2 ∧ state = 3 then d
  else if q.state = 1 ∨ q.state = 3 ∨ q.state = 4 ∨ q.state = 5 then (if q.state = state then d else d.portState p state cause)
  else d

/-- A frame of one port up to its contacts: reception, suspects, faults, re-alignment, and either the sums of a rebuild or the contact records. -/
def Dev.framePort (p : Nat) (d : Dev) : Dev :=
  let q := d.port p
  if ¬ q.framed then d
  else
    let n := q.tiles.length
    let take (i : Nat) (r : TaxelRow) : TaxelRow := match q.tiles[i / 32]? with
      | some t => if r.received ∧ rowReceived q.scan t (i % 32) r then { r with x := r.fresh } else r
      | none => r
    let d := d.modPort p fun q => { q with
      refresh := [], frameNo := d.skin.frame, frameTime := d.skin.frameTime, load := 1000 * q.chars / (if q.scan = 2 then 500000 else 250000)
      rows := (numbered q.rows).map fun (i, r) => take i r }
    let d := (d.judgeTiles p n 0).checkRows p
    let d := d.judgeBlind p n 0
    let q := d.port p
    let d := if q.realign then
        if q.baselines = 2 then (d.modPort p fun q => { q with realign := false }).startRebuild p
        else d.modPort p fun q => { q with realign := false, rows := q.rows.map TaxelRow.realign }
      else d
    let d := match (d.port p).rebuild with
      | some k =>
        if k < 16 then
          let d := d.modPort p fun q => { q with rebuild := some (k + 1), rows := q.rows.map TaxelRow.addSum }
          match d.skin.rebuildOrder with
          | some (_, slot) => d.progress slot (k + 1)
          | none => d
        else d
      | none =>
        if (d.port p).baselines = 0 then d
        else
          let (next, cs, comps) := d.contactsOf p (d.grid p)
          (d.modPort p fun q => { q with nextId := next, contacts := cs }).updateRows p comps
    d.judgePort p

/-! ### Legacy edges (R362 to R364) -/

/-- SKIN_x_EDGE. -/
def Dev.edgeMode (d : Dev) (e : Nat) : Nat := d.parN ([P.SKIN_A_EDGE, P.SKIN_B_EDGE, P.SKIN_C_EDGE].getD e P.SKIN_C_EDGE)

/-- An edge. -/
def Dev.edge (d : Dev) (e : Nat) : LegacyEdge := d.skin.edges.getD e {}

/-- One edge changed. -/
def Dev.modEdge (e : Nat) (f : LegacyEdge → LegacyEdge) (d : Dev) : Dev := d.modSkin fun s => { s with edges := modAt f e s.edges }

/-- The state that the ratio of two voltages reads: 1 rest, 2 actuated, 3 open, 4 over-range (R363). -/
def ratioState (mv exc : Nat) : Nat :=
  if 1050 * exc < 1000 * mv then 4 else if 600 * exc ≤ 1000 * mv then 2 else if 400 * exc ≤ 1000 * mv then 1 else 3

/-- An edge takes a state (R364); states 3 to 5 stand (R576). -/
def Dev.edgeState (e state : Nat) (d : Dev) : Dev :=
  let old := d.edge e
  if old.state = state then d
  else
    let d := d.modEdge e fun l => { l with
      state := state, changed := d.chron.time, actuations := if state = 2 then (l.actuations + 1) % 2 ^ 32 else l.actuations }
    let fault (s : Nat) : Bool := decide (3 ≤ s)
    let data := u8 old.state ++ u8 state ++ u16 (satU 16 old.ratio)
    if fault state ∧ ¬ fault old.state then d.onset 101 2 e data
    else if fault old.state ∧ ¬ fault state then (d.endStanding 101 e).raiseAt 101 0 2 e data d.chron.time
    else d.raiseAt 101 (if fault state then 2 else 0) 0 e data d.chron.time

/-- One 100 µs sample of an edge. A pressure-wave actuation is held (R364). -/
def Dev.edgeRead (e mv exc : Nat) (d : Dev) : Dev :=
  let mode := d.edgeMode e
  if mode = 0 then
    if (d.edge e).state = 0 then d else d.edgeState e 0
  else
    let r := if exc = 0 then 0 else 1000 * mv / exc
    let s := ratioState mv exc
    let l := d.edge e
    let n := if l.candidate = s then l.samples + 1 else 1
    let d := d.modEdge e fun l => { l with ratio := r, candidate := s, samples := n }
    if d.skin.excFault then (if l.state = 5 then d else d.edgeState e 5)
    else
      let need := if s = 2 then 2 else if s = 1 then 20 else 50
      if n < need ∨ s = l.state then
        if s = 2 ∧ l.state = 2 ∧ mode = 2 then d.modEdge e fun l => { l with hold := some (d.now + ms (d.parN P.SKIN_PW_HOLD)) } else d
      else if s = 2 then
        (d.modEdge e fun l => { l with hold := if mode = 2 then some (d.now + ms (d.parN P.SKIN_PW_HOLD)) else none }).edgeState e 2
      else if s = 1 ∧ l.state = 2 ∧ mode = 2 ∧ l.hold.isSome then
        -- The contact reading is back at rest; the hold runs from the first such sample.
        d
      else (d.modEdge e fun l => { l with hold := none }).edgeState e s

/-- EXC is on: some edge input has a mode, and the pad is out of its reset state (R48, R51). -/
def Dev.excOn (d : Dev) : Bool := d.live && (d.edgeMode 0 ≠ 0 || d.edgeMode 1 ≠ 0 || d.edgeMode 2 ≠ 0)

/-- Every edge reports excitation fault, or none does any more (R362). -/
def Dev.excState (fault : Bool) (d : Dev) : Dev :=
  let d := (d.modSkin fun s => { s with excFault := fault }).follow 102 2 0xFF fault (u16 (satU 16 d.skin.excMv))
  if fault then (List.range 3).foldl (fun d e => if d.edgeMode e ≠ 0 then d.edgeState e 5 else d) d else d

/-- One 100 µs sample of EXC and the edges. An excitation fault ends after 10 ms within range. -/
def Dev.edgeSample (a b c exc : Nat) (d : Dev) : Dev :=
  let ok := 9500 ≤ exc ∧ exc ≤ 10500
  let d := d.modSkin fun s => { s with
    excMv := exc
    excBad := if ok ∨ ¬ d.excOn then none else (match s.excBad with | some t => some t | none => some d.now)
    excGood := if ok then (match s.excGood with | some t => some t | none => some d.now) else none }
  let d := match d.skin.excGood with
    | some t => if d.skin.excFault ∧ ms 10 ≤ d.now - t then d.excState false else d
    | none => d
  let d := match d.skin.excBad with
    | some t => if ¬ d.skin.excFault ∧ ms 1 ≤ d.now - t then d.excState true else d
    | none => d
  ((d.edgeRead 0 a exc).edgeRead 1 b exc).edgeRead 2 c exc

/-- EXC has been out of range for 1 ms. -/
def Dev.excitationFault (exc : Nat) (d : Dev) : Dev :=
  if ¬ d.excOn ∨ (9500 ≤ exc ∧ exc ≤ 10500) ∨ d.skin.excFault then d
  else (d.modSkin fun s => { s with excMv := exc }).excState true

/-- A pressure-wave hold ends: the edge follows its reading again. -/
def Dev.pwHoldEnd (e : Nat) (d : Dev) : Dev :=
  let l := d.edge e
  match l.hold with
  | some t =>
    if t ≤ d.now then
      let d := d.modEdge e fun l => { l with hold := none }
      if l.state = 2 ∧ l.candidate = 1 ∧ 20 ≤ l.samples then d.edgeState e 1 else d
    else d
  | none => d

/-! ### Queries (R368 to R371) -/

/-- The reply data of SKIN_PORT_STATUS. -/
def Dev.portStatus (p : Nat) (d : Dev) : List Byte :=
  let q := d.port p
  u8 p ++ u8 q.state ++ u8 q.scan ++ u8 (d.portTiles p) ++ u8 q.tiles.length ++ u16 (bitsOf (q.tiles.map fun t => t.faults ≠ 0)) ++ u8 q.cause
    ++ u8 q.baselines ++ u16 q.load ++ u32 q.frameNo ++ u64 q.frameTime ++ u16 q.codeCount ++ u16 q.checkCount ++ u16 q.lostCount ++ u16 q.trainCount

/-- The reply data of SKIN_TILE_LIST. -/
def Dev.tileList (p : Nat) (d : Dev) : List Byte :=
  let q := d.port p
  u8 p ++ u8 q.tiles.length ++ u8 0 ++ (numbered q.tiles).flatMap fun (k, t) =>
    u8 k ++ u8 t.type ++ u8 (t.faults % 16 + 16 * (t.status % 16)) ++ u8 t.hw ++ u64 t.serial ++ u16 t.fw ++ i16 t.temp ++ u16 (q.suspects k) ++ u16 0

/-- One entry of a map at an along index and row (R370). -/
def Dev.mapEntry (p map a r : Nat) (d : Dev) : List Byte :=
  let q := d.port p
  let n := q.tiles.length
  let b := if d.portOrient p = 1 then 256 * n - 1 - a else a
  let row := q.rows.getD (32 * (b / 256) + r) {}
  let j := b % 256
  let x := row.x.getD j 0
  let base := row.base.getD j 0
  if map = 0 then u16 (if q.rebuild.isSome then row.sum.getD j 0 else x)
  else if map = 1 then i16 (satI 16 (truncDiv (16 * (x : Int) - base) 16))
  else if map = 2 then u16 base
  else if map = 3 then u16 (row.thr.getD j d.thrInit)
  else u16 (row.label.getD j 0 + 128 * bit (row.suspect.getD j false))

/-- The reply data of SKIN_FRAME_READ. -/
def Dev.frameRead (p map a0 an r0 rn : Nat) (d : Dev) : List Byte :=
  let q := d.port p
  u8 p ++ u8 map ++ u8 0 ++ u32 q.frameNo ++ u64 q.frameTime
    ++ (List.range rn).flatMap fun r => (List.range an).flatMap fun a => d.mapEntry p map (a0 + a) (r0 + r)

/-- The reply data of LEGACY_EDGE_STATUS. -/
def Dev.edgeStatus (d : Dev) : List Byte :=
  u8 (if d.skin.excFault then 2 else if d.excOn then 1 else 0) ++ u16 (satU 16 d.skin.excMv) ++ (List.range 3).flatMap fun e =>
    let l := d.edge e
    u8 (d.edgeMode e) ++ u8 l.state ++ u16 (satU 16 l.ratio) ++ u32 l.actuations ++ u64 l.changed

end Sys2Proof.Machine
end

