-- ==== Sys2Proof/Machine/ObstacleOps.lean ====
section
/-! DEFINITION. The obstacle arbiter and the drag watch: contact classes, the seal meeting, thin lines, pinch lines, the force channel, legacy edges, demands and the degraded rule (chapter 11). -/

namespace Sys2Proof.Machine

/-- The arbiter changed. -/
def Dev.modObst (f : Obstacle → Obstacle) (d : Dev) : Dev := { d with obst := f d.obst }

/-- Obstacle classes of R376. -/
def obstacleClass (c : Nat) : Bool := c = 2 || c = 3 || c = 4 || c = 8 || c = 9

/-- Classes that are passed to the sequencer (R379). -/
def passedClass (c : Nat) : Bool := c = 1 || obstacleClass c

/-! ### Motion and the touch window -/

/-- The motion of the leaf that the channels act in: commanded, else measured (R374): 0 at rest, 1 opening, 2 closing. -/
def Dev.leafCourse (d : Dev) : Nat :=
  if d.leafMotion ≠ 0 then d.leafMotion else if d.axisMoving 0 then (if d.sext.opening then 1 else 2) else 0

/-- Within DOOR_CLOSED_WINDOW of the datum. -/
def Dev.inClosedWindow (d : Dev) : Bool := decide ((d.leafPos.natAbs : Int) ≤ d.par P.DOOR_CLOSED_WINDOW)

/-- At or below OBST_SEAL_TOUCH + OBST_SEAL_SKEW. -/
def Dev.belowTouch (d : Dev) : Bool := decide (d.leafPos ≤ d.par P.OBST_SEAL_TOUCH + d.par P.OBST_SEAL_SKEW)

/-- The touch window of R380. -/
def Dev.inTouch (d : Dev) : Bool := d.belowTouch && (d.leafCourse = 2 || (d.leafCourse = 0 && d.inClosedWindow))

/-- Above the touch window the seal band, the confirmation and the raised threshold end (R383, R384). -/
def Dev.leaveTouch (d : Dev) : Dev :=
  if d.belowTouch then d
  else (d.modObst fun o => { o with sealRaise := false }).modSkin fun s => { s with
    ports := s.ports.map fun q => { q with band := none, confirmed := false, coveredAgo := none } }

/-! ### The seal meeting (R380 to R383) -/

/-- Width of a unit column in taxels. -/
def Port.unitWidth (q : Port) : Nat := if q.scan = 2 then 4 else 1

/-- A seal candidate of a leaf port. -/
def Dev.sealCandidate (c : Contact) (d : Dev) : Bool :=
  !c.aggregate && d.inTouch && decide (d.parN P.OBST_SEAL_ROW_FIRST ≤ c.aroundFirst) && decide (c.aroundLast ≤ d.parN P.OBST_SEAL_ROW_LAST)
    && decide (1000 * c.peak * c.taxels ≤ d.parN P.OBST_SEAL_PEAK_RATIO * c.devSum)

/-- Columns that hold a taxel of some contacts, each once. -/
def columnsOf (cs : List Contact) : List Nat := (cs.flatMap fun c => c.cells.map (·.1)).eraseDups

/-- The coverage of a leaf port in this frame (R381). -/
def Dev.formCoverage (p : Nat) (d : Dev) : Dev :=
  let q := d.port p
  let cands := q.contacts.filter fun c => d.sealCandidate c
  let cover := if q.framed then 1000 * (columnsOf cands).length / (256 * d.portTiles p) else 0
  let reached := decide (d.parN P.OBST_SEAL_COVER ≤ cover)
  let d := if cands.isEmpty then d else d.modObst fun o => { o with sealRaise := true }
  d.modPort p fun q => { q with
    coverage := cover, highest := max q.highest cover
    coveredAgo := if reached then some 0 else q.coveredAgo.map (· + 1) }

/-- The seal meeting of a port is confirmed, and its band recorded (R381, R383). -/
def Dev.confirmSeal (p : Nat) (d : Dev) : Dev :=
  let q := d.port p
  let pair (o : Nat) : Bool := o = p || (match (d.port o).coveredAgo with
    | some n => decide (n ≤ d.parN P.OBST_SEAL_PAIR_FRAMES)
    | none => false)
  if q.confirmed ∨ q.coveredAgo ≠ some 0 ∨ ¬ d.leafPorts.all pair then d
  else
    let cands := q.contacts.filter fun c => d.sealCandidate c
    let lo := cands.foldl (fun m c => min m c.alongFirst) 65535
    let hi := cands.foldl (fun m c => max m c.alongLast) 0
    d.modPort p fun q => { q with confirmed := true, band := some (lo, hi) }

/-! ### Thin lines (R386) -/

/-- A column of a port: lit taxels, largest d of them. -/
structure LitColumn where
  lit : Nat
  peak : Nat
  deriving DecidableEq, Repr

/-- The unit columns of a port, each from row 0 to 31. -/
def columnsFrom (g : List (List SkinUnit)) : List (List SkinUnit) :=
  (List.range ((g.headD []).length)).map fun u => g.map fun line => line.getD u {}

/-- The lit units of a column. -/
def litColumn (level : Nat) (col : List SkinUnit) : LitColumn :=
  let lit := col.filter fun c => !c.suspect && !c.excluded && decide ((8 * c.thr * level : Int) ≤ 1000 * c.d16)
  { lit := lit.length, peak := lit.foldl (fun m c => max m (c.d16 / 16).toNat) 0 }

/-- A run of unit columns a to b meets the line test: a column of THIN_ROWS lit within, fewer than half of that in the second to the sixth column out on either side. -/
def lineTest (cols : List LitColumn) (rows a b : Nat) : Bool :=
  let litAt (u : Nat) : Nat := (cols.getD u { lit := 0, peak := 0 }).lit
  ((List.range (b + 1 - a)).any fun i => decide (rows ≤ litAt (a + i)))
    && (List.range 5).all fun i => decide (2 * litAt (b + 2 + i) < rows) && (decide (a < 2 + i) || decide (2 * litAt (a - 2 - i) < rows))

/-- The candidate lines from a column on: at each column the widest run that begins and ends on a column lit in at least half of THIN_ROWS. -/
def findLines (cols : List LitColumn) (rows most : Nat) : Nat → Nat → List (Nat × Nat)
  | 0, _ => []
  | n + 1, a =>
    let half (u : Nat) : Bool := decide (rows ≤ 2 * (cols.getD u { lit := 0, peak := 0 }).lit)
    let ends := ((List.range most).map fun i => a + i).filter half
    match (if half a then ends.reverse.find? (fun b => lineTest cols rows a b) else none) with
    | some b => (a, b) :: findLines cols rows most n (b + 1)
    | none => findLines cols rows most n (a + 1)

/-- Two runs overlap within some columns. -/
def Line.meets (slack : Nat) (a b : Line) : Bool := decide (a.first ≤ b.last + slack) && decide (b.first ≤ a.last + slack)

/-- The contact that holds a column of a run. -/
def holderOf (cs : List Contact) (first last : Nat) : Nat :=
  match cs.find? fun c => !c.aggregate && c.cells.any fun x => decide (first ≤ x.1) && decide (x.1 ≤ last) with
  | some c => c.identity
  | none => 0

/-- Movement of the centre since the line of the previous frame, in 1/16 taxel. -/
def Line.moved (l old : Line) : Int := 8 * ((l.first + l.last : Nat) : Int) - 8 * ((old.first + old.last : Nat) : Int)

/-- The candidate lines of a port in this frame. -/
def Dev.candidateLines (p : Nat) (g : List (List SkinUnit)) (d : Dev) : List Line :=
  let q := d.port p
  let w := q.unitWidth
  let cols := (columnsFrom g).map (litColumn (d.parN P.OBST_THIN_LEVEL))
  (findLines cols (d.parN P.OBST_THIN_ROWS) (d.parN P.OBST_THIN_COLS / w) cols.length 0).map fun (a, b) =>
    let part := (cols.drop a).take (b + 1 - a)
    let l : Line := { kind := 1, first := w * a, last := w * b + (w - 1), rows := part.foldl (fun m c => max m c.lit) 0, peak := part.foldl (fun m c => max m c.peak) 0 }
    let l := { l with identity := holderOf q.contacts l.first l.last }
    match q.candidates.find? (l.meets (2 * w)) with
    | some old => { l with frames := min 255 (old.frames + 1), motion := l.moved old }
    | none => l

/-! ### Pinch lines and tension (R396, R398) -/

/-- Maximal runs of columns that meet a condition. -/
def runsWhere (ok : Nat → Bool) : List Nat → Option (Nat × Nat) → List (Nat × Nat)
  | [], none => []
  | [], some r => [r]
  | u :: us, none => runsWhere ok us (if ok u then some (u, u) else none)
  | u :: us, some (a, b) => if ok u then runsWhere ok us (some (a, u)) else (a, b) :: runsWhere ok us none

/-- Sum of d in contact over some rows of a column. -/
def colSum (rows : List Nat) (col : List SkinUnit) : Nat :=
  (rows.map fun r => let c := col.getD r {}; if c.hit then (c.d16 / 16).toNat else 0).foldl (· + ·) 0

/-- Units in contact in a column. -/
def colHits (col : List SkinUnit) : Nat := (col.filter (·.hit)).length

/-- Ridges of the seal band that are pinch lines. -/
def Dev.bandPinches (p : Nat) (cols : List (List SkinUnit)) (band : Nat × Nat) (d : Dev) : List Line :=
  let q := d.port p
  let w := q.unitWidth
  let units := (List.range (band.2 / w + 1 - band.1 / w)).map (· + band.1 / w)
  let all := List.range 32
  let s (u : Nat) : Nat := colSum all (cols.getD u [])
  let m := (medianD 0 (units.map fun u => (s u : Int))).toNat
  let ridges := runsWhere (fun u => decide (d.parN P.OBST_PINCH_RATIO * m ≤ 1000 * s u)) units none
  ridges.filterMap fun (a, b) =>
    let inside := (List.range (b + 1 - a)).map (· + a)
    let rows := inside.foldl (fun n u => max n (colHits (cols.getD u []))) 0
    let top := inside.foldl (fun n u => max n (s u)) 0
    let peak := inside.foldl (fun n u => ((cols.getD u []).filter (·.hit)).foldl (fun k c => max k (c.d16 / 16).toNat) n) 0
    if w * (b + 1 - a) ≤ d.parN P.OBST_PINCH_WIDTH ∧ d.parN P.OBST_PINCH_ROWS ≤ rows ∧ band.1 + 4 ≤ w * a ∧ w * b + (w - 1) + 4 ≤ band.2 then
      some { kind := 2, first := w * a, last := w * b + (w - 1), rows := rows, peak := peak, ratio := if m = 0 then 65535 else satU 16 (1000 * top / m) }
    else none

/-- Row 5 of R377. -/
def Dev.thinObject (c : Contact) (d : Dev) : Bool :=
  decide (d.parN P.OBST_THIN_ROWS ≤ c.aroundLast - c.aroundFirst + 1) && decide (c.coreWidth ≤ d.parN P.OBST_THIN_CORE)
    && decide (c.alongLast - c.alongFirst + 1 ≤ d.parN P.OBST_THIN_EXTENT)

/-- Without a band: contacts that are thin objects over enough rows. -/
def Dev.contactPinches (p : Nat) (cols : List (List SkinUnit)) (d : Dev) : List Line :=
  let q := d.port p
  q.contacts.filterMap fun c =>
    if ¬ c.aggregate ∧ d.thinObject c ∧ d.parN P.OBST_PINCH_ROWS ≤ c.aroundLast - c.aroundFirst + 1 then
      let us := (List.range (c.alongLast / q.unitWidth + 1 - c.alongFirst / q.unitWidth)).map (· + c.alongFirst / q.unitWidth)
      some { kind := 2, first := c.alongFirst, last := c.alongLast, peak := c.peak, rows := us.foldl (fun n u => max n (colHits (cols.getD u []))) 0 }
    else none

/-- A pinch line with what the frame before tells of it: frames, gradient, movement and tension. -/
def Dev.followPinch (p : Nat) (cols : List (List SkinUnit)) (l : Line) (d : Dev) : Line :=
  let q := d.port p
  let w := q.unitWidth
  let l := { l with identity := holderOf q.contacts l.first l.last }
  match (q.lines.filter (·.kind = 2)).find? (l.meets 0) with
  | none => l
  | some old =>
    let part := (cols.drop (l.first / w)).take (l.last / w + 1 - l.first / w)
    let sum (rows : List Nat) : Int := ((part.map (colSum rows)).foldl (· + ·) 0 : Nat)
    let t := sum (List.range 32)
    let g := if t = 0 then 0 else truncDiv (1000 * (sum ((List.range 8).map (· + 24)) - sum (List.range 8))) t
    let moved := l.moved old
    let pulled := decide (d.par P.OBST_DRAG_RISE ≤ (l.peak : Int) - old.peak) || decide (16 * d.par P.OBST_DRAG_SLIDE ≤ moved.natAbs)
    { l with frames := min 255 (old.frames + 1), gradient := g, motion := moved, tension := pulled && decide (d.par P.OBST_DRAG_GRADIENT ≤ g.natAbs) }

/-- Ascending by first column. -/
def insertLine (l : Line) : List Line → List Line
  | [] => [l]
  | x :: xs => if l.first ≤ x.first then l :: x :: xs else x :: insertLine l xs

/-- Centre of a run in µm (R401, R402). -/
def Dev.lineCentre (p : Nat) (l : Line) (d : Dev) : Int := d.portBase p + roundDiv (((l.first + l.last + 1 : Nat) : Int) * portPitch p) 2

/-- Onsets and ends of the pinch lines of a port (R396, R398). -/
def Dev.notePinch (p : Nat) (old : List Line) (d : Dev) : Dev :=
  let q := d.port p
  let pins := q.lines.filter (·.kind = 2)
  let d := match pins with
    | [] => (d.modPort p fun q => { q with pinch := false }).clearing 105 p []
    | l :: _ =>
      let data := i32 (satI 32 (d.lineCentre p l)) ++ u16 (l.last - l.first + 1) ++ u8 l.rows
      let d := if q.pinch then d
        else
          let none' := (List.range 3).all fun x => !(d.port x).pinch
          (d.modObst fun o => { o with pinchCount := satU 16 (o.pinchCount + 1), pinchSince := if none' then d.skin.frameTime else o.pinchSince }).modPort p
            fun q => { q with pinch := true }
      if d.leafCourse = 0 ∧ ¬ d.host.stands 105 p then ((d.onset 105 2 p data).recFlag 12).trigger 9 105 else d
  let tense (l : Line) : Bool := l.tension && !(old.any fun o => o.kind = 2 && o.tension && l.meets 0 o)
  (pins.filter tense).foldl (fun d l =>
    ((d.modObst fun o => { o with tensionCount := satU 16 (o.tensionCount + 1) }).raise 108 2 p (i16 l.gradient ++ u16 l.peak)).trigger 10 108) d

/-- Lines of one leaf port in a frame. -/
def Dev.frameLines (p : Nat) (d : Dev) : Dev :=
  let q := d.port p
  if ¬ q.framed ∨ q.rebuild.isSome then
    (d.modPort p fun q => { q with lines := [], candidates := [] }).notePinch p []
  else
    let g := d.grid p
    let cols := columnsFrom g
    let cands := d.candidateLines p g
    let watch := (d.leafCourse = 2 ∧ d.belowTouch) ∨ (d.leafCourse ≠ 1 ∧ d.inClosedWindow)
    let pins := if watch then (match q.band with
        | some b => d.bandPinches p cols b
        | none => d.contactPinches p cols) else []
    let pins := pins.map fun l => d.followPinch p cols l
    let lines := ((cands.filter fun l => 2 ≤ l.frames) ++ pins).foldr insertLine []
    let d := d.modPort p fun q => { q with candidates := cands, lines := lines }
    d.notePinch p q.lines

/-! ### Contact classes (R376 to R378) -/

/-- What the rain test asks of one contact. -/
def Dev.rainLike (p : Nat) (c : Contact) (d : Dev) : Bool :=
  !c.besideSuspect && decide (c.peak ≤ d.parN P.OBST_PRECIP_PEAK) && decide (c.taxels ≤ d.parN P.OBST_PRECIP_TAXELS)
    && (if p = 2 then decide (c.aroundLast + d.parN P.OBST_PRECIP_ROW ≤ 31) else decide (d.parN P.OBST_PRECIP_ROW ≤ c.aroundFirst))

/-- The class of a contact of a port (R377). -/
def Dev.classOf (p rain : Nat) (c : Contact) (d : Dev) : Nat :=
  let q := d.port p
  let n := c.taxels
  let k := 1000 * c.core
  let along := c.alongLast - c.alongFirst + 1
  let around := c.aroundLast - c.aroundFirst + 1
  let low := max 0 (d.par P.OBST_SEAL_TOUCH - d.par P.OBST_SEAL_SKEW)
  if c.aggregate then 9
  else if c.demanded then c.cls
  else if p = 2 ∧ d.door.step = 1 ∧ d.parN P.OBST_PLAT_EXTENT ≤ along ∧ d.parN P.OBST_PLAT_ROWS ≤ around then 7
  else if q.lines.any (fun l => l.kind = 2 && c.cells.any fun x => decide (l.first ≤ x.1) && decide (x.1 ≤ l.last)) then 8
  else if p ≠ 2 ∧ d.sealCandidate c then (if q.confirmed then 1 else if d.leafPos ≤ low then 9 else 10)
  else if d.thinObject c then 4
  else if d.parN P.OBST_BAR_CORE * n ≤ k ∧ d.parN P.OBST_BAR_PEAK ≤ c.peak then 2
  else if d.parN P.OBST_LIMB_EXTENT ≤ along ∧ k < d.parN P.OBST_BAR_CORE * n then 3
  else if d.rainLike p c ∧ d.parN P.OBST_PRECIP_COUNT ≤ rain then 5
  else if ¬ c.besideSuspect ∧ ¬ c.isNew ∧ c.peak ≤ d.parN P.OBST_PRECIP_PEAK ∧ d.parN P.OBST_ICE_EXTENT ≤ along ∧ c.peakChange.natAbs ≤ 2 ∧ 10 ≤ c.frames then 6
  else 9

/-- Every contact of a port is classed afresh. -/
def Dev.classify (p : Nat) (d : Dev) : Dev :=
  let q := d.port p
  let rain := (q.contacts.filter fun c => !c.aggregate && d.rainLike p c).length
  let within (c : Contact) : Bool := match q.band with
    | some (a, b) => decide (a ≤ c.alongFirst) && decide (c.alongLast ≤ b)
    | none => false
  let cs := q.contacts.map fun c => ({ c with cls := d.classOf p rain c, held := c.demanded, inBand := within c } : Contact)
  d.modPort p fun q => { q with contacts := cs }

/-! ### The pinch-line line and the drag state (R358, R397, R398) -/

/-- A port is a channel that is not available (R393). -/
def Dev.portAway (p : Nat) (d : Dev) : Bool := d.portLink p = 1 && (d.port p).state ≠ 3

/-- The condition of R397, with the ports it names. -/
def Dev.judgeBlindLine (d : Dev) : Dev :=
  let away := bitsOf ((List.range 3).map fun p => d.leafPorts.contains p && d.portAway p)
  let blind := d.inClosedWindow && decide (d.bin.view = 0) && decide (away ≠ 0)
  (d.modObst fun o => { o with blind := blind }).follow 106 1 0xFF blind (u8 away)

/-- Leaf ports with a pinch line, and its centre. -/
def Dev.pinchAt (d : Dev) : Option (Nat × Line) :=
  d.leafPorts.findSome? fun p => ((d.port p).lines.find? (·.kind = 2)).map fun l => (p, l)

/-- The drag state follows the pinch lines and the vehicle view. -/
def Dev.judgeDrag (d : Dev) : Dev :=
  let tension := d.leafPorts.any fun p => (d.port p).lines.any (·.tension)
  let d := d.modObst fun o => { o with tension := tension }
  match d.pinchAt with
  | none =>
    let d := (d.modObst fun o => { o with drag := 0, dragSince := 0, pinchSince := 0 })
    d.leafPorts.foldl (fun d p => d.clearing 107 p []) d
  | some (p, l) =>
    if d.bin.view = 0 then
      let d := d.modObst fun o => { o with drag := 1, dragSince := 0 }
      d.leafPorts.foldl (fun d p => d.clearing 107 p []) d
    else if d.obst.drag = 2 then d
    else
      let d := d.modObst fun o => { o with drag := 2, dragSince := d.chron.time, dragCount := satU 16 (o.dragCount + 1) }
      d.onset 107 2 p (i32 (satI 32 (d.lineCentre p l)))

/-- A frame is evaluated on every port: labelling, lines, classes, then the line to Binnacle (R341, step 5). A frame whose sync has not been sent is not evaluated. -/
def Dev.evaluateFrame (d : Dev) : Dev :=
  if ¬ d.skin.running then d else
  let d := ((d.framePort 0).framePort 1).framePort 2
  let d := d.leaveTouch
  let d := d.leafPorts.foldl (fun d p => d.formCoverage p) d
  let d := d.leafPorts.foldl (fun d p => d.confirmSeal p) d
  let d := d.leafPorts.foldl (fun d p => d.frameLines p) d
  let d := ((d.classify 0).classify 1).classify 2
  let d := d.judgeBlindLine.judgeDrag
  let still := d.pinchAt.isSome || (d.obst.blind && decide (d.par P.OBST_PINCH_BLIND = 1))
  let d := d.modSkin fun s => { s with running := false, line := if still then s.line else !s.line }
  d.rebuildDone

/-! ### Edges, the degraded rule and the force channel (R387, R388, R393) -/

/-- The role of an edge, none where it is not fitted. -/
def Dev.edgeRole (e : Nat) (d : Dev) : Option Nat :=
  if d.edgeMode e = 0 then none else some (d.parN ([P.OBST_EDGE_A_ROLE, P.OBST_EDGE_B_ROLE, P.OBST_EDGE_C_ROLE].getD e P.OBST_EDGE_C_ROLE))

/-- Edges of some roles that read actuated. -/
def Dev.edgesOn (roles : List Nat) (d : Dev) : List Nat :=
  (List.range 3).filter fun e => (d.edge e).state = 2 && (match d.edgeRole e with
    | some r => roles.contains r
    | none => false)

/-- Closing-edge channels of a leaf that are unavailable: [0] port, [1] to [3] edges. -/
def Dev.channelsAway (leaf : Nat) (d : Dev) : Nat :=
  let fitted := leaf = 0 || d.par P.SYS_LEAF_ARRANGEMENT = 1
  if ¬ fitted then 0
  else bitsOf (d.portAway leaf :: (List.range 3).map fun e => d.edgeRole e = some leaf && decide (3 ≤ (d.edge e).state))

/-- "Closing degraded" per leaf, at every profile update. -/
def Dev.judgeDegraded (d : Dev) : Dev :=
  let a := d.channelsAway 0
  let b := d.channelsAway 1
  let d := d.modObst fun o => { o with degradedA := a, degradedB := b }
  (d.follow 104 2 0 (decide (a ≠ 0)) (u8 a)).follow 104 2 1 (decide (b ≠ 0)) (u8 b)

/-- The force threshold of a direction (R384, R387). -/
def Dev.forceThreshold (opening : Bool) (d : Dev) : Int :=
  if opening then d.par P.OBST_FORCE_OPEN
  else
    (if d.obst.degradedA ≠ 0 ∨ d.obst.degradedB ≠ 0 then d.par P.OBST_FORCE_DEGRADED else d.par P.OBST_FORCE_CLOSE)
      + (if d.obst.sealRaise then d.par P.OBST_SEAL_FORCE else 0)

/-- The force channel at a speed sample (R387). -/
def Dev.forceSample (d : Dev) : Dev :=
  let big := decide (d.pilot.validity ≠ 2) && decide (d.forceThreshold d.dirOpening ≤ d.pilot.force) && decide (d.leafCourse ≠ 0)
  let n := if big then d.obst.forceCount + 1 else 0
  d.modObst fun o => { o with forceCount := min 255 n, forceExcess := decide (d.parN P.OBST_FORCE_COUNT ≤ n) }

/-! ### Demands (R389 to R391) -/

/-- Obstacle contacts of some ports. -/
def Dev.obstacleContacts (ports : List Nat) (d : Dev) : List (Nat × Contact) :=
  ports.flatMap fun p => ((d.port p).contacts.filter fun c => obstacleClass c.cls).map fun c => (p, c)

/-- Thin lines of the leaf ports, with the mark of their confirmation: the frame. -/
def Dev.thinLines (d : Dev) : List (Nat × Line) :=
  d.leafPorts.flatMap fun p => ((d.port p).lines.filter (·.kind = 1)).map fun l => (p, l)

/-- Identity of an aggregate record among the onsets. -/
def Contact.key (c : Contact) : Nat := if c.aggregate then 65536 else c.identity

/-- The conditions that stand, by the bits of offset 5 of R403. -/
def Dev.obstacleNow (d : Dev) : Nat :=
  bitsOf [!(d.obstacleContacts d.leafPorts).isEmpty, !d.thinLines.isEmpty, d.obst.forceExcess, !(d.edgesOn [0, 1, 2]).isEmpty,
    !(d.obstacleContacts [2]).isEmpty, !(d.edgesOn [3]).isEmpty, d.obst.stepStall]

/-- What an axis sees at a profile update: the channels with an onset, the contacts that make one, and the class. -/
structure Onset where
  sources : Nat
  contacts : List (Nat × Nat)
  cls : Nat
  deriving DecidableEq, Repr

/-- Onsets of the leaf (R374, R389). `all` counts every condition present as one. -/
def Dev.leafOnsets (course : Nat) (all : Bool) (d : Dev) : Onset :=
  let fresh (k : Nat × Nat) : Bool := all || !d.obst.seen.contains k
  let cs := (d.obstacleContacts d.leafPorts).filter fun (p, c) => fresh (p, c.key)
  let ls := d.thinLines.filter fun (p, l) => all || (l.frames = 2 && fresh (3 + p, d.skin.frame))
  let edges (roles : List Nat) : Bool := (d.edgesOn roles).any fun e => all || !bitAt d.obst.edgesSeen e
  let force := d.obst.forceExcess && (all || !bitAt d.obst.leaf.present 2)
  let mute := decide (d.leafPos ≤ d.par P.OBST_EDGE_MUTE)
  if course = 2 then
    { sources := bitsOf [!cs.isEmpty, !ls.isEmpty, force, !mute && edges [0, 1]]
      contacts := cs.map fun (p, c) => (p, c.key)
      cls := match cs with
        | (_, c) :: _ => c.cls
        | [] => if ls.isEmpty then 0 else 4 }
  else if course = 1 then { sources := bitsOf [false, false, force, edges [2]], contacts := [], cls := 0 }
  else { sources := 0, contacts := [], cls := 0 }

/-- Onsets of the step, while it deploys or retracts. -/
def Dev.stepOnsets (all : Bool) (d : Dev) : Onset :=
  let cs := (d.obstacleContacts [2]).filter fun (p, c) => all || !d.obst.seen.contains (p, c.key)
  let edge := (d.edgesOn [3]).any fun e => all || !bitAt d.obst.edgesSeen e
  if d.door.step = 1 ∨ d.door.step = 3 then
    { sources := bitsOf [false, false, false, false, !cs.isEmpty, edge, d.obst.stepStall && decide (d.door.step = 3)]
      contacts := cs.map fun (p, c) => (p, c.key)
      cls := match cs with
        | (_, c) :: _ => c.cls
        | [] => 0 }
  else { sources := 0, contacts := [], cls := 0 }

/-- The contacts that caused a demand keep their class (R378). -/
def Dev.markDemanded (ks : List (Nat × Nat)) (d : Dev) : Dev :=
  d.modSkin fun s => { s with
    ports := (numbered s.ports).map fun (p, q) => { q with
      contacts := q.contacts.map fun c => if ks.contains (p, c.key) ∧ ¬ c.aggregate then { c with demanded := true } else c } }

/-- The motion of the step as the arbiter takes it: a stall that has stopped a retraction still belongs to it (R218). -/
def Dev.stepCourse (d : Dev) : Nat := if d.obst.stepStall ∧ d.door.step = 3 then 2 else d.stepMotion

/-- A watch at this update: a new motion starts its count. -/
def AxisWatch.follow (w : AxisWatch) (course present : Nat) : AxisWatch :=
  if course = w.motion then { w with present := present }
  else { motion := course, judged := false, demanded := false, sources := 0, due := w.due, present := present, seq := w.seq }

/-- An axis with its onsets: the first of a motion raises the demand, the others are recorded. -/
def Dev.demand (axis : Nat) (o : Onset) (w : AxisWatch) (d : Dev) : AxisWatch × Dev :=
  let w := { w with judged := true }
  if w.motion = 0 ∨ o.sources = 0 then (w, d)
  else
    let w := { w with sources := w.sources ||| o.sources }
    if w.demanded then (w, d.modObst fun s => { s with lastSources := if s.lastAxis = axis then w.sources else s.lastSources })
    else
      let d := d.modObst fun s => { s with
        demands := satU 16 (s.demands + 1), lastAxis := axis, lastSources := w.sources, lastClass := o.cls, lastTime := d.chron.time, lastPos := d.leafPos }
      let d := d.markDemanded o.contacts
      let seq := d.nv.eventSeq
      let d := d.raise 109 0 axis (u8 o.sources ++ u8 o.cls ++ i32 (satI 32 d.leafPos))
      let d := d.trigger 0 109
      let d := { d with log := { d.log with demandNow := true } }
      let d := if axis = 0 then d.recDemand o.sources o.cls else d
      ({ w with demanded := true, due := true, seq := seq }, d)

/-- The arbiter at a profile update (R389, R390): the channels are compared with the update before, in the motion of each axis. -/
def Dev.arbitrate (d : Dev) : Dev :=
  let d := d.leaveTouch.judgeDegraded.judgeDrag
  let now := d.obstacleNow
  let course := d.leafCourse
  let d := if course = 2 ∧ d.obst.leaf.motion ≠ 2 then d.modSkin fun s => { s with ports := s.ports.map fun q => { q with highest := q.coverage } } else d
  let leaf := d.obst.leaf.follow course now
  let step := d.obst.step.follow d.stepCourse now
  let (leaf, d) := d.demand 0 (d.leafOnsets course (!leaf.judged)) leaf
  let (step, d) := d.demand 1 (d.stepOnsets (!step.judged)) step
  let contacts := d.obstacleContacts [0, 1, 2]
  let seen := contacts.map (fun (p, c) => (p, c.key)) ++ (d.thinLines.filter fun x => x.2.frames = 2).map fun (p, _) => (3 + p, d.skin.frame)
  let edges := bitsOf ((List.range 3).map fun e => decide ((d.edge e).state = 2))
  let passed := d.leafPorts.any fun p => (d.port p).contacts.any fun c => passedClass c.cls && c.cls ≠ 1
  let inMove := d.obst.contactInMove || (decide (course ≠ 0) && passed)
  let onStep := !(d.obstacleContacts [2]).isEmpty || !(d.edgesOn [3]).isEmpty
  let d := if inMove then d.modPilot fun p => { p with learnOk := false } else d
  d.modObst fun o => { o with
    leaf := leaf, step := step, seen := seen, edgesSeen := edges, stepStall := false, contactInMove := inMove
    stepClearSince := if onStep then d.now else o.stepClearSince }

/-- A contact other than the seal meeting is passed to the sequencer (R160, R379). -/
def Dev.contactPassed (d : Dev) : Bool := d.leafPorts.any fun p => (d.port p).contacts.any fun c => passedClass c.cls && c.cls ≠ 1

/-- Platform contact on port C (R219, R379). -/
def Dev.platformSeen (d : Dev) : Bool := (d.port 2).contacts.any fun c => c.cls = 7

/-- The arbiter's channels that act on the step show an obstacle (R172, R392). -/
def Dev.stepObstacle (d : Dev) : Bool := !(d.obstacleContacts [2]).isEmpty || !(d.edgesOn [3]).isEmpty

/-- "Seal not recognised" as a leaf reaches Closed (R385). -/
def Dev.sealCheck (d : Dev) : Dev :=
  d.leafPorts.foldl (fun d p =>
    if d.portLink p = 0 ∨ (d.port p).confirmed then d
    else (d.recFlag 14).raise 103 1 p (u16 (satU 16 (d.port p).highest))) d

/-! ### Queries (R400 to R404) -/

/-- Bytes 0 to 31 of a contact record (R356). -/
def Contact.record (p : Nat) (c : Contact) : List Byte :=
  u16 c.identity ++ u8 p ++ u8 (bitsOf [c.isNew, c.merged, c.split, c.besideSuspect, c.aggregate, c.binned])
    ++ u16 (satU 16 c.taxels) ++ u16 c.alongFirst ++ u16 c.alongLast ++ u8 c.aroundFirst ++ u8 c.aroundLast ++ u16 c.peak ++ u16 c.peakAlong
    ++ u8 c.peakRow ++ u8 c.frames ++ u16 (satU 16 c.core) ++ u16 c.coreWidth ++ u16 (satU 16 c.centroid) ++ i16 (satI 16 c.motion)
    ++ i16 (satI 16 c.peakChange) ++ u32 c.devSum

/-- A contact record with what the arbiter adds (R401). -/
def Dev.contactEntry (p : Nat) (c : Contact) (d : Dev) : List Byte :=
  let leaf := d.leafPorts.contains p
  c.record p ++ u8 c.cls ++ u8 (bitsOf [obstacleClass c.cls, c.demanded, c.held, leaf && passedClass c.cls, c.inBand]) ++ u16 0
    ++ i32 (satI 32 (d.portBase p + roundDiv (((2 * c.centroid + 16 : Nat) : Int) * portPitch p) 32))

/-- A line record (R402). -/
def Dev.lineEntry (p : Nat) (l : Line) (d : Dev) : List Byte :=
  u8 l.kind ++ u8 l.frames ++ u16 l.first ++ u16 l.last ++ u8 l.rows ++ u8 0 ++ u16 l.peak ++ u16 l.ratio ++ i16 (satI 16 l.gradient) ++ i16 (satI 16 l.motion)
    ++ i32 (satI 32 (d.lineCentre p l)) ++ u16 l.identity ++ u16 0

/-- The line records of a port: at most 8, in ascending order (R401). -/
def Port.lineRecords (q : Port) : List Line := q.lines.take 8

/-- CONTACT_LIST: the status and the reply data (R400, R401). -/
def Dev.contactList (port kind first count : Nat) (d : Dev) : Nat × List Byte :=
  let q := d.port port
  let off := q.state = 0
  let have' := if off then 0 else if kind = 0 then q.contacts.length else q.lineRecords.length
  let most := if kind = 0 then 24 else 8
  if 2 < port then (0x08, u8 0)
  else if 1 < kind then (0x08, u8 1)
  else if 64 < first ∨ (¬ off ∧ have' ≤ first) then (0x08, u8 2)
  else if count = 0 ∨ most < count then (0x08, u8 3)
  else
    let cs := if off ∨ kind = 1 then [] else ((q.contacts.drop first).take count)
    let ls := if off ∨ kind = 0 then [] else ((q.lineRecords.drop first).take count)
    let body := cs.flatMap (fun c => d.contactEntry port c) ++ ls.flatMap fun l => d.lineEntry port l
    (0, u8 port ++ u8 q.state ++ u8 (if off then 0 else q.contacts.length) ++ u8 (if off then 0 else q.lineRecords.length) ++ u8 first ++ u8 (cs.length + ls.length)
      ++ u8 0 ++ u32 q.frameNo ++ u64 q.frameTime ++ body)

/-- OBSTACLE_STATE (R403). -/
def Dev.obstacleState (d : Dev) : List Byte :=
  let o := d.obst
  let now := d.obstacleNow
  let band (p : Nat) : List Byte := match (d.port p).band with
    | some (a, b) => u16 a ++ u16 b
    | none => u16 0xFFFF ++ u16 0xFFFF
  let pending := d.leafPorts.any fun p => (d.port p).contacts.any fun c => c.cls = 10
  let pinch := d.pinchAt.isSome
  u8 (bitsOf [decide (now % 16 ≠ 0), decide (16 ≤ now), pending, d.leafPorts.all fun p => (d.port p).confirmed, pinch, o.tension, d.skin.line, o.blind])
    ++ u8 o.drag ++ u8 (bitsOf [decide (o.degradedA ≠ 0) || decide (o.degradedB ≠ 0), decide (d.channelsAway 0 = 0), d.par P.SYS_LEAF_ARRANGEMENT = 1 && decide (d.channelsAway 1 = 0)])
    ++ u8 (if o.demands = 0 then 0xFF else o.lastAxis) ++ u8 o.lastSources ++ u16 o.demands ++ u64 o.lastTime ++ i32 (satI 32 o.lastPos)
    ++ i32 (satI 32 d.pilot.force) ++ i32 (d.forceThreshold d.dirOpening) ++ u8 d.pilot.validity ++ u8 o.forceCount ++ u16 0
    ++ band 0 ++ band 1 ++ (List.range 3).flatMap (fun e => u8 (d.edge e).state) ++ u8 0

/-- DRAG_STATE (R404). -/
def Dev.dragState (d : Dev) : List Byte :=
  let o := d.obst
  let l := d.pinchAt
  u8 o.drag ++ u8 d.bin.view ++ u8 (bit o.tension) ++ u64 o.pinchSince ++ u64 o.dragSince
    ++ i32 (match l with | some (p, l) => satI 32 (d.lineCentre p l) | none => 0)
    ++ i16 (match l with | some (_, l) => satI 16 l.gradient | none => 0) ++ u16 (match l with | some (_, l) => l.peak | none => 0)
    ++ u16 o.pinchCount ++ u16 o.dragCount

end Sys2Proof.Machine
end

