-- ==== Sys2Proof/Machine/DoorOps.lean ====
section
/-! DEFINITION. The doorway sequencer's own acts: states and their events, the lock, the step's state, opening, closing, reversing, Landfall, the emergency state, Faulted, classification (chapter 05). -/

namespace Sys2Proof.Machine

/-! ### Orders in flight (R115, R116, R185) -/

/-- The journal progress of the doorway order in flight. -/
def Dev.doorProgress (n : Nat) (d : Dev) : Dev := match d.door.order with
  | some o => (match o.slot with
    | some s => d.progress s n
    | none => d)
  | none => d

/-- The doorway order in flight ends with a reply. -/
def Dev.endDoorOrder (f : Option Nat → Dev → Dev) (d : Dev) : Dev := match d.door.order with
  | some o => f o.slot (d.modDoor fun q => { q with order := none })
  | none => d

/-- It ends DONE. -/
def Dev.doneDoor (d : Dev) : Dev := d.endDoorOrder fun s d => d.replyTo s 0 []

/-- It ends SUPERSEDED. -/
def Dev.supersedeDoor (d : Dev) : Dev := d.endDoorOrder fun s d => d.replyTo s 0x11 []

/-- It ends ABORTED. -/
def Dev.abortDoor (reason : Nat) (d : Dev) : Dev := d.endDoorOrder fun s d => d.abort s reason

/-- The order that waits for its start time ends with a reply. -/
def Dev.endWait (f : Option Nat → Dev → Dev) (d : Dev) : Dev := match d.door.waitOrder with
  | some o => f o.slot (d.modDoor fun q => { q with waitOrder := none })
  | none => d

/-- The step order in flight ends with a reply. -/
def Dev.endStepOrder (f : Nat → Dev → Dev) (d : Dev) : Dev := match d.door.stepOrder with
  | some (_, s) => f s (d.modDoor fun q => { q with stepOrder := none })
  | none => d

/-- The announcement of a Landfall that has not been entered. -/
def LandfallPhase.slot : LandfallPhase → Option Nat
  | .armed s _ => some s
  | .entering s _ => some s
  | .unlocking s => some s
  | _ => Option.none

/-- An armed or beginning Landfall ends with a reply to its announcement. -/
def Dev.endLandfall (f : Option Nat → Dev → Dev) (d : Dev) : Dev :=
  let p := d.door.landfall
  let d := d.modDoor fun q => { q with landfall := .none }
  match p.slot with
  | some s => f (some s) d
  | none => d

/-- Every doorway order in flight ends ABORTED: started, waiting, not yet handled, announced, of the step. -/
def Dev.abortAll (reason : Nat) (d : Dev) : Dev :=
  let inbox := d.door.inbox
  let d := d.abortDoor reason
  let d := d.endWait fun s d => d.abort s reason
  let d := (d.endStepOrder fun s d => d.abort (some s) reason).endLandfall fun s d => d.abort s reason
  let d := d.modDoor fun q => { q with inbox := [] }
  inbox.foldl (fun d o => d.abort o.slot reason) d

/-- Axis orders that move an axis end ABORTED. -/
def Dev.abortAxes (reason : Nat) (d : Dev) : Dev :=
  d.endAxisOrders (fun o => o.1 = 0x30 || o.1 = 0x31) fun s d => d.abort (some s) reason

/-! ### The state (R140, R147) -/

/-- The cause that offset 3 of DOOR_STATE reports (R186). -/
def Door.cause (q : Door) : Nat :=
  if q.state = 13 then q.fault else if q.state = 11 then q.emerg else if q.state = 5 then q.origin else 0

/-- Both closed pairs that the arrangement uses are made (R143). -/
def Dev.closedPairs (d : Dev) : Bool := d.door.copies.closedA && (d.par P.SYS_LEAF_ARRANGEMENT ≠ 1 || d.door.copies.closedB)

/-- The leaves lie at the closed datum, by their position or by the closed pairs. -/
def Dev.atDatum (d : Dev) : Bool := d.inClosedWindow || d.closedPairs

/-- The lock channel is switched. -/
def Dev.setLock (on : Bool) (d : Dev) : Dev := (d.modDoor fun q => { q with lockOn := on }).refreshLoads

/-- The lock channel in a state (R140): on in 2 to 9, off in 0, 1, 10 and 11; off in Faulted at the datum, else unchanged: from Maintenance, as LCH_SET left the channel. -/
def Dev.lockFor (state : Nat) (d : Dev) : Bool :=
  if 2 ≤ state ∧ state ≤ 9 then true
  else if state = 13 then (if d.door.state = 12 then (d.ch (d.parN P.DOOR_LOCK_CHANNEL)).order else d.door.lockOn) && !d.atDatum
  else if state = 12 then d.door.lockOn
  else false

/-- Timers and marks that end with a state, as the doorway enters another one. A closing that seeks the datum goes on seeking through a reversal and its Holding (R180), and the limit of R172 waits for the leaves to rest. -/
def Door.clearPhase (new : Nat) (q : Door) : Door := { q with
  unlockBy := none, lockBy := none, lockRetried := false, pulseEnd := none, warnEnd := none, flashing := false, flashOn := false
  waitPairs := none, waitWindow := none, holdEnd := none, backingOff := false, stopping := false
  assist := false, assistStill := none, suspended := false, resumeAt := none, zeroAtRest := false
  openAfterStep := false, obstructAtRest := q.obstructAtRest && [1, 3, 4, 5, 6, 7].contains new, seeking := q.seeking && [5, 6, 7].contains new }

/-- The doorway enters a state, with its event, its lock channel and what the Log keeps. `quiet` takes the first state of all without an event. -/
def Dev.setDoorAs (quiet : Bool) (new : Nat) (d : Dev) : Dev :=
  let old := d.door.state
  let lock := d.lockFor new
  let d := if old = 13 ∧ new ≠ 13 then d.clearing 33 0xFF (u8 d.door.fault) else d
  let d := if old = 8 ∧ new ≠ 8 then d.clearing 34 0xFF (u8 d.door.closingCount ++ u8 d.door.openingCount) else d
  let reset := new = 0 ∨ new = 10 ∨ new = 12
  let d := d.modDoor fun q => { q.clearPhase new with
    state := new, prev := if quiet then q.prev else old, changed := d.chron.time
    closingCount := if reset then 0 else q.closingCount, openingCount := if reset then 0 else q.openingCount
    isolating := q.isolating && decide (new ≠ 10) && decide (new ≠ 8) && decide (new ≠ 11) && decide (new ≠ 12) && decide (new ≠ 13) }
  -- Isolation is kept until it is restored (R181): Maintenance and Faulted do not end it.
  let d := if new = 10 then { d with nv := { d.nv with wasIsolated := true } }
    else if quiet ∨ new = 12 ∨ new = 13 then d else { d with nv := { d.nv with wasIsolated := false } }
  let d := if quiet then d else (d.raise 32 0 0xFF (u8 old ++ u8 new ++ u8 d.door.cause)).recState old new
  d.setLock lock

/-- The doorway changes its state. -/
def Dev.setDoor (new : Nat) (d : Dev) : Dev := if d.door.state = new then d else d.setDoorAs false new

/-! ### Pilot for the sequencer -/

/-- The sequencer's own hold on Pilot ends: gates on, no winding short. -/
def Dev.freeDrive (d : Dev) : Dev :=
  (d.modPilot fun p => { p with short := false, gatesOff := false, shortAfterStop := false, dr := 0, endStop := false, stopSince := none }).modDrive
    fun p => { p with shortHeld := false }

/-- The sequencer ends a manual mode: automatic control returns at the next position sample, as R260 says; what LOOP_MODE and LOOP_MANUAL asked for ends. -/
def Dev.autoNow (axis : Nat) (d : Dev) : Dev :=
  let m := if axis = 0 then d.pilot.leafMode else d.pilot.stepMode
  if m.mode = 0 then d
  else
    let mode := if m.toAuto then none else m.modeSlot
    let next : AxisMode := { m with toAuto := true, modeSlot := if m.toAuto then m.modeSlot else none, manualSlot := none }
    let d := if axis = 0 then d.modPilot fun p => { p with leafMode := next } else d.modPilot fun p => { p with stepMode := next }
    (d.abort mode 6).abort m.manualSlot 6

/-- Manual current of the leaf with a set-point in mA (R156, R176, R250). -/
def Dev.manualCurrent (want : Int) (d : Dev) : Dev :=
  (d.enterManual 0 1).modPilot fun p => { p with leafMode := { p.leafMode with want := want } }

/-- An injection ends early (R265). -/
def Dev.endInjection (status reason : Nat) (d : Dev) : Dev := match d.pilot.inject with
  | none => d
  | some j =>
    let d := d.modPilot fun p => { p with inject := none }
    if status = 0x14 then d.abort (some j.slot) reason else d.reply j.slot status []

/-! ### Moves of the leaves -/

/-- The open end: PLAN_OPEN_END, or the soft limit below it (R194). -/
def Dev.openEnd (d : Dev) : Int := min (d.par P.PLAN_OPEN_END) (d.umOfSub d.softHigh)

/-- The leaves are at the open end. -/
def Dev.atOpenEnd (d : Dev) : Bool := decide ((d.leafPos - d.openEnd).natAbs ≤ d.parN P.PLAN_INPOS_WINDOW)

/-- A move of a doorway order. A follower waits for its leader's telegram first (R545); what its own order called for starts as R192 says. -/
def Dev.moveLeaf (mv : Move) (d : Dev) : Dev :=
  if d.par P.SYS_DRIVE_ROLE ≠ 2 ∨ mv.trapezoid then d.goLeaf mv
  else
    let d := if d.leaf.rests then d else d.rampDown false
    (d.clearing 43 0xFF (u8 0)).modLeaf fun l => { l with
      next := some mv, leaderLost := false, leaderWait := some (d.now + ms (d.parN P.CHRON_LEADER_WAIT)) }

/-- The leader's telegram reports motion in the follower's direction with its start time (R545). -/
def Dev.leaderAgrees (mv : Move) (d : Dev) : Bool := match d.connOf 4 with
  | none => false
  | some c =>
    let k := d.conn c
    let start := match d.door.order with | some o => o.start | none => 0
    let dir := if d.leaf.sp.p ≤ mv.target then 1 else 2
    k.valid && decide (k.payload.length = 16) && decide (fieldAt 8 1 k.payload = dir) && decide (fieldAt 0 8 k.payload = start)

/-- A follower begins its motion, geared to the leader (R212, R545); an opening asks for the permit (R145). The profile that it would run by itself is kept for R38. A move that has begun on the trapezoid finishes on it (R200). -/
def Dev.followLeader (d : Dev) : Dev := match d.leaf.leaderWait, d.leaf.next with
  | some _, some mv =>
    if ¬ d.leaf.rests ∨ d.pilot.leafMode.mode ≠ 0 ∨ ¬ d.leaderAgrees mv then d
    else
      let d := d.modLeaf fun l => { l with leaderWait := none }
      if d.leaf.sp.p < mv.target ∧ ¬ d.door.copies.permit then (d.modLeaf fun l => { l with next := none }).abortDoor 4
      else
        let d := d.startMove mv
        if d.leaf.mode ≠ 1 then d
        else d.presetPassThrough.modLeaf fun l => { l with
          gearing := true, mode := 6, own := l.phases, ownBase := l.base, ownTime := l.baseTime, phases := [] }
  | _, _ => d

/-- The leaves start opening to the open end (R151). -/
def Dev.openLeaves (d : Dev) : Dev := (d.doorProgress 4).moveLeaf { target := d.goalOf (d.par P.PLAN_OPEN_END), toEnd := true }

/-- Opening begins; without the permit the order ends ABORTED, reason 4 (R145, R150). -/
def Dev.beginOpening (d : Dev) : Dev :=
  if ¬ d.door.copies.permit then d.abortDoor 4
  else (d.setDoor 3).openLeaves

/-! ### The step's state (R141, R170 to R173) -/

/-- The step moves under the step order in flight: progress 6 (R185). -/
def Dev.stepProgress (d : Dev) : Dev := match d.door.stepOrder with
  | some (_, s) => d.progress s 6
  | none => d

/-- The step order of an opcode ends SUPERSEDED, where the doorway itself moves the step the other way. -/
def Dev.supersedeStep (op : Nat) (d : Dev) : Dev := match d.door.stepOrder with
  | some (o, _) => if o = op then d.endStepOrder fun s d => d.reply s 0x11 [] else d
  | none => d

/-- The step enters a state; the orders that it ends are answered. -/
def Dev.setStep (new : Nat) (d : Dev) : Dev :=
  let old := d.door.step
  if old = new then d
  else
    let d := d.modDoor fun q => { q with step := new, stepSince := if new = 1 ∨ new = 3 then q.stepSince else none }
    let d := d.raise 37 0 0xFF (u8 old ++ u8 new)
    let d := if new = 0 then d.clearing 38 0xFF (u8 0) else d
    let d := if new = 2 then (d.modStep fun s => { s with deployedAt := wholeOf s.sp.p }).recFlag 6 else d
    let d := if new = 1 ∨ new = 3 then d.stepProgress else d
    match d.door.stepOrder with
    | some (op, _) =>
      if (op = 0x28 ∧ new = 2) ∨ (op = 0x29 ∧ new = 0) then d.endStepOrder fun s d => d.done s [] else d
    | none => d

/-- Step-faulted: 1 homing failed, 2 limit trip, 3 move over 3 s, 4 bridge fault, 5 stall. A stop on the emergency ramp goes on; the orders that move the step end. -/
def Dev.stepFault (reason : Nat) (d : Dev) : Dev :=
  if d.door.step = 5 then d
  else
    let d := d.modDoor fun q => { q with deployAfterHome := false, stepWaiting := false, stepAgain := none }
    let d := d.modStep fun s => { s with find := 0, home := 0 }
    let d := if d.step.stopping then d else d.rampStep false
    let d := d.setStep 4
    let d := (d.onset 38 2 0xFF (u8 reason)).trigger 7 38
    let d := d.endStepOrder fun s d => d.abort (some s) 2
    let d := d.endAxisOrders (fun o => (o.1 = 0x30 || o.1 = 0x31) && o.2.2 = 1) fun s d => d.abort (some s) 2
    if d.door.openAfterStep then (d.modDoor fun q => { q with openAfterStep := false }).abortDoor 2 else d

/-- Platform find cannot run: port C faulted or disabled (R220). -/
def Dev.findAway (d : Dev) : Bool := (d.port 2).state = 0 || (d.port 2).state = 5

/-- The step sets out to deploy; in Step-faulted from a classification it homes first (R170, R181, R182, R219, R220). A retraction turns round, or homes to its end where the position is unverified. Whether a deployment begins. -/
def Dev.beginDeploy (d : Dev) : Bool × Dev :=
  let s := d.door.step
  if s = 1 ∨ s = 2 ∨ s = 5 ∨ (s = 4 ∧ ¬ d.step.unverified) then (decide (s = 1), d)
  else if d.findAway then (false, d.onset 47 1 0xFF (u8 (d.port 2).state))
  else
    let d := d.supersedeStep 0x29
    if 2 ≤ d.supply.reef then (true, d.modDoor fun q => { q with stepWaiting := true, waitDeploy := true })
    else
      let d := d.modDoor fun q => { q with stepSince := some d.now, stepWaiting := false }
      if s = 4 then (true, ((d.modDoor fun q => { q with deployAfterHome := true, stepSince := none }).stepProgress).homeStepAxis)
      else if s = 3 ∧ d.step.unverified then (true, d.modDoor fun q => { q with deployAfterHome := true })
      else if s = 3 then (true, ((d.setStep 1).modStep fun s => { s with find := 1, findStops := 0, home := 0 }).rampStep false)
      else (true, d.deployStep.setStep 1)

/-- The step sets out to retract; in Step-faulted it homes (R171, R173). -/
def Dev.beginRetract (d : Dev) : Dev :=
  if d.door.step = 0 ∨ d.door.step = 5 ∨ d.door.step = 3 then d
  else
    let d := (d.supersedeStep 0x28).modDoor fun q => { q with stepAgain := none, deployAfterHome := false }
    if 2 ≤ d.supply.reef then d.modDoor fun q => { q with stepWaiting := true, waitDeploy := false }
    else
      let d := d.modDoor fun q => { q with stepWaiting := false }
      if d.door.step = 4 then d.stepProgress.homeStepAxis
      else
        let d := (d.modDoor fun q => { q with stepSince := some d.now }).setStep 3
        if d.step.phases.isEmpty then d.retractStep else (d.modStep fun s => { s with find := 0 }).rampStep false

/-- A deployment that was put off begins. Where it cannot (R220), STEP_DEPLOY ends and leaves that waited for the step open. -/
def Dev.deployLater (d : Dev) : Dev :=
  let (begins, d) := d.beginDeploy
  if begins then d
  else
    let d := match d.door.stepOrder with
      | some (op, _) => if op = 0x28 then d.endStepOrder fun s d => d.abort (some s) 6 else d
      | none => d
    if ¬ d.door.openAfterStep then d
    else
      let d := d.modDoor fun q => { q with openAfterStep := false }
      if d.door.state = 2 then d.beginOpening else d

/-- Homing of the step has ended with a result of R226 (R173, R223). -/
def Dev.stepHomed (result : Nat) (d : Dev) : Dev :=
  let d := d.homeStepEnds result
  if result ≠ 0 then (d.rampStep (decide (result = 3))).stepFault (if result = 3 then 2 else if result = 4 then 5 else 1)
  else
    let d := d.setStep 0
    if d.door.deployAfterHome then (d.modDoor fun q => { q with deployAfterHome := false }).deployLater else d

/-! ### Closing -/

/-- The leaves start closing to the datum, or seek it where the position is unknown or the doorway was Faulted for it (R153, R180). -/
def Dev.closeLeaves (d : Dev) : Dev :=
  let d := d.doorProgress 4
  let d := if d.door.state = 6 then d.recCloseBegins else d
  let d := if d.par P.DOOR_STEP_RETRACT_AT = 0 ∧ d.door.state = 6 then d.beginRetract else d
  if d.door.seeking ∨ d.sext.ref = 0 then (d.modDoor fun q => { q with seeking := true }).homeLeaf
  else d.moveLeaf { target := 0, toEnd := true }

/-- The warning flashes (R153). -/
def Dev.startFlash (d : Dev) : Dev :=
  (d.modDoor fun q => { q with flashing := true, flashOn := true, flashNext := d.now + ms 500 }).refreshLoads

/-- Closing begins with its warning; the leaves move at its end (R153). `ahead`: ticks to the start time. -/
def Dev.beginClosing (ahead : Nat) (d : Dev) : Dev :=
  let moving := !d.leaf.rests
  let going := d.door.state = 6 ∧ d.door.warnEnd.isNone ∧ ¬ d.door.stopping
  if going then d
  else
    let d := d.setDoor 6
    let d := if moving ∧ d.leaf.opening then d.rampDown false else d
    let warn := max ahead (ms (d.parN P.DOOR_CLOSE_WARN_TIME))
    ((d.modDoor fun q => { q with warnEnd := some (d.now + warn), stopping := false }).doorProgress 2).startFlash

/-- Closed is entered, and the lock gets its time (R154). A step that is still out retracts (R171), one that a contact returned after its delay (R172); a deployment that still waits lapses. -/
def Dev.enterClosed (d : Dev) : Dev :=
  let moved := d.door.state = 6
  let d := d.setDoor 1
  let d := if moved then d.sealCheck else d
  let d := (d.modDoor fun q => { q with lockBy := some (d.now + ms (d.parN P.DOOR_LOCK_TIME)) }).doorProgress 3
  if (d.door.step = 1 ∨ d.door.step = 2) ∧ d.door.stepAgain.isNone then d.beginRetract
  else if d.door.stepWaiting ∧ d.door.waitDeploy then
    (d.supersedeStep 0x28).modDoor fun q => { q with stepWaiting := false, waitDeploy := false }
  else d

/-! ### Faulted and Obstructed (R156 to R158, R179) -/

/-- Reason of the ABORTED replies of a Faulted cause. -/
def faultReason (cause : Nat) : Nat := if cause = 4 then 5 else if cause = 6 then 4 else 2

/-- Both axes stop on their ramps (R191, row 1); homing and a manual drive of either end (R178, R179). -/
def Dev.haltAxes (d : Dev) : Dev :=
  (((d.modStep fun s => { s with home := 0 }).stopAxis 2).autoNow 0).autoNow 1

/-- Faulted is entered with a cause; a doorway that is Faulted keeps its cause (R179). -/
def Dev.doorFault (cause : Nat) (d : Dev) : Dev :=
  if d.door.state = 13 ∧ d.door.fault ≠ 0 then d
  else
    let d := d.modDoor fun q => { q with fault := cause }
    let d := d.setDoorAs (decide (d.door.state = 13)) 13
    let d := (d.onset 33 2 0xFF (u8 cause)).trigger 5 33
    let d := (d.abortAll (faultReason cause)).abortAxes (faultReason cause)
    let d := d.modDoor fun q => { q with stepWaiting := false, deployAfterHome := false }
    d.haltAxes

/-- Obstructed is entered; the order that met the obstacles ends ABORTED, reason 1. -/
def Dev.obstructed (d : Dev) : Dev :=
  let d := (d.setDoor 8).onset 34 1 0xFF (u8 d.door.closingCount ++ u8 d.door.openingCount)
  d.abortDoor 1

/-- An obstruction while closing (R155, R156): the leaves stop; with the permit they will open again. -/
def Dev.closingObstruction (d : Dev) : Dev :=
  let d := d.modDoor fun q => { q with closingCount := min 255 (q.closingCount + 1) }
  let d := d.stopAxis 0
  if d.pilot.dr = 1 then d
  else if d.door.copies.permit then
    let d := d.setDoor 7
    ((d.modDoor fun q => { q with stopping := true, backingOff := false }).doorProgress 5).recFlag 4
  else d.modDoor fun q => { q with zeroAtRest := true, warnEnd := none }

/-- An obstacle while opening (R152). -/
def Dev.openingObstruction (d : Dev) : Dev :=
  let d := d.modDoor fun q => { q with openingCount := min 255 (q.openingCount + 1) }
  let d := (d.stopAxis 0).setDoor 7
  (d.modDoor fun q => { q with stopping := true, backingOff := true }).doorProgress 5

/-- A reversal or back-off sets out once the leaves rest. -/
def Dev.beginReversal (d : Dev) : Dev :=
  let d := d.modDoor fun q => { q with stopping := false }
  let p := d.leafPos
  if d.door.backingOff then
    let back := d.par P.DOOR_OPEN_BACKOFF
    if back = 0 then d else d.goLeaf { target := d.goalOf (max 0 (p - back)), toEnd := decide (p ≤ back) }
  else if ¬ d.door.copies.permit then (d.manualCurrent 0).obstructed
  else if d.par P.DOOR_REVERSE_MODE = 1 then d.goLeaf { target := d.goalOf (d.par P.PLAN_OPEN_END), toEnd := true }
  else
    let target := min d.openEnd (p + d.par P.DOOR_REVERSE_DISTANCE)
    d.goLeaf { target := d.goalOf target, toEnd := decide (target = d.openEnd) }

/-- A reversal or back-off has ended: Holding, or Obstructed at the limit (R152, R157). -/
def Dev.reversalEnds (d : Dev) : Dev :=
  let back := d.door.backingOff
  let n := if back then d.door.openingCount else d.door.closingCount
  if d.parN P.DOOR_RECLOSE_LIMIT ≤ n then d.obstructed
  else
    let d := d.modDoor fun q => { q with origin := if back then 3 else 2 }
    let d := d.setDoor 5
    (d.modDoor fun q => { q with holdEnd := some (d.now + ms (d.parN P.DOOR_RECLOSE_DELAY)) }).doorProgress 5

/-- Holding with origin 1 is entered, or takes that origin and the new timer; DOOR_HOLD replies DONE (R162). -/
def Dev.enterHold (time : Nat) (d : Dev) : Dev :=
  let d := (d.modDoor fun q => { q with origin := 1 }).setDoor 5
  (d.modDoor fun q => { q with holdEnd := if time = 0 then none else some (d.now + ms time) }).doneDoor

/-- The open end is reached: Open, or Holding where a DOOR_HOLD opened the leaves (R151, R162). -/
def Dev.openReached (d : Dev) : Dev :=
  match d.door.order.filter fun o => o.opcode = 0x23 with
  | some o => d.enterHold o.value
  | none => ((d.setDoor 4).modDoor fun q => { q with closingCount := 0, openingCount := 0 }).doneDoor

/-! ### Emergency-released (R176) -/

/-- The leaves in Emergency-released: free at standstill of the vehicle, else in winding short. -/
def Dev.freeLeaves (d : Dev) : Dev :=
  let d := d.modDoor fun q => { q with assist := false, assistStill := none, nearest := d.sext.counter }
  let d := d.modPilot fun p => { p with leafMode := {}, gatesOff := decide (d.door.copies.view = 0), short := decide (d.door.copies.view ≠ 0) }
  d.modLeaf fun l => { l with phases := [], move := none, next := none, gearing := false, stopping := false, mode := 0, leaderWait := none, sp := { l.sp with v := 0, a := 0 } }

/-- Emergency-released is entered: 1 egress, 2 access. -/
def Dev.emergency (cause : Nat) (quiet abort : Bool) (d : Dev) : Dev :=
  let d := d.modDoor fun q => { q with emerg := cause, landfall := if abort then q.landfall else .none }
  let d := d.setDoorAs quiet 11
  let d := if abort then d.abortAll 6 else d
  let view := d.door.copies.view
  let d := if view ≠ 0 then d.raise 36 3 cause (u8 view) else d
  (d.endInjection 0x14 6).freeLeaves

/-- The assist ends: gates off, and hand movement is counted anew. -/
def Dev.endAssist (d : Dev) : Dev := d.freeLeaves

/-! ### Landfall (R163 to R169) -/

/-- The force that the leaves are held with, in mN: the motor model of R237 at the measured q current. DEDUCED: R164 does not say which current (log entry 56). -/
def Dev.holdForce (d : Dev) : Int := roundDiv (-(d.par P.PILOT_FORCE_CONST * qMilli d.pilot.iq)) 1000

/-- Entry begins (R164). -/
def Dev.beginLandfall (slot : Nat) (d : Dev) : Dev := (d.modDoor fun q => { q with landfall := .entering slot d.now }).progress slot 1

/-- Withdrawal begins, by a cause of R541; the announcement of an entry in progress gets an answer. -/
def Dev.withdrawWith (answer : Nat → Dev → Dev) (cause : Nat) (d : Dev) : Dev :=
  match d.door.landfall with
  | .withdrawing _ => d
  | p =>
    let d := d.raise 35 1 0xFF (u8 cause)
    let d := match p.slot with
      | some s => answer s d
      | none => d
    let d := d.recWithdrawal cause
    let d := if cause = 1 ∨ cause = 2 then d else d.trigger 6 35
    let d := d.modDoor fun q => { q with landfall := .withdrawing cause, withdrawFlag := some cause, unlockBy := none }
    let d := d.setLock false
    if d.inClosedWindow then (d.modDoor fun q => { q with lockBy := some (d.now + ms (d.parN P.DOOR_LOCK_TIME)) }).doorProgress 3
    else ((d.modDoor fun q => { q with lockBy := none }).doorProgress 4).moveLeaf { target := 0, toEnd := true }

/-- Withdrawal by a cause: an order of the host supersedes the announcement, any other cause aborts it. -/
def Dev.withdraw (cause : Nat) (d : Dev) : Dev :=
  d.withdrawWith (fun s d => if cause = 1 ∨ cause = 2 ∨ cause = 7 then d.reply s 0x11 []
    else d.abort (some s) (if cause = 3 then 6 else if cause = 5 then 3 else 2)) cause

/-- The hold force of step 2 of R164 is within 10 %, else Faulted, cause 7. -/
def Dev.forceCheck (d : Dev) : Bool × Dev :=
  let want := d.par P.DOOR_LANDFALL_FORCE
  if 10 * (d.holdForce - want).natAbs ≤ want.natAbs then (true, d) else (false, d.doorFault 7)

/-- Steps 2 and 3 of an entry: at 20 ms the force, at 21 ms the lock channel. -/
def Dev.landfallEntry (d : Dev) : Dev := match d.door.landfall with
  | .entering slot start =>
    if d.now - start < ms 21 then d
    else
      let (ok, d) := d.forceCheck
      if ¬ ok then d
      else
        let d := d.modDoor fun q => { q with landfall := .unlocking slot, unlockBy := some (d.now + ms (d.parN P.DOOR_UNLOCK_TIME)) }
        (d.progress slot 3).setLock true
  | _ => d

/-! ### Locking (R154, R171, R173) -/

/-- Locked, or Isolated where the doorway closes to be isolated. -/
def Dev.enterLocked (d : Dev) : Dev :=
  let iso := d.door.isolating
  let d := d.modDoor fun q => { q with landfall := .none }
  (d.setDoor (if iso then 10 else 0)).doneDoor

/-- The lock pair is made with the leaves closed: Locked if the step allows (R171, R173). -/
def Dev.tryLock (d : Dev) : Dev :=
  let step := d.door.step
  let d := d.modDoor fun q => { q with lockBy := none }
  if step = 0 ∨ step = 5 then d.enterLocked
  else if step = 4 then (if d.step.slimRet.level then d.enterLocked else d.doorFault 8)
  else d

/-- The lock pair is made: a closing doorway locks; a withdrawal passes through Closed (R154, R167). -/
def Dev.lockPairMade (d : Dev) : Dev :=
  if ¬ d.door.copies.lockMade then d
  else if d.door.landfall.leaving ∧ d.door.lockBy.isSome then
    let d := if d.door.state = 9 ∨ d.door.state = 0 then (d.setDoor 1).modDoor fun q => { q with lockBy := some d.now } else d
    d.tryLock
  else if d.door.state = 1 ∧ d.door.pulseEnd.isNone then d.tryLock
  else d

/-- The lock's time has passed without the lock pair made (R154, R167). -/
def Dev.lockTimeout (d : Dev) : Dev := match d.door.lockBy with
  | none => d
  | some t =>
    if d.now < t ∨ d.door.copies.lockMade then d
    else if d.door.state = 1 ∧ ¬ d.door.landfall.leaving ∧ d.par P.DOOR_LOCK_RETRY = 1 ∧ ¬ d.door.lockRetried then
      (d.modDoor fun q => { q with lockRetried := true, lockBy := none, pulseEnd := some (d.now + ms 200) }).setLock true
    else d.doorFault 2

/-- The retry pulse ends, and the lock has its time again. -/
def Dev.retryPulseEnd (d : Dev) : Dev := match d.door.pulseEnd with
  | some t =>
    if d.now < t then d
    else (d.modDoor fun q => { q with pulseEnd := none, lockBy := some (d.now + ms (d.parN P.DOOR_LOCK_TIME)) }).setLock false
  | none => d

/-- A deployment runs or waits, so leaves that wait for the step wait on (R170). DESIGN CHOICE (log entry 57): where no deployment is under way (DOOR_STEP_DEPLOY_AT 0, a step that is Not fitted or Step-faulted), DOOR_STEP_OPEN_WAIT 1 has nothing to wait for and the leaves open at once. -/
def Dev.stepComing (d : Dev) : Bool := d.door.step = 1 || (d.door.stepWaiting && d.door.waitDeploy) || d.door.deployAfterHome

/-- The lock pair has opened after an unlock: Released, Opening or Landfall (R149, R164). -/
def Dev.lockPairOpened (d : Dev) : Dev :=
  if d.door.unlockBy.isNone ∨ d.door.copies.lockMade then d
  else
    match d.door.landfall with
    | .unlocking slot =>
      let d := d.modDoor fun q => { q with landfall := .held d.now }
      ((d.setDoor 9).done slot (u8 0))
    | _ =>
      let wait := d.door.openAfterStep
      let open' : Bool := match d.door.order with | some o => decide (o.opcode = 0x21) | none => false
      let d := d.setDoor 2
      let d := if d.par P.DOOR_STEP_DEPLOY_AT = 1 then d.beginDeploy.2 else d
      if ¬ open' then d.doneDoor
      else if wait ∧ d.stepComing then (d.modDoor fun q => { q with openAfterStep := true }).doorProgress 6
      else d.beginOpening

/-- The lock pair has not opened in time: Faulted, cause 1, or the entry of Landfall withdraws (R149, R164). -/
def Dev.unlockTimeout (d : Dev) : Dev := match d.door.unlockBy with
  | none => d
  | some t =>
    if d.now < t ∨ ¬ d.door.copies.lockMade then d
    else match d.door.landfall with
      | .unlocking _ => d.withdraw 8
      | _ => (d.setLock false).doorFault 1

/-! ### Classification (R181) -/

/-- The doorway and step states by the first matching row. `start` at start-up, where the state is taken and not changed to. DESIGN CHOICE (log entry 58): row 3 gives Locked with the step Step-faulted as well, also where SLIM_RET is not asserted; cause 8 of R173 is left to the next locking. -/
def Dev.classifyDoor (start : Bool) (d : Dev) : Dev :=
  let c := d.copiesNow
  let d := d.modDoor fun q => { q with copies := c, seen := c, isolating := false, isolationPending := false }
  let fitted := d.par P.SYS_STEP_FITTED = 1
  let step := if ¬ fitted then 5 else if d.step.slimRet.level then 0 else 4
  let d := if start then d.modDoor fun q => { q with step := step } else d.setStep step
  let d := if step = 4 then (d.modStep fun s => { s with unverified := true }) else d
  let enter (n : Nat) (d : Dev) : Dev := d.setDoorAs start n
  if c.egress ∨ c.access then d.emergency (if c.egress then 1 else 2) start false
  else if c.isolation ∨ d.nv.wasIsolated then enter 10 d
  else if c.refsw ∧ d.closedPairs then
    if c.lockMade then enter 0 d.setDatum
    else (enter 1 d).modDoor fun q => { q with lockBy := some (d.now + ms (d.parN P.DOOR_LOCK_TIME)) }
  else
    let d := (d.modDoor fun q => { q with fault := 5 })
    ((enter 13 d).onset 33 2 0xFF (u8 5)).trigger 5 33

end Sys2Proof.Machine
end

