-- ==== Sys2Proof/Machine/DoorOrders.lean ====
section
/-! DEFINITION. The doorway orders, their guards and their start; the order of handling of a profile update; the timers of the sequencer and the step (chapters 05 and 06). -/

namespace Sys2Proof.Machine

/-! ### Guards (R148, R150, R158, R163, R169, R171 to R180) -/

/-- A STATE refusal with its guard. -/
def guard (n : Nat) : Option (Nat × List Byte) := some (0x0F, u8 n)

/-- Orders refused for want of VDRV: those that move the leaves or the step in the present state (R68). DEDUCED: R68 lists none. -/
def Dev.needsVdrv (op : Nat) (d : Dev) : Bool :=
  let s := d.door.state
  op = 0x21 || (op = 0x22 && s ≠ 2) || (op = 0x23 && s = 6) || (op = 0x24 && 2 < s) || (op = 0x2C && s = 8 && !d.atOpenEnd) || op = 0x28
    || (op = 0x29 && d.door.step ≠ 0)

/-- The condition of the Faulted cause still holds (R180). A bridge latch that a bridge check may clear does not count here (R324). -/
def Dev.faultPresent (d : Dev) : Bool :=
  let c := d.door.fault
  if c = 4 then d.pilot.feedbackLost
  else if c = 6 then d.door.copies.inhibit
  else if c = 7 then d.pilot.forceFault || (d.drive.leaf.latched && decide (3 < d.drive.leaf.trips))
  else if c = 8 then d.door.step ≠ 0 && d.door.step ≠ 5 && !d.step.slimRet.level
  else false

/-- The refusal of a doorway order in the present state: status and reply data. -/
def Dev.doorGuard (op : Nat) (d : Dev) : Option (Nat × List Byte) :=
  let q := d.door
  let s := q.state
  let c := q.copies
  let lf := q.landfall
  let no : Option (Nat × List Byte) := guard 1
  let permit : Option (Nat × List Byte) := if c.permit then none else guard 2
  let vdrv : Option (Nat × List Byte) := if d.needsVdrv op ∧ ¬ d.supply.vdrv then some (0x17, []) else none
  if s = 11 ∧ (c.egress ∨ c.access) then guard 5
  else if op = 0x20 then
    if lf.leaving then guard 6 else if s = 0 ∨ s = 9 then permit else no
  else if op = 0x21 then
    if s = 8 then guard 7 else if lf.leaving then guard 6
    else if s = 0 ∨ s = 2 ∨ s = 5 ∨ s = 6 ∨ s = 9 ∨ s = 11 then permit.or vdrv else no
  else if op = 0x22 then
    if s = 8 then guard 7
    else if (2 ≤ s ∧ s ≤ 6) ∨ s = 9 ∨ s = 11 ∨ (s = 0 ∧ lf.busy) ∨ (s = 13 ∧ q.fault = 5) then vdrv else no
  else if op = 0x23 then
    if s = 4 ∨ s = 5 then none else if s = 6 then permit.or vdrv else no
  else if op = 0x24 then (if s = 10 ∨ s = 11 ∨ s = 12 ∨ s = 13 then no else vdrv)
  else if op = 0x25 then (if s ≠ 10 then no else if c.isolation then guard 4 else none)
  else if op = 0x26 then
    if s ≠ 0 ∧ s ≠ 9 then no
    else if d.par P.DOOR_LANDFALL_ENABLE ≠ 1 then guard 9
    else if ¬ d.timeValid then some (0x16, [])
    else if 2 ≤ d.supply.reef then some (0x18, [])
    else if ¬ d.supply.vdrv then some (0x17, [])
    else if q.step ≠ 0 ∧ q.step ≠ 5 then guard 8
    else if lf.leaving then guard 6 else none
  else if op = 0x27 then (if s = 9 ∨ (s = 0 ∧ lf ≠ .none) then none else no)
  else if op = 0x28 then
    if q.step = 5 ∨ ¬ (s = 2 ∨ s = 4 ∨ (s = 5 ∧ q.origin = 1)) then no
    else if q.step = 4 then guard 8 else if d.findAway then no else vdrv
  else if op = 0x29 then
    if q.step = 5 ∨ s = 9 ∨ s = 10 ∨ s = 11 ∨ s = 12 then no
    else if q.step = 4 ∧ ((d.drive.stepA.latched ∧ 3 < d.drive.stepA.trips) ∨ (d.drive.stepB.latched ∧ 3 < d.drive.stepB.trips)) then guard 8
    else vdrv
  else if op = 0x2A then
    if ¬ (s = 0 ∨ s = 4 ∨ s = 8 ∨ s = 10 ∨ s = 13) then no
    else if d.inMotion then some (0x0E, []) else if c.view ≠ 0 then guard 3 else none
  else if op = 0x2B then (if s ≠ 12 then no else if d.inMotion then some (0x0E, []) else none)
  else if op = 0x2C then
    if s = 8 then (if ¬ c.permit ∧ ¬ d.atOpenEnd then guard 2 else vdrv)
    else if s = 13 then (if d.faultPresent then guard 10 else none) else no
  else none

/-- What is checked of the body of a doorway order at acceptance. -/
def Dev.doorBody (op value : Nat) (d : Dev) : Option (Nat × List Byte) :=
  if op = 0x21 ∨ op = 0x22 then
    if value ≠ 0 ∧ ¬ d.timeValid then some (0x16, [])
    else if d.chron.time + ms (d.parN P.DOOR_START_MAX_AHEAD) < value then some (0x08, u8 0) else none
  else if op = 0x23 ∧ 600000 < value then some (0x08, u8 0)
  else none

/-- A doorway order is accepted: it waits for the next profile update (R146, row 5), with progress 1. -/
def Dev.acceptDoor (op value slot : Nat) (d : Dev) : Dev :=
  let o : DoorOrder := { opcode := op, slot := some slot, start := if op = 0x21 ∨ op = 0x22 then value else 0, value := value }
  (d.progress slot 1).modDoor fun q => { q with inbox := q.inbox ++ [o] }

/-! ### The start of an order -/

/-- The lock is withdrawn for an order (R149). -/
def Dev.unlock (d : Dev) : Dev :=
  let d := d.modDoor fun q => { q with unlockBy := some (d.now + ms (d.parN P.DOOR_UNLOCK_TIME)) }
  (d.doorProgress 3).setLock true

/-- A doorway order takes the place of the one in flight. Isolation ends with the DOOR_ISOLATE that called for it, unless the isolation pair asks for it too (R174). -/
def Dev.takeOrder (o : DoorOrder) (d : Dev) : Dev :=
  d.supersedeDoor.modDoor fun q => { q with order := some o, isolating := q.isolating && (decide (o.opcode = 0x24) || q.copies.isolation) }

/-- DOOR_OPEN takes effect. -/
def Dev.startOpen (d : Dev) : Dev :=
  let s := d.door.state
  let at' := d.par P.DOOR_STEP_DEPLOY_AT
  let wait := d.par P.DOOR_STEP_OPEN_WAIT = 1
  if s = 0 then
    let d := d.endLandfall fun sl d => d.replyTo sl 0x11 []
    let d := if at' ≠ 0 then d.beginDeploy.2 else d
    (d.modDoor fun q => { q with openAfterStep := wait && d.stepComing }).unlock
  else if s = 2 then
    let d := if at' = 2 then d.beginDeploy.2 else d
    if wait ∧ d.stepComing then (d.modDoor fun q => { q with openAfterStep := true }).doorProgress 6 else d.beginOpening
  else if s = 9 then
    let d := (d.modDoor fun q => { q with landfall := .none }).setDoor 2
    let d := if at' ≠ 0 then d.beginDeploy.2 else d
    d.beginOpening
  else
    let d := if s = 11 then d.freeDrive.autoNow 0 else d
    d.beginOpening

/-- DOOR_CLOSE, or the closing of DOOR_ISOLATE and the isolation pair, takes effect. -/
def Dev.startClose (cause ahead : Nat) (d : Dev) : Dev :=
  let s := d.door.state
  if s = 0 then (if d.door.landfall.busy then d.withdraw cause else if d.door.isolating then ((d.endLandfall fun sl d => d.replyTo sl 0x11 []).setDoor 10).doneDoor else d.doneDoor)
  else if s = 9 then d.withdraw cause
  else if s = 1 then d
  else if s = 2 then d.enterClosed
  else
    let d := if s = 8 ∨ s = 11 ∨ s = 13 then d.freeDrive.autoNow 0 else d
    let d := d.beginClosing ahead
    if s = 13 then d.modDoor fun q => { q with seeking := true } else d

/-- LANDFALL_ANNOUNCE takes effect (R163). -/
def Dev.startAnnounce (slot side : Nat) (d : Dev) : Dev :=
  if side ≠ 2 ∧ (side : Int) ≠ d.par P.DOOR_SIDE then d.done slot (u8 1)
  else if d.door.state = 9 then d.done slot (u8 0)
  else
    let d := match d.door.landfall with
      | .entering old _ => (d.reply old 0x11 [])
      | .unlocking old => (d.reply old 0x11 [])
      | .armed old _ => (d.reply old 0x11 [])
      | _ => d
    match d.door.landfall with
    | .entering _ t => d.modDoor fun q => { q with landfall := .entering slot t }
    | .unlocking _ => d.modDoor fun q => { q with landfall := .unlocking slot }
    | _ => d.modDoor fun q => { q with landfall := .armed slot (d.now + sec (d.parN P.DOOR_LANDFALL_ARM_TIME)) }

/-- DOOR_FAULT_CLEAR in Faulted once nothing stands: the doorway is classified (R180, R181). -/
def Dev.clearFaulted (slot : Option Nat) (d : Dev) : Dev := (((d.freeDrive.autoNow 0).classifyDoor false)).replyTo slot 0 []

/-- A job of an order begins; it ends by ORDER_COMPLETED. -/
def Dev.addJob (slot : Nat) (j : Job) (d : Dev) : Dev := { d with host := { d.host with jobs := d.host.jobs ++ [{ slot := slot, job := j }] } }

/-- DOOR_FAULT_CLEAR takes effect (R158, R180, R324). -/
def Dev.startClear (slot : Option Nat) (d : Dev) : Dev :=
  if d.door.state = 8 then
    let d := (d.modDoor fun q => { q with closingCount := 0, openingCount := 0 }).freeDrive.autoNow 0
    let d := if d.atOpenEnd then d.setDoor 4 else (d.setDoor 3).openLeaves
    d.replyTo slot 0 []
  else match slot with
    -- The bridge check runs only at standstill and with VDRV present.
    | some s =>
      if ¬ d.drive.leaf.latched then d.clearFaulted slot
      else if d.axisMoving 0 ∨ ¬ d.supply.vdrv then d.reply s 0x0F (u8 10)
      else d.addJob s (.bridgeCheck false)
    | none => d.clearFaulted slot

/-- A step order takes effect (R171, R173). It takes the place of the one in flight or waiting; progress 6 comes with the movement (R185). -/
def Dev.startStep (o : DoorOrder) (d : Dev) : Dev := match o.slot with
  | none => d
  | some slot =>
    let d := (d.endStepOrder fun s d => d.reply s 0x11 []).modDoor fun q => { q with stepWaiting := false, deployAfterHome := false }
    if (o.opcode = 0x28 ∧ d.door.step = 2) ∨ (o.opcode = 0x29 ∧ d.door.step = 0) then d.done slot []
    else
      let d := d.modDoor fun q => { q with stepOrder := some (o.opcode, slot) }
      let going := (o.opcode = 0x28 ∧ d.door.step = 1) ∨ (o.opcode = 0x29 ∧ d.door.step = 3)
      if going then (d.modDoor fun q => { q with stepSince := some d.now }).stepProgress
      else if o.opcode = 0x28 then d.deployLater
      else if d.door.step = 4 ∧ (d.drive.stepA.latched ∨ d.drive.stepB.latched) then d.addJob slot (.bridgeCheck true)
      else d.beginRetract

/-- Maintenance is left: manual modes and injections end, and the doorway is classified (R178, R265). -/
def Dev.leaveMaintenance (slot : Option Nat) (d : Dev) : Dev :=
  -- The event of the change is the first that the classification raises (R116).
  let seq := d.nv.eventSeq
  ((d.classifyDoor false).reporting seq fun d => ((d.endInjection 0x14 6).autoNow 0).autoNow 1).replyTo slot 0 []

/-- A DOOR_OPEN or DOOR_HOLD accepted in Closing meets an obstruction handled before it: the leaves open under it (R146). -/
def Dev.opensInstead (o : DoorOrder) (d : Dev) : Bool :=
  (o.opcode = 0x21 || o.opcode = 0x23) && d.door.state = 7 && !d.door.backingOff

/-- The guard at the start of an accepted order. -/
def Dev.startGuard (o : DoorOrder) (d : Dev) : Option (Nat × List Byte) :=
  if d.opensInstead o then (if ¬ d.door.copies.permit then guard 2 else if ¬ d.supply.vdrv then some (0x17, []) else none) else d.doorGuard o.opcode

/-- A doorway order starts. One whose state has gone since its acceptance ends ABORTED, reason 6, or 4 for want of the permit. -/
def Dev.startDoor (o : DoorOrder) (d : Dev) : Dev :=
  match d.startGuard o with
  | some (_, data) => if o.opcode = 0x2C ∧ d.door.state = 13 then d.replyTo o.slot 0x0F (u8 10) else d.abort o.slot (if data = u8 2 then 4 else 6)
  | none =>
    let op := o.opcode
    if op = 0x20 then
      let d := d.takeOrder o
      if d.door.state = 9 then
        let d := (d.modDoor fun q => { q with landfall := .none }).setDoor 2
        (if d.par P.DOOR_STEP_DEPLOY_AT = 1 then d.beginDeploy.2 else d).doneDoor
      else (d.endLandfall fun s d => d.replyTo s 0x11 []).unlock
    else if op = 0x21 then (d.takeOrder o).startOpen
    else if op = 0x22 then
      let d := d.takeOrder o
      let d := if d.door.state = 11 then d.modDoor fun q => { q with isolating := q.isolationPending, isolationPending := false } else d
      d.startClose 2 (o.start - d.chron.time)
    else if op = 0x23 then
      let d := d.takeOrder o
      if d.door.state = 6 ∨ d.door.state = 7 then d.beginOpening else d.enterHold o.value
    else if op = 0x24 then ((d.takeOrder o).modDoor fun q => { q with isolating := true }).startClose 7 0
    else if op = 0x25 then (({ d with nv := { d.nv with wasIsolated := false } } : Dev).classifyDoor false).replyTo o.slot 0 []
    else if op = 0x26 then (match o.slot with
      | some s => d.startAnnounce s o.value
      | none => d)
    else if op = 0x27 then
      match d.door.landfall with
      | .armed _ _ => ((d.endLandfall fun s d => d.replyTo s 0x11 [])).replyTo o.slot 0 []
      | _ => (d.takeOrder o).withdraw 1
    else if op = 0x28 ∨ op = 0x29 then d.startStep o
    else if op = 0x2A then
      let d := if d.pilot.feedbackLost then d else d.freeDrive.autoNow 0
      (((d.setDoor 12).abortDoor 6).endLandfall fun s d => d.abort s 6).replyTo o.slot 0 []
    else if op = 0x2B then d.leaveMaintenance o.slot
    else d.startClear o.slot

/-- A DOOR_CLOSE in the present state begins with the warning of R153: not in Locked, Released and Landfall, where no leaf is to close, nor in a Closing whose leaves move. -/
def Dev.warnsFirst (d : Dev) : Bool :=
  [3, 4, 5, 11, 13].contains d.door.state || (d.door.state = 6 && (d.door.warnEnd.isSome || d.door.stopping))

/-- Chronometer time at which a waiting order begins: a close begins with its warning (R150, R153). -/
def Dev.beginTime (o : DoorOrder) (d : Dev) : Nat :=
  if o.opcode = 0x22 ∧ d.warnsFirst then o.start - ms (d.parN P.DOOR_CLOSE_WARN_TIME) else o.start

/-- A doorway order is handled (R146, row 5): it starts, or it waits for its start time. -/
def Dev.handleOrder (o : DoorOrder) (d : Dev) : Dev :=
  if o.opcode = 0x28 ∨ o.opcode = 0x29 then d.startDoor o
  else
    let d := d.endWait fun s d => d.replyTo s 0x11 []
    if d.chron.time < d.beginTime o then
      let d := if d.door.state = 5 then d.supersedeDoor.modDoor fun q => { q with holdEnd := none } else d
      let d := match o.slot with | some s => d.progress s 1 | none => d
      d.modDoor fun q => { q with waitOrder := some o }
    else d.startDoor o

/-- A write of the pair and jury group is on its way to the smart-power die. It is class GS and was accepted before any motion order that waits now, so those wait until it is in force (R18, R427). -/
def Dev.juryComing (d : Dev) : Bool := d.host.jobs.any fun j => match j.job with
  | .juryWrite _ _ => true
  | _ => false

/-- A waiting order whose start time is reached starts (R150, R524). -/
def Dev.startTime (d : Dev) : Dev := match d.door.waitOrder with
  | some o =>
    if d.chron.time < d.beginTime o then d
    else if d.juryComing then d.modDoor fun q => { q with waitOrder := none, inbox := q.inbox ++ [o] }
    else (d.modDoor fun q => { q with waitOrder := none }).startDoor o
  | none => d

/-- Every accepted order that waits for this update. -/
def Dev.handleInbox (d : Dev) : Dev :=
  let all := d.door.inbox
  if d.juryComing then d else all.foldl (fun d o => d.handleOrder o) (d.modDoor fun q => { q with inbox := [] })

/-! ### Rows 1 to 4 of R146 -/

/-- The isolation pair becomes made (R174). -/
def Dev.isolationMade (d : Dev) : Dev :=
  let s := d.door.state
  if s = 10 ∨ d.door.isolating then d
  else if s = 11 ∨ s = 12 ∨ s = 13 then d.modDoor fun q => { q with isolationPending := true }
  else
    let d := (d.abortDoor 6).endWait fun sl d => d.abort sl 6
    let d := if d.door.landfall.busy then d else d.endLandfall fun sl d => d.abort sl 6
    let d := d.modDoor fun q => { q with isolating := true }
    if s = 9 ∨ d.door.landfall.busy then d.withdrawWith (fun sl d => d.abort (some sl) 6) 7 else d.startClose 7 0

/-- Row 1: Binnacle's copies, compared with the update before. -/
def Dev.rowCopies (d : Dev) : Dev :=
  let c := d.door.copies
  let s := d.door.seen
  let d := d.modDoor fun q => { q with seen := c }
  let d := if c.inhibit ∧ ¬ s.inhibit then d.doorFault 6 else d
  let egress := c.egress && !s.egress
  let handle := egress || (c.access && !s.access)
  let d := if handle ∧ d.door.state = 11 then d.abortAll 6
    else if handle ∧ d.door.state ≠ 12 then d.emergency (if egress then 1 else 2) false true else d
  let d := if c.isolation ∧ ¬ s.isolation then d.isolationMade else d
  let d := if c.isolation then d else d.modDoor fun q => { q with isolationPending := false }
  let d := if d.door.state = 11 ∧ c.view ≠ s.view then d.freeLeaves else d
  let d := if d.door.state = 12 ∧ s.view = 0 ∧ c.view ≠ 0 then d.haltAxes.abortAxes 6 else d
  if d.door.landfall.busy ∧ c.view ≠ 0 then d.withdraw 3 else d

/-- Row 2: the reef stage (R91, R167, R182). -/
def Dev.rowReef (d : Dev) : Dev :=
  let r := d.supply.reef
  let d := if 2 ≤ r ∧ d.door.landfall.busy then d.withdraw 5 else d
  let moves := d.door.state = 3 ∨ d.door.state = 6 ∨ d.door.state = 7
  let d := if 3 ≤ r then
      let d := if moves ∧ ¬ d.door.suspended then (d.modDoor fun q => { q with suspended := true, resumeAt := none }) else d
      let d := if d.leaf.rests then d else d.stopLeaf
      (d.modDoor fun q => { q with resumeAt := none }).reporting d.supply.reefSeq (Dev.abortAxes 3)
    else if d.door.suspended ∧ d.door.resumeAt.isNone then
      d.modDoor fun q => { q with resumeAt := some (d.now + ms (d.parN P.DOOR_REEF_RESUME_DELAY)) }
    else d
  let stepMoves := (d.door.step = 1 ∧ 2 ≤ r) ∨ (d.door.step = 3 ∧ 3 ≤ r)
  let running := !d.step.phases.isEmpty && !d.step.stopping && decide (d.step.mode ≠ 4)
  let d := if stepMoves ∧ running then d.rampStep false else d
  if stepMoves ∧ ¬ d.door.stepWaiting then d.modDoor fun q => { q with stepWaiting := true, waitDeploy := decide (q.step = 1), stepSince := none }
  else if r < 2 ∧ d.door.stepWaiting then
    let d := d.modDoor fun q => { q with stepWaiting := false, stepSince := if q.step = 1 ∨ q.step = 3 then some d.now else none }
    if d.door.waitDeploy ∧ d.door.step ≠ 1 then d.deployLater
    else if ¬ d.door.waitDeploy ∧ d.door.step ≠ 3 then d.beginRetract
    else d.stepProgress
  else d

/-- Row 3: faults of feedback, drive and axes (R179, R246, R248, R323). -/
def Dev.rowFaults (d : Dev) : Dev :=
  let p := d.pilot
  let d := if d.door.state = 0 ∧ ¬ d.inClosedWindow then d.doorFault 9 else d
  let power := d.drive.leaf.latched || p.forceFault || (!d.supply.vdrv && (d.axisMoving 0 || !d.leaf.rests))
  let d := if power then d.doorFault 7 else d
  -- The stop of a leaf that has lost its feedback while moving away from the datum (R248, R251).
  let d := if p.shortAfterStop ∧ ¬ d.leaf.stopping ∧ ¬ d.leaf.rests then d.stopLeaf else d
  let lost := p.feedbackLost && decide (p.leafMode.mode = 0) && decide (p.dr ≠ 1) && d.leaf.rests
  let d := if lost then d.doorFault 4 else d
  if (d.drive.stepA.latched ∨ d.drive.stepB.latched) ∧ d.door.step ≠ 4 ∧ d.door.step ≠ 5 then
    (d.modStep fun s => { s with unverified := true, stalled := true }).stepFault 4
  else d

/-- A demand on the step (R172, R392); with linked axes the leaf stops too (R211), and an injection ends (R265). -/
def Dev.stepDemand (d : Dev) : Dev :=
  let d := d.reporting d.obst.step.seq (Dev.endInjection 0x14 1)
  if d.door.step = 1 then
    let d := (d.stopAxis 1).modStep fun s => { s with findStops := s.findStops + 1 }
    let d := d.modDoor fun q => { q with stepSince := none }
    if d.parN P.DOOR_RECLOSE_LIMIT ≤ d.step.findStops then
      let d := d.raise 48 1 0xFF (u8 d.step.findStops)
      let d := d.endStepOrder fun s d => d.abort (some s) 1
      let wait := d.door.openAfterStep
      let d := (d.modDoor fun q => { q with stepSince := some d.now, openAfterStep := false }).setStep 3
      let d := d.modStep fun s => { s with find := 0 }
      if wait ∧ d.door.state = 2 then d.beginOpening else d
    else d
  else if d.door.step = 3 then
    let d := ((d.stopAxis 1).modDoor fun q => { q with closingCount := min 255 (q.closingCount + 1), stepSince := some d.now }).setStep 1
    let d := d.modStep fun s => { s with find := 0, home := 0, stalled := false }
    if d.parN P.DOOR_RECLOSE_LIMIT ≤ d.door.closingCount then d.modDoor fun q => { q with obstructAtRest := true }
    else d.modDoor fun q => { q with stepAgain := some (d.now + ms (d.parN P.DOOR_RECLOSE_DELAY)) }
  else d

/-- A demand on the leaf, by the doorway state (R152, R155, R157, R251, R375). -/
def Dev.leafDemand (d : Dev) : Dev :=
  let d := d.reporting d.obst.leaf.seq (Dev.endInjection 0x14 1)
  let s := d.door.state
  if s = 3 then d.openingObstruction
  else if s = 6 then d.closingObstruction
  else if s = 7 then (d.stopAxis 0).modDoor fun q => { q with stopping := false }
  else if s = 11 then (if d.door.assist then d.endAssist else d)
  else
    let d := if d.door.landfall.leaving then d.modDoor fun q => { q with closingCount := min 255 (q.closingCount + 1) } else d
    (d.stopAxis 0).reporting d.obst.leaf.seq (Dev.abortAxes 1)

/-- Row 4: the demands raised at the update before (R391). -/
def Dev.rowDemands (d : Dev) : Dev :=
  let leaf := d.obst.leaf.due
  let step := d.obst.step.due
  let d := d.modObst fun o => { o with leaf := { o.leaf with due := false }, step := { o.step with due := false } }
  let d := if leaf then d.leafDemand else d
  if step then d.stepDemand else d

/-! ### What follows in an update without a row of its own -/

/-- The end of a closing, and the times of its disagreements (R154). -/
def Dev.judgeClosing (d : Dev) : Dev :=
  if d.door.state ≠ 6 ∨ d.door.warnEnd.isSome ∨ d.door.suspended ∨ d.door.zeroAtRest then d
  else if d.door.seeking then d
  else
    let window := d.inClosedWindow
    let pairs := d.closedPairs
    if window ∧ pairs then d.enterClosed
    else
      let since (on : Bool) (t : Option Nat) : Option Nat := if on then (match t with | some x => some x | none => some d.now) else none
      d.modDoor fun q => { q with waitPairs := since window q.waitPairs, waitWindow := since pairs q.waitWindow }

/-- DOOR_CLOSED_WAIT has passed with position and closed pairs in disagreement (R154). -/
def Dev.closedWait (d : Dev) : Dev :=
  let due (t : Option Nat) : Bool := match t with
    | some x => decide (ms (d.parN P.DOOR_CLOSED_WAIT) ≤ d.now - x)
    | none => false
  if d.door.state ≠ 6 then d
  else if due d.door.waitPairs then (d.modDoor fun q => { q with waitPairs := none }).closingObstruction
  else if due d.door.waitWindow then d.doorFault 3
  else d

/-- Landfall at an update: an armed announcement begins at standstill, entry goes on, slip withdraws, a withdrawal that had to close gets its lock time (R163 to R167). -/
def Dev.judgeLandfall (d : Dev) : Dev :=
  let d := match d.door.landfall with
    | .armed slot _ => if d.door.copies.view = 0 ∧ d.door.state = 0 ∧ d.door.unlockBy.isNone then d.beginLandfall slot else d
    | _ => d
  let d := d.landfallEntry
  let d := if d.door.landfall.busy ∧ d.par P.DOOR_LANDFALL_SLIP < d.leafPos.natAbs then d.withdraw 6 else d
  if d.door.landfall.leaving ∧ d.door.lockBy.isNone ∧ (d.door.state = 9 ∨ d.door.state = 0) ∧ d.leaf.rests ∧ d.leaf.next.isNone then
    if d.inClosedWindow then (d.modDoor fun q => { q with lockBy := some (d.now + ms (d.parN P.DOOR_LOCK_TIME)) }).doorProgress 3
    else if d.parN P.DOOR_RECLOSE_LIMIT ≤ d.door.closingCount then (d.modDoor fun q => { q with landfall := .none }).obstructed
    else d.moveLeaf { target := 0, toEnd := true }
  else d

/-- The leaves free in Emergency-released (R176). -/
def Dev.judgeFree (d : Dev) : Dev :=
  if d.door.state ≠ 11 then d
  else
    let slow := decide ((d.leafSpeed.natAbs : Int) ≤ d.par P.PLAN_STANDSTILL_SPEED)
    d.modDoor fun q => { q with
      nearest := if d.pilot.gatesOff then min q.nearest d.sext.counter else q.nearest
      assistStill := if q.assist && slow then (match q.assistStill with | some t => some t | none => some d.now) else none }

/-- An opening that waits for a stop or a transfer to end starts only with the permit (R145, R150): without it the order ends ABORTED, reason 4, and the leaves stand where they come to rest. DESIGN CHOICE (log entry 59): the doorway keeps its state. -/
def Dev.permitNext (d : Dev) : Dev := match d.leaf.next with
  | some mv =>
    if d.door.state ≠ 12 ∧ ¬ d.door.copies.permit ∧ d.leaf.leaderWait.isNone ∧ d.leaf.phases.isEmpty ∧ d.leaf.sp.p < mv.target then
      (d.modLeaf fun l => { l with next := none }).abortDoor 4
    else d
  | none => d

/-- A closing that seeks the datum ends without it: Faulted, cause 5 (R180, R224). `was` says that the leaf homed before. -/
def Dev.seekOver (was : Bool) (d : Dev) : Dev :=
  if was ∧ d.leaf.mode ≠ 5 ∧ d.door.seeking ∧ d.door.state = 6 ∧ ¬ d.door.suspended ∧ ¬ d.door.zeroAtRest then d.doorFault 5 else d

/-- What the sequencer does of itself at an update. -/
def Dev.doorFollow (d : Dev) : Dev :=
  let d := d.judgeLandfall.judgeFree
  let d := match d.door.warnEnd with
    | some t => if d.door.state = 6 ∧ t ≤ d.now ∧ ¬ d.door.suspended then (d.modDoor fun q => { q with warnEnd := none }).closeLeaves else d
    | none => d
  let d := if d.door.state = 7 ∧ d.door.stopping ∧ d.leaf.rests ∧ ¬ d.door.suspended then d.beginReversal else d
  let d := if d.door.zeroAtRest ∧ d.leaf.rests then (d.manualCurrent 0).obstructed else d
  let d := if d.door.obstructAtRest ∧ d.leaf.rests then d.obstructed else d
  let d := d.judgeClosing
  let d := if d.door.state = 1 ∧ d.door.copies.lockMade ∧ d.door.lockBy.isNone ∧ d.door.pulseEnd.isNone then d.tryLock else d
  let d := if d.door.state = 5 ∧ d.door.origin ≠ 1 ∧ d.door.holdEnd.isSome ∧ d.contactPassed then
      d.modDoor fun q => { q with holdEnd := some (d.now + ms (d.parN P.DOOR_RECLOSE_DELAY)) } else d
  (if (d.port 2).state = 3 then d.clearing 47 0xFF (u8 3) else d).permitNext

/-- The step may not go on of itself: it waits for its reef stage (R91), it has stalled (R218), or the doorway is Faulted and no step order runs. -/
def Dev.stepHeld (d : Dev) : Bool :=
  d.step.stalled || (d.door.state = 13 && d.door.stepOrder.isNone)
    || (if d.door.step = 3 then decide (3 ≤ d.supply.reef) || (d.door.stepWaiting && !d.door.waitDeploy)
      else decide (2 ≤ d.supply.reef) || d.door.stepWaiting)

/-- The step's own course at an update: platform find, the return to Deployed, the retraction (R172, R216, R219). DESIGN CHOICE (log entry 60): with PLAN_STEP_FIND_START above PLAN_STEP_EXT_MAX the set-point never reaches the start of find step 2; the step stands at PLAN_STEP_EXT_MAX in find step 1 until R173 ends the deployment after 3 s. -/
def Dev.stepSequence (d : Dev) : Dev :=
  let s := d.step
  let rests := s.phases.isEmpty && decide (s.sp.v = 0)
  let held := d.stepHeld
  let deployed (d : Dev) : Dev :=
    let wait := d.door.openAfterStep && decide (d.door.state = 2)
    let d := (d.modStep fun s => { s with find := 0 }).setStep 2
    if wait then (d.modDoor fun q => { q with openAfterStep := false }).beginOpening else d
  let d := if d.door.step = 1 ∧ d.platformSeen then d.platformContact else d
  let s := d.step
  if d.door.step = 1 then
    if s.find = 1 ∧ d.par P.PLAN_STEP_FIND_START * planQ ≤ s.sp.p ∧ ¬ held then
      (d.modStep fun s => { s with find := 2 }).goStep (d.par P.PLAN_STEP_EXT_MAX) (d.parN P.PLAN_STEP_FIND_SPEED)
    else if ¬ rests ∨ held then d
    else if s.find = 2 ∧ s.arrived then deployed ((d.recFlag 7).raise 45 1 0xFF (i32 (satI 32 (wholeOf s.sp.p))))
    else if s.find = 3 then
      (d.modStep fun s => { s with find := 4 }).goStep (wholeOf s.sp.p - d.par P.PLAN_STEP_FIND_BACKOFF) (d.parN P.PLAN_STEP_FIND_SPEED)
    else if s.find = 4 then (if s.arrived then deployed d else d.goStep s.target (d.parN P.PLAN_STEP_FIND_SPEED))
    else if s.find = 0 then
      (if s.arrived ∧ s.target = s.deployedAt then deployed d else d.goStep s.deployedAt (d.parN P.PLAN_STEP_SPEED))
    else if d.door.stepSince.isSome then
      d.goStep (d.par P.PLAN_STEP_EXT_MAX) (d.parN (if s.find = 1 then P.PLAN_STEP_SPEED else P.PLAN_STEP_FIND_SPEED))
    else d
  else if d.door.step = 3 ∧ s.home = 0 ∧ rests ∧ ¬ held then
    if s.arrived ∧ s.target = 0 then (if s.slimRet.level then d.setStep 0 else d)
    else d.retractStep
  else d

/-- An AXIS_STOP takes effect: running AXIS_MOVE and AXIS_HOME of the named axes, and of linked axes both, are superseded, and the axes stop (R191, R211, R226). -/
def Dev.axisStop (axis : Nat) (d : Dev) : Dev :=
  let named (a : Nat) : Bool := axis = 2 || axis = a || d.leaf.linked
  let d := d.endAxisOrders (fun o => (o.1 = 0x30 || o.1 = 0x31) && named o.2.2) fun s d => d.reply s 0x11 []
  let d := if named 1 then d.modStep fun s => { s with home := 0 } else d
  d.stopAxis axis

/-- Row 1 of R191 beside the sequencer's own demands: AXIS_STOP, and the trips of the step's limit switches (R215). -/
def Dev.axisStops (d : Dev) : Dev :=
  let stops := d.leaf.inbox.filter fun o => o.1 = 0x32
  let d := d.modLeaf fun l => { l with inbox := l.inbox.filter fun o => o.1 ≠ 0x32 }
  let d := stops.foldl (fun d o => (d.axisStop o.2.2.1).progress o.2.1 3) d
  if d.step.tripped then
    let linked := d.leaf.linked
    let d := ((d.modStep fun s => { s with tripped := false }).stopAxis 1).stepFault 2
    if linked then d.endAxisOrders (fun o => o.1 = 0x30 || o.1 = 0x31) fun s d => d.abort (some s) 2 else d
  else d

/-- An AXIS_HOME or AXIS_MOVE that is still in flight starts. The approach of R198 belongs to a move that ends at the open end or at the datum. -/
def Dev.axisStart (o : Nat × Nat × Nat × Int) (d : Dev) : Dev :=
  let (op, slot, axis, um) := o
  if ¬ d.leaf.orders.any (fun e => e.2.1 = slot) then d
  else if op = 0x30 then (if axis = 0 then d.homeLeaf.progress slot 1 else d.homeStepAxis)
  else if axis = 0 then (d.goLeaf { target := d.goalOf um, toEnd := decide (um = d.openEnd) || decide (um = 0) }).progress slot 2
  else (d.goStep um (d.parN P.PLAN_STEP_SPEED)).progress slot 2

/-- Row 4 of R191: axis orders start. One of the step waits while Reef 2 holds the step, one of the leaf while Reef 3 holds the leaf (R91, R182). -/
def Dev.axisStarts (d : Dev) : Dev :=
  let waits (o : Nat × Nat × Nat × Int) : Bool := d.juryComing || decide ((if o.2.2.1 = 0 then 3 else 2) ≤ d.supply.reef)
  let all := d.leaf.inbox
  let d := d.modLeaf fun l => { l with inbox := l.inbox.filter waits }
  (all.filter fun o => !waits o).foldl (fun d o => d.axisStart o) d

/-- AXIS_STOP ends with every named axis at standstill (R226). -/
def Dev.judgeAxisStops (d : Dev) : Dev :=
  let still (axis : Nat) : Bool :=
    (axis = 1 || (!d.axisMoving 0 && d.leaf.rests)) && (axis = 0 || d.step.phases.isEmpty)
  d.endAxisOrders (fun o => o.1 = 0x32 && still o.2.2) fun s d => d.done s []

/-- AXIS_LINK orders take effect at the profile update behind them (R211, R226): entry, and the link in the place of the axis. -/
def Dev.takeLinks (d : Dev) : Dev :=
  let hit := d.leaf.orders.filter fun o => o.1 = 0x33
  let linked := hit.foldl (fun _ o => decide (o.2.2 = 1)) d.leaf.linked
  (d.modLeaf fun l => { l with linked := linked }).endAxisOrders (fun o => o.1 = 0x33) fun s d => d.done s []

/-- Writes of the microstep table take effect at the profile update (R214): entry k, and its negative half a cycle on. -/
def Dev.takeStepTable (d : Dev) : Dev :=
  let hit := d.pilot.tableWrites.filter fun w => w.1 = 8
  let d := d.modPilot fun p => { p with tableWrites := p.tableWrites.filter fun w => w.1 ≠ 8 }
  let put (t : List (Nat × Int)) (k : Nat) (v : Int) : List (Nat × Int) := sset (factoryStep k) k v t
  hit.foldl (fun d w =>
    let (_, _, off, vs, slot) := w
    let t := (numbered vs).foldl (fun t kv => put (put t (off + kv.1) kv.2) ((off + kv.1 + 512) % 1024) (-kv.2)) d.step.table
    (d.modStep fun s => { s with table := t }).done slot []) d

/-- Counts of the Log's samples per update. -/
def Dev.logUpdate (d : Dev) : Dev :=
  { d with log := { d.log with updates := d.log.updates + 1, capture := d.log.capture.map fun c => { c with updates := c.updates + 1 } } }

/-- A profile update, with every tenth current sample (R146, R191, R231). A leader's telegram goes out at once when its leaf motion begins or ends (R535). `take` puts the parameter writes in force that wait for this boundary. -/
def Dev.profileUpdate (take : Dev → Dev) (d : Dev) : Dev :=
  if ¬ d.live ∨ ¬ d.onGrid 10 then d
  else
    let motion := d.leafMotion
    let d := d.modSext fun s => { s with hallOut := if d.par P.SYS_DRIVE_ROLE = 2 then none else some s.code }
    let d : Dev := { d with log := { d.log with demandNow := false } }
    let d := if d.ready then d.rowCopies.rowReef.rowFaults.rowDemands.axisStops else d
    let d := take d.takeLinks.reefFallback.enterDr.leaveGearing
    let d := d.takeStepTable
    let d := if d.ready then d.handleInbox.doorFollow.axisStarts else d
    let d := d.followLeader.evalLeaf.evalStep.judgeStill
    let homing := decide (d.leaf.mode = 5)
    let d := d.judgeHoming.seekOver homing
    let d := if d.ready then d.stepSequence.judgeAxisStops.arbitrate else d
    let d := if d.ready ∧ d.leafMotion ≠ motion then d.sendKind 5 else d
    d.recUpdate.logUpdate

/-! ### Timers with rows of their own -/

/-- The Holding timer ends (R160, R161). -/
def Dev.holdingEnd (d : Dev) : Dev := match d.door.holdEnd with
  | none => d
  | some t =>
    if d.door.state ≠ 5 ∨ d.now < t then d
    else
      let d := d.modDoor fun q => { q with holdEnd := none }
      if d.door.origin = 1 then d.setDoor 4
      else if d.door.origin = 2 then d.beginClosing 0
      else d.beginOpening

/-- A reversal or back-off has come to its end (R152, R157). -/
def Dev.reversalOver (back : Bool) (d : Dev) : Dev :=
  if d.door.state = 7 ∧ d.door.backingOff = back ∧ ¬ d.door.stopping ∧ d.leaf.rests ∧ d.leaf.next.isNone ∧ ¬ d.door.suspended then d.reversalEnds else d

/-- The position has been at the target for 10 ms (R195): orders and Opening end. -/
def Dev.atTargetNow (axis : Nat) (d : Dev) : Dev :=
  if axis = 0 then
    match d.leaf.inPosSince with
    | none => d
    | some t =>
      if d.now - t < ms 10 ∨ d.leaf.atTarget then d
      else
        let d := (d.learnEnd true).modLeaf fun l => { l with atTarget := true }
        let d := d.endAxisOrders (fun o => o.1 = 0x31 && o.2.2 = 0) fun s d => d.done s []
        if d.door.state = 3 ∧ d.leaf.opening then d.openReached else d
  else match d.step.inPosSince with
    | none => d
    | some t =>
      if d.now - t < ms 10 ∨ d.step.atTarget then d
      else (d.modStep fun s => { s with atTarget := true }).endAxisOrders (fun o => o.1 = 0x31 && o.2.2 = 1) fun s d => d.done s []

/-- DOOR_REEF_RESUME_DELAY has passed in Reef 2 or below: the motion resumes, a closing with its warning (R182). An opening motion resumes only with the permit (R145): without it an opening ends ABORTED, reason 4, with the leaves where they stand, and a reversal ends as R156 says. DESIGN CHOICE (log entry 59): R145 gives no outcome for a resume. -/
def Dev.reefResume (d : Dev) : Dev := match d.door.resumeAt with
  | none => d
  | some t =>
    if ¬ d.door.suspended ∨ d.now < t ∨ 3 ≤ d.supply.reef then d
    else
      let d := d.modDoor fun q => { q with suspended := false, resumeAt := none }
      let s := d.door.state
      if s = 3 then (if d.door.copies.permit then d.openLeaves else d.abortDoor 4)
      else if s = 6 then
        ((d.modDoor fun q => { q with warnEnd := some (d.now + ms (d.parN P.DOOR_CLOSE_WARN_TIME)) }).doorProgress 2).startFlash
      else if s = 7 ∧ ¬ d.door.stopping then
        if ¬ d.door.backingOff ∧ ¬ d.door.copies.permit then (d.manualCurrent 0).obstructed
        else d.goLeaf { target := d.leaf.target, toEnd := decide (d.leaf.target = d.goalOf d.openEnd) || decide (d.leaf.target = 0) }
      else d

/-- DOOR_LANDFALL_ARM_TIME passes: DONE, result 2 (R163). -/
def Dev.armExpiry (d : Dev) : Dev := match d.door.landfall with
  | .armed slot t => if d.now < t then d else (d.modDoor fun q => { q with landfall := .none }).done slot (u8 2)
  | _ => d

/-- DOOR_LANDFALL_MAX passes in Landfall (R167). -/
def Dev.landfallMax (d : Dev) : Dev := match d.door.landfall with
  | .held t => if d.now - t < sec (d.parN P.DOOR_LANDFALL_MAX) then d else d.withdraw 4
  | _ => d

/-- 20 ms into an entry the force is checked (R164). -/
def Dev.landfallCheck (d : Dev) : Dev := match d.door.landfall with
  | .entering _ t => if d.now - t < ms 20 then d else d.forceCheck.2
  | _ => d

/-- Leaves moved 10,000 µm by hand start the assist, with the opening permit (R145, R176). -/
def Dev.assistStart (d : Dev) : Dev :=
  let ma := d.par P.DOOR_EGRESS_ASSIST
  if d.door.state = 11 ∧ d.door.copies.view = 0 ∧ d.door.copies.permit ∧ ma ≠ 0 ∧ ¬ d.door.assist ∧ d.pilot.gatesOff
      ∧ 10000 ≤ d.umOfSub (d.sext.counter - d.door.nearest) then
    let d := d.modDoor fun q => { q with assist := true, assistStill := none }
    let d := d.modPilot fun p => { p with gatesOff := false }
    (d.modPilot fun p => { p with leafMode := { mode := 1 } }).manualCurrent ma
  else d

/-- The assist ends at the open end, or after 500 ms without movement. -/
def Dev.assistEnd (d : Dev) : Dev :=
  let still : Bool := match d.door.assistStill with
    | some t => decide (ms 500 ≤ d.now - t)
    | none => false
  if d.door.state = 11 ∧ d.door.assist ∧ (still ∨ d.atOpenEnd) then d.endAssist else d

/-- 3 s have passed without the step's end state (R173). -/
def Dev.stepTimeout (d : Dev) : Dev := match d.door.stepSince with
  | some t => if (d.door.step = 1 ∨ d.door.step = 3) ∧ sec 3 ≤ d.now - t then d.stepFault 3 else d
  | none => d

/-- DOOR_RECLOSE_DELAY without an obstacle: platform find goes on (R392). -/
def Dev.findContinue (d : Dev) : Dev :=
  let clear := ms (d.parN P.DOOR_RECLOSE_DELAY) ≤ d.now - d.obst.stepClearSince
  if d.door.step = 1 ∧ d.door.stepSince.isNone ∧ d.step.phases.isEmpty ∧ ¬ d.stepObstacle ∧ clear ∧ ¬ d.door.stepWaiting ∧ d.step.find ≠ 0 then
    d.modDoor fun q => { q with stepSince := some d.now }
  else d

/-- DOOR_RECLOSE_DELAY after the return to Deployed without a contact: the step retracts again (R172). -/
def Dev.retractAgain (d : Dev) : Dev := match d.door.stepAgain with
  | none => d
  | some t =>
    if d.now < t ∨ d.door.step ≠ 2 ∨ d.stepObstacle ∨ d.now - d.obst.stepClearSince < ms (d.parN P.DOOR_RECLOSE_DELAY) then d else d.beginRetract

/-- In Locked the lock pair opens without an order (R179, cause 10). -/
def Dev.lockOpenedLocked (d : Dev) : Dev :=
  if d.door.state = 0 ∧ ¬ d.door.copies.lockMade ∧ d.door.unlockBy.isNone ∧ ¬ d.door.landfall.leaving then d.doorFault 10 else d

/-- The flash changes every 500 ms (R153). -/
def Dev.warningFlash (d : Dev) : Dev :=
  if ¬ d.door.flashing ∨ d.now < d.door.flashNext then d
  else (d.modDoor fun q => { q with flashOn := !q.flashOn, flashNext := q.flashNext + ms 500 }).refreshLoads

/-- Dead reckoning ends by the first cause of R250; the hold, and Faulted with cause 4, follow. A stop request counts from its stop on. -/
def Dev.drEnd (d : Dev) : Dev :=
  if d.pilot.dr ≠ 1 ∨ d.pilot.drEnding then d
  else
    let over' := decide (d.umOfSub (d.pilot.pObs / 16777216) ≤ -20000)
    let time := decide (sec (d.parN P.PILOT_DR_MAX_TIME) ≤ d.now - d.pilot.drStart)
    let cause := if d.pilot.endStop then 1 else if over' then 2 else if time then 3 else if d.leaf.stopping ∨ d.pilot.short then 4 else 0
    if cause = 0 then d
    else
      let d := d.raise 66 2 0xFF (u8 cause ++ i32 (satI 32 (d.umOfSub (d.pilot.pObs / 16777216))))
      let halt (d : Dev) : Dev := d.modLeaf fun l => { l with
        phases := [], move := none, next := none, mode := 0, stopping := false, sp := { l.sp with v := 0, a := 0 } }
      let d := d.doorFault 4
      -- The hold of R250. A stop request has its ramp first; winding short follows it (R251).
      if cause = 4 then d.modPilot fun p => if d.leaf.rests then { p with dr := 2, short := true } else { p with drEnding := true }
      else
        let d := halt (d.modPilot fun p => { p with dr := 2, short := decide (cause ≠ 1), shortAfterStop := false })
        if cause = 1 then d.manualCurrent (-(d.par P.PLAN_LEAF_HOLD_CURRENT)) else d

/-- The leader's telegram has not agreed within CHRON_LEADER_WAIT (R38, R545). -/
def Dev.leaderWaitOver (d : Dev) : Dev := match d.leaf.leaderWait, d.leaf.next with
  | some t, some mv =>
    if d.now < t then d
    else
      let d := (d.onset 43 2 0xFF (u8 3)).modLeaf fun l => { l with leaderWait := none, next := none, leaderLost := true }
      if d.leaf.sp.p ≤ mv.target then d.abortDoor 2
      else if d.leaf.rests then d.startMove { mv with cap := d.creep }
      else d.modLeaf fun l => { l with next := some { mv with cap := d.creep } }
  | _, _ => d

/-- DOOR_HOST_SILENT_ACTION: an order to close made inside the device (R183). -/
def Dev.silentClose (d : Dev) : Dev :=
  if d.par P.DOOR_HOST_SILENT_ACTION = 1 ∧ (d.door.state = 2 ∨ d.door.state = 4 ∨ d.door.state = 5) then
    d.modDoor fun q => { q with inbox := q.inbox ++ [{ opcode := 0x22, slot := none }] }
  else d

/-! ### Step switches and homing (R215, R221 to R223) -/

/-- The switch that homing looks for: 0 SHOME or 1 SLIM_RET. -/
def Dev.homingSwitch (d : Dev) : Nat := if d.par P.PLAN_HOME_SWITCH = 0 then 0 else 1

/-- A filtered transition of SHOME (0), SLIM_RET (1) or SLIM_EXT (2). -/
def Dev.stepSwitch (sw : Nat) (level : Bool) (d : Dev) : Dev :=
  let f : SwitchFilter := { level := level, since := d.now, pos := d.step.sp.p, stable := false }
  let old := if sw = 0 then d.step.shome.level else if sw = 1 then d.step.slimRet.level else d.step.slimExt.level
  if 2 < sw ∨ old = level ∨ d.par P.SYS_STEP_FITTED = 0 then d
  else
    let d := d.modStep fun s => if sw = 0 then { s with shome := f } else if sw = 1 then { s with slimRet := f } else { s with slimExt := f }
    if d.step.home ≠ 0 then
      if sw = d.homingSwitch then
        let edges := (d.step.homeEdges.filter fun t => d.now - t ≤ ms 20) ++ [d.now]
        let d := d.modStep fun s => { s with homeEdges := edges }
        if 4 < edges.length then (d.rampStep false).stepHomed 1 else d
      else
        let trips := level && (sw = 2 || (sw = 1 && decide (d.step.home ≤ 2) && !d.step.accepted))
        if trips then (d.rampStep true).stepHomed 3 else d
    else
      let far := decide ((d.par P.PLAN_STEP_RET_ZONE + 1000) * planQ < d.step.sp.p)
      if level ∧ (sw = 2 ∨ (sw = 1 ∧ far)) then d.modStep fun s => { s with tripped := true } else d

/-- A switch has stayed asserted for PLAN_HOME_STABLE: 0 SHOME, 1 SLIM_RET, 2 SLIM_EXT, 3 REFSW. Homing takes it (R222 to R224). -/
def Dev.stableNow (sw : Nat) (d : Dev) : Dev :=
  let f := if sw = 0 then d.step.shome else if sw = 1 then d.step.slimRet else if sw = 2 then d.step.slimExt else d.step.refsw
  if 3 < sw ∨ ¬ f.level ∨ f.stable ∨ d.now - f.since < ms (d.parN P.PLAN_HOME_STABLE) then d
  else
    let mark (f : SwitchFilter) : SwitchFilter := { f with stable := true }
    let d := d.modStep fun s =>
      if sw = 0 then { s with shome := mark s.shome } else if sw = 1 then { s with slimRet := mark s.slimRet }
      else if sw = 2 then { s with slimExt := mark s.slimExt } else { s with refsw := mark s.refsw }
    if sw = 3 then
      let used := d.indexFails = 0
      let d := d.indexEdge f.pos
      if used ∧ d.sext.ref = 1 ∧ d.leaf.mode = 5 then
        let d := (d.homeAccepted.modDoor fun q => { q with seeking := false }).modLeaf fun l => { l with homeResult := 0 }
        if d.door.state = 6 then d else d.homeEnds 0 0
      else d
    else if sw = d.homingSwitch ∧ d.step.home = 2 then
      (d.modStep fun s => { s with accepted := true, homeEdge := f.pos })
    else if sw = d.homingSwitch ∧ d.step.home = 4 then d.modStep fun s => { s with accepted := true, homeEdge := f.pos }
    else d

/-- The end conditions and failures of the homing steps of R223. -/
def Dev.homingStep (d : Dev) : Dev :=
  let s := d.step
  let f := d.homeSwitch
  let travel := (s.sp.p - s.homeStart).natAbs
  let far := decide ((d.par P.PLAN_HOME_MAX_TRAVEL * planQ) < travel)
  let back := d.par P.PLAN_HOME_BACKOFF * planQ
  let rests := s.phases.isEmpty && decide (s.sp.v = 0)
  let released := !f.level && decide (ms (d.parN P.PLAN_HOME_STABLE) ≤ d.now - f.since)
  if s.home = 1 then
    if released ∧ back ≤ s.sp.p - f.pos then (if rests then d.homeStep 2 else if s.mode = 4 then d else d.rampStep false)
    else if far then (d.rampStep false).stepHomed 2 else d
  else if s.home = 2 then
    if s.accepted then (if rests then d.homeStep 3 else if s.mode = 4 then d else d.rampStep false)
    else if far then (d.rampStep false).stepHomed 2 else d
  else if s.home = 3 then
    if ¬ rests then d else if released then (d.modStep fun s => { s with accepted := false }).homeStep 4
    else if f.level then d.stepHomed 1 else d
  else if s.home = 4 then
    if s.accepted then
      if ¬ rests then (if s.mode = 4 then d else d.rampStep false)
      else
        let off := d.par P.PLAN_HOME_OFFSET * planQ
        let m : Motion := { p := s.sp.p - s.homeEdge + off }
        (d.modStep fun s => { s with sp := m, base := m, count := d.countOf m.p, countPrev := d.countOf m.p }).homeStep 5
    else if 2 * back < travel then (d.rampStep false).stepHomed 2 else d
  else if s.home = 5 then (if rests then d.homeStep 6 else d)
  else if s.home = 6 then
    if s.slimRet.level then d.stepHomed 0 else if ms 100 ≤ d.now - s.homeWait then d.stepHomed 5 else d
  else d

/-- The 1 ms tick of the load-adaptive current, with what a stall brings (R217, R218, R223). -/
def Dev.stepTick (angle : Nat) (d : Dev) : Dev :=
  let was := d.step.stalled
  let d := d.stepAdapt angle
  if was ∨ ¬ d.step.stalled then d
  else if d.step.home ≠ 0 then d.stepHomed 4
  else if d.door.step = 3 then d.modObst fun o => { o with stepStall := true }
  else d

/-! ### DOOR_STATE (R186) -/

/-- The reply data of DOOR_STATE. -/
def Dev.doorState (d : Dev) : List Byte :=
  let q := d.door
  let c := q.copies
  let armed : Bool := match q.landfall with
    | .armed _ _ => true
    | _ => false
  u8 q.state ++ u8 q.step ++ u8 q.cause ++ u8 q.closingCount ++ u8 q.openingCount
    ++ u8 (bitsOf [c.lockMade, c.closedA, c.closedB, c.egress, c.access, c.isolation] + 64 * c.view)
    ++ u8 (bitsOf [c.permit, c.inhibit, q.suspended, armed, q.landfall.leaving, decide (d.sext.ref = 1)])
    ++ i32 (satI 32 d.leafPos) ++ i32 (satI 32 d.stepPos) ++ u64 q.changed ++ u8 q.prev ++ leBytes 3 0

end Sys2Proof.Machine
end

