-- ==== Sys2Proof/Machine/ParamOps.lean ====
section
/-! DEFINITION. Parameter access: reading, writing, staging, committing, the block boundaries, and the parameter image (R13 to R21, R121 to R128). -/

namespace Sys2Proof.Machine

/-! ### Values on the wire (R121, R126) -/

/-- The entry of an ID in a list of pairs. -/
def lookup {α : Type} (id : Nat) : List (Nat × α) → Option α
  | [] => none
  | (a, v) :: t => if a = id then some v else lookup id t

/-- The last entry of an ID: of a parameter named twice the later value stays. -/
def lookupLast {α : Type} (id : Nat) (t : List (Nat × α)) : Option α := lookup id t.reverse

/-- The writes of a job that the smart-power die has to take first (R427). -/
def Job.juryPairs : Job → List (Nat × Int)
  | .juryWrite ws _ => ws
  | _ => []

/-- The accepted writes and commits that are not yet in force, oldest first (R16). -/
def Dev.comingWrites (d : Dev) : List (Nat × Int) :=
  d.prm.waiting.flatMap (·.writes) ++ d.host.jobs.flatMap fun j => j.job.juryPairs

/-- The values in force now with some writes put on them. -/
def Dev.parOver (ws : List (Nat × Int)) (d : Dev) : Values := fun id => (lookupLast id ws).getD (d.par id)

/-- The values that would be in force after a commit (rule stated with R229): behind every write accepted before it, which takes effect no later. -/
def Dev.parWith (ws : List (Nat × Int)) (d : Dev) : Values := d.parOver (d.comingWrites ++ ws)

/-- One entry of a PARAM_READ reply. -/
def Dev.paramEntry (d : Dev) (id : Nat) : List Byte :=
  match paramDef? id with
  | some _ => u8 0 ++ i32 (d.par id)
  | none => u8 9 ++ u32 0

/-- The reply data of PARAM_INFO (R126). -/
def paramInfo (p : ParamDef) : List Byte :=
  u16 p.id ++ u8 (p.timing.code + 4 * bit p.sealed + 16 * p.typeCode) ++ i32 p.lo ++ i32 p.hi ++ i32 p.dflt ++ u8 p.unit ++ u16 p.group

/-- The reply data of PARAM_LIST (R614). -/
def paramList (block start : Nat) : List Byte :=
  let all := (blockParams block).map (·.id)
  let ids := (all.drop start).take 256
  u8 block ++ u16 start ++ u16 all.length ++ u16 ids.length ++ ids.flatMap u16

/-! ### Values that take effect (R15, R16, R19, R20) -/

/-- The boundary of a parameter's block (R16): 0 current sample, 1 profile update, 2 skin frame, 3 safety tick, 4 within 1 ms. -/
def boundaryOf (id : Nat) : Nat :=
  let b := id / 256
  if b = 4 ∨ b = 5 ∨ b = 6 then 0
  else if b = 2 ∨ b = 3 ∨ b = 8 then 1
  else if b = 7 then 2
  else if b = 10 then 3
  else 4

/-- A write changes a parameter that the seal covers (R20). -/
def Dev.breaksSeal (d : Dev) (w : Nat × Int) : Bool :=
  match paramDef? w.1 with
  | some p => p.sealed && decide (d.par w.1 ≠ w.2)
  | none => false

/-- Writes enter the working set, in their order. A changed C parameter takes a Sealed device out of the Sealed state at the next tick (R20, R473); SYS_VHV_NOMINAL is copied to the smart-power die as applied (R93). -/
def Dev.putWrites (ws : List (Nat × Int)) (d : Dev) : Bool × Dev :=
  let hit := if d.bin.isSealed ∧ d.bin.sealBroken = none then ws.find? d.breaksSeal else none
  let d := { d with prm := { d.prm with working := ws.foldl (fun t w => putParam w.1 w.2 t) d.prm.working } }
  let d := match lookupLast P.SYS_VHV_NOMINAL ws with
    | some v => { d with nv := { d.nv with nominal := some v.toNat } }
    | none => d
  match hit with
  | some w => (true, { d with bin := { d.bin with sealBroken := some w.1 } })
  | none => (false, d)

/-- A skin port whose link is switched off is disabled, with its orders and its standing fault; one whose link is switched on after start-up trains (R331, R344). -/
def Dev.dropPorts : List Nat → Dev → Dev
  | [], d => d
  | p :: ps, d =>
    dropPorts ps (
      if d.portLink p = 0 ∧ (d.port p).state ≠ 0 then
        let d := d.modPort p fun q => { q with state := 0, cause := 0, trainStart := none, retryAt := none, rebuild := none, contacts := [], lines := [], candidates := [] }
        let d := (d.endPortOrders p (fun _ => true) fun slot d => d.reply slot 0x11 []).loseRebuild p fun slot d => d.reply slot 0x11 []
        d.endStanding 98 p
      else if d.portLink p = 1 ∧ (d.port p).state = 0 ∧ d.ready then d.startTraining p
      else d)

/-- Whether the step axis is fitted decides the step state (R34, R141, R181). -/
def Dev.fitStep (d : Dev) : Dev :=
  if ¬ d.ready then d
  else if d.par P.SYS_STEP_FITTED ≠ 1 then d.setStep 5
  else if d.door.step = 5 then d.setStep (if d.step.slimRet.level then 0 else 4)
  else d

/-- What follows when groups or parameters of a block change: the reference (R294), the soft limits (R282), the bus timing (R520), the loads (R409), the ports, the step, and a master that is no longer one (R528). -/
def Dev.afterWrites (ws : List (Nat × Int)) (changed : List Nat) (d : Dev) : Dev :=
  let any (lo hi : Nat) : Bool := changed.any fun id => decide (lo ≤ id) && decide (id ≤ hi)
  let d := if any 0x0510 0x0514 then d.feedbackChanged else d
  let d := if any 0x0520 0x0522 then d.softChanged else d
  let d := if (lookup 0x0B00 ws).isSome then d.busReconfigure 0 else d
  let d := if (lookup 0x0B20 ws).isSome then d.busReconfigure 1 else d
  let d := if any 0x0900 0x0972 ∨ any 0x0121 0x0121 ∨ any 0x0200 0x0223 then d.refreshLoads else d
  let d := if any 0x0700 0x0713 then Dev.dropPorts [0, 1, 2] d else d
  let d := if any 0x0112 0x0112 then d.fitStep else d
  let d := if any P.LOG_TRACE_PERIOD P.LOG_TRACE_PRE then d.restartRolling else d
  if d.chron.state = 5 ∧ d.par P.CHRON_ROLE ≠ 2 then d.yieldMaster 1 else d

/-- Writes take effect. -/
def Dev.takeEffect (ws : List (Nat × Int)) (d : Dev) : Bool × Dev :=
  let changed := (ws.filter fun w => decide (d.par w.1 ≠ w.2)).map (·.1)
  let (broke, d) := d.putWrites ws
  (broke, d.afterWrites ws changed)

/-- The settings of the host channel group in the working set (R98). -/
def Dev.chanSettings (d : Dev) : HostChannel :=
  { channel := d.parN P.SYS_HOST_CHANNEL, format := d.parN P.SYS_HOST_CAN_FORMAT, idIn := d.parN P.SYS_HOST_CAN_ID_IN
    idOut := d.parN P.SYS_HOST_CAN_ID_OUT, segSize := d.parN P.SYS_HOST_SEG_SIZE }

/-- The reply data of PARAM_COMMIT (R614). -/
def commitReply (group code : Nat) (broke : Bool) : List Byte := u16 group ++ u16 code ++ u8 (bit broke)

/-- An accepted write or commit whose last write has taken effect is replied to; a commit's staged copies are cleared (R114, R123). -/
def Dev.finishWrite (w : PendingWrite) (d : Dev) : Dev :=
  match w.groups with
  | [] => d.done w.slot (u8 (bit w.broke))
  | g :: _ =>
    let d := { d with prm := { d.prm with staged := d.prm.staged.filter fun s => !w.groups.contains s.group } }
    let d := if w.groups.contains 0x0100 then { d with host := { d.host with chanSwitch := some (d.chanSettings, w.slot) } } else d
    d.done w.slot (commitReply g 0 w.broke)

/-- The planner group of the direction that moves. -/
def Dev.movingGroup (d : Dev) : Nat := if d.leaf.opening then 0x0310 else 0x0320

/-- Those writes of one accepted command that a condition picks take effect; a commit that R204 turns down keeps its staged copies. -/
def Dev.takeOne (picks : PendingWrite → Nat → Bool) (w : PendingWrite) (d : Dev) : Option PendingWrite × Dev :=
  let pick := picks w
  let hit := w.writes.filter fun x => pick x.1
  if hit.isEmpty then (some w, d)
  else if w.groups.contains d.movingGroup && d.infeasible (d.parOver hit) then
    (none, d.reply w.slot 0x10 (commitReply d.movingGroup 0 false))
  else
    let (broke, d) := d.takeEffect hit
    let w := { w with writes := w.writes.filter fun x => !pick x.1, broke := w.broke || broke }
    if w.writes.isEmpty then (none, d.finishWrite w) else (some w, d)

/-- The waiting writes, oldest first. -/
def Dev.takeList (pick : PendingWrite → Nat → Bool) : List PendingWrite → Dev → List PendingWrite × Dev
  | [], d => ([], d)
  | w :: ws, d =>
    let (k, d) := d.takeOne pick w
    let (ks, d) := takeList pick ws d
    (k.toList ++ ks, d)

/-- Waiting writes that a condition picks take effect in the order of acceptance (R18, R19). -/
def Dev.takeWhere (pick : PendingWrite → Nat → Bool) (d : Dev) : Dev :=
  let (rest, d) := Dev.takeList pick d.prm.waiting d
  { d with prm := { d.prm with waiting := rest } }

/-- The boundary of a block (R16). -/
def Dev.takeWrites (b : Nat) (d : Dev) : Dev := d.takeWhere fun _ id => boundaryOf id = b

/-- Some group of a commit is of class GS. -/
def standstillGroups (groups : List Nat) : Bool := groups.any fun g => match paramDef? g with
  | some p => p.timing = .groupedStandstill
  | none => false

/-- Commits with standstill groups accepted before a motion order are in force before the motion starts, whatever their block (R18), each whole, as all its groups take effect at one boundary (R123). -/
def Dev.takeHeld (d : Dev) : Dev := d.takeWhere fun w _ => standstillGroups w.groups

/-- The profile update's boundary: the planner, doorway and obstacle writes, and every held one before a motion (R16, R18). -/
def Dev.takeAtProfile (d : Dev) : Dev := (if d.motionOrder then d.takeHeld else d).takeWrites 1

/-! ### Writing (R15, R121) -/

/-- The check of one pair of PARAM_WRITE: its status, and the value. -/
def Dev.checkPair (d : Dev) (w : Nat × Nat) : Nat × Int :=
  match paramDef? w.1 with
  | none => (0x09, 0)
  | some p =>
    let v := p.ofWire w.2
    if p.timing = .grouped ∨ p.timing = .groupedStandstill then (0x0B, 0)
    else if ¬ p.inRange v then (0x08, 0)
    else if p.timing = .standstill ∧ d.inMotion then (0x0E, 0)
    else (0, v)

/-- The first pair that fails: index and status. -/
def Dev.checkPairs (d : Dev) : Nat → List (Nat × Nat) → Option (Nat × Nat)
  | _, [] => none
  | i, w :: ws => if (d.checkPair w).1 = 0 then checkPairs d (i + 1) ws else some (i, (d.checkPair w).1)

/-- A parameter of class S: its write takes effect at once (R15). -/
def atOnce (id : Nat) : Bool := match paramDef? id with
  | some p => p.timing = .standstill
  | none => false

/-- PARAM_WRITE accepted: class S takes effect at once, the rest at its boundaries. -/
def Dev.paramWrite (slot : Nat) (pairs : List (Nat × Nat)) (d : Dev) : Dev :=
  let ws := pairs.map fun w => (w.1, (d.checkPair w).2)
  let (k, d) := d.takeOne (fun _ id => atOnce id) { slot := slot, writes := ws }
  { d with prm := { d.prm with waiting := d.prm.waiting ++ k.toList } }

/-! ### Groups (R122 to R125) -/

/-- The name of a group: the lowest of its fields. -/
def isGroup (g : Nat) : Bool := match paramDef? g with
  | some p => decide (p.group = g)
  | none => false

/-- The index of the first value outside its Range. -/
def rangeFails : Nat → List ParamDef → List Nat → Option Nat
  | i, p :: ps, w :: ws => if p.inRange (p.ofWire w) then rangeFails (i + 1) ps ws else some i
  | _, _, _ => none

/-- The reply data of PARAM_GROUP_STAGE. -/
def stageReply (group index : Nat) : List Byte := u16 group ++ u8 index

/-- The refusal of a stage. -/
def Dev.stageGuard (group : Nat) (values : List Nat) (d : Dev) : Option (Nat × List Byte) :=
  let fields := groupFields group
  if (paramDef? group).isNone then some (0x09, stageReply group 0xFF)
  else if ¬ isGroup group ∨ values.length ≠ fields.length then some (0x01, stageReply group 0xFF)
  else match rangeFails 0 fields values with
    | some i => some (0x08, stageReply group i)
    | none =>
      if 16 ≤ d.prm.staged.length ∧ ¬ d.prm.staged.any (fun s => s.group = group) then some (0x06, stageReply group 0xFF) else none

/-- PARAM_GROUP_STAGE accepted. -/
def Dev.stage (group : Nat) (values : List Nat) (d : Dev) : Dev :=
  let vs := List.zipWith ParamDef.ofWire (groupFields group) values
  { d with prm := { d.prm with staged := d.prm.staged.filter (fun s => s.group ≠ group) ++ [{ group := group, values := vs }] } }

/-- The writes of a staged group. -/
def Dev.stagedWrites (g : Nat) (d : Dev) : List (Nat × Int) :=
  match d.prm.staged.find? fun s => s.group = g with
  | some s => ((groupFields g).map (·.id)).zip s.values
  | none => []

/-- The writes of the groups of a commit. -/
def Dev.commitWrites (groups : List Nat) (d : Dev) : List (Nat × Int) := groups.flatMap fun g => d.stagedWrites g

/-- The refusal of a commit: one block, staged, JURY (R427), motion, checks (R123). -/
def Dev.commitGuard (groups : List Nat) (d : Dev) : Option (Nat × List Byte) :=
  let g0 := groups.headD 0
  if groups.any fun g => g / 256 ≠ g0 / 256 then some (0x01, commitReply g0 0 false)
  else match groups.find? fun g => !d.prm.staged.any fun s => s.group = g with
    | some g => some (0x0C, commitReply g 0 false)
    | none =>
      if groups.contains P.LCH_PAIR_ENABLE ∧ d.load.jury then some (0x0F, commitReply P.LCH_PAIR_ENABLE 0 false)
      else if standstillGroups groups ∧ d.inMotion then some (0x0E, commitReply g0 0 false)
      else match firstFailure groups (d.parWith (d.commitWrites groups)) with
        | some (g, c) => some (0x0D, commitReply g c false)
        | none => none

/-- PARAM_COMMIT accepted: the groups wait for the boundary of their block; one that names the pair and jury group, for the smart-power die (R427). -/
def Dev.commit (slot : Nat) (groups : List Nat) (d : Dev) : Dev :=
  let ws := d.commitWrites groups
  if groups.contains P.LCH_PAIR_ENABLE then d.addJob slot (.juryWrite ws groups)
  else { d with prm := { d.prm with waiting := d.prm.waiting ++ [{ slot := slot, writes := ws, groups := groups }] } }

/-- The refusal of PARAM_GROUP_DISCARD (R125). -/
def discardGuard (groups : List Nat) : Option (Nat × List Byte) :=
  if groups = [0xFFFF] then none
  else match groups.find? fun g => !isGroup g with
    | some g => some (if (paramDef? g).isNone then 0x09 else 0x01, [])
    | none => none

/-- PARAM_GROUP_DISCARD accepted. -/
def Dev.discard (groups : List Nat) (d : Dev) : Dev :=
  let keep (s : Staged) : Bool := !(groups = [0xFFFF] || groups.contains s.group)
  { d with prm := { d.prm with staged := d.prm.staged.filter keep } }

/-! ### The pair and jury group (R427, R434) -/

/-- The writes of JURY_MASK_SET. -/
def juryWrites (pair mask map : Nat) : List (Nat × Int) :=
  [(P.LCH_PAIR_ENABLE, (pair : Int)), (P.LCH_JURY_MASK, (mask : Int)), (P.LCH_JURY_MAP, (map : Int))]

/-- The index of the first field of JURY_MASK_SET outside its Range. -/
def juryRange (pair mask map : Nat) : Option Nat := rangeFails 0 (groupFields P.LCH_PAIR_ENABLE) [pair, mask, map]

/-- The refusal of JURY_MASK_SET (R429). -/
def Dev.juryGuard (pair mask map : Nat) (d : Dev) : Option (Nat × List Byte) :=
  match juryRange pair mask map with
  | some i => some (0x08, u8 i)
  | none =>
    if d.load.jury then some (0x0F, [])
    else if d.inMotion then some (0x0E, [])
    else match firstFailure [P.LCH_PAIR_ENABLE] (d.parWith (juryWrites pair mask map)) with
      | some (g, c) => some (0x0D, u16 g ++ u16 c)
      | none => none

/-- The smart-power die has taken the pair and jury group and read it back; or the write failed and the previous copy stays (R427). -/
def Dev.juryWritten (slot : Nat) (ws : List (Nat × Int)) (groups : List Nat) (ok : Bool) (d : Dev) : Dev :=
  let n (id : Nat) : Nat := ((lookupLast id ws).getD 0).toNat
  if ¬ ok then d.reply slot 0x1E (match groups with | [] => [] | g :: _ => commitReply g 0 false)
  else
    let (broke, d) := d.takeEffect ws
    let d := { d with nv := { d.nv with jury := some (n P.LCH_PAIR_ENABLE, n P.LCH_JURY_MASK, n P.LCH_JURY_MAP) } }
    d.refreshLoads.finishWrite { slot := slot, writes := [], groups := groups, broke := broke }

/-! ### The parameter image (R127, R128) -/

/-- The values that start-up would load: the stored image, or the factory image where its CRC fails. -/
def Dev.storedValues (d : Dev) : List (Nat × Int) := d.nv.image.getD []

/-- The entries of an image. -/
def imageEntries (values : List (Nat × Int)) : List Byte := allParams.flatMap fun p => imageEntry p.id (sget p.dflt p.id values)

/-- The ASCII bytes "OGPI". -/
def imageMagic : List Byte := u8 0x4F ++ u8 0x47 ++ u8 0x50 ++ u8 0x49

/-- A whole parameter image. -/
def imageBytes (values : List (Nat × Int)) : List Byte :=
  let e := imageEntries values
  imageMagic ++ u16 1 ++ u16 allParams.length ++ u32 (crc32c e) ++ u32 0 ++ e

/-- The CRC-32C of the stored image. -/
def Dev.imageCrc (d : Dev) : Nat := crc32c (imageBytes d.storedValues)

/-- Bytes in the image staging buffer. -/
abbrev imageRoom : Nat := 12304

/-- Bytes put into the staging buffer. -/
def loadBuffer (off : Nat) : List Byte → List (Nat × Option Byte) → List (Nat × Option Byte)
  | [], t => t
  | b :: bs, t => loadBuffer (off + 1) bs (sset none off (some b) t)

/-- The first `n` bytes of the staging buffer, where all were loaded. -/
def bufferBytes (t : List (Nat × Option Byte)) : Nat → Nat → Option (List Byte)
  | _, 0 => some []
  | off, n + 1 =>
    match sget none off t, bufferBytes t (off + 1) n with
    | some b, some bs => some (b :: bs)
    | _, _ => none

/-- The entries of image bytes: ID and value on the wire. -/
def imagePairs : Nat → List Byte → List (Nat × Nat)
  | 0, _ => []
  | n + 1, bs => (fieldAt 0 2 bs, fieldAt 2 4 bs) :: imagePairs n (bs.drop 6)

/-- Index of the first entry out of order, repeated or naming no parameter. -/
def orderFails : Nat → Option Nat → List (Nat × Nat) → Option Nat
  | _, _, [] => none
  | i, last, (id, _) :: t =>
    let rising : Bool := match last with | some l => decide (l < id) | none => true
    if !rising || (paramDef? id).isNone then some i else orderFails (i + 1) (some id) t

/-- Index at which a parameter without an entry belongs. -/
def missingFails : Nat → List ParamDef → List (Nat × Nat) → Option Nat
  | _, [], _ => none
  | i, _ :: _, [] => some i
  | i, p :: ps, e :: es => if p.id = e.1 then missingFails (i + 1) ps es else some i

/-- The position of a parameter in an image. -/
def imageIndex (id : Nat) : Nat := (allParams.takeWhile fun p => decide (p.id < id)).length

/-- The check of entries: the values that differ from their defaults, or index and check code of the first failure. -/
def checkEntries (es : List (Nat × Nat)) : (Nat × Nat) ⊕ List (Nat × Int) :=
  match orderFails 0 none es with
  | some i => .inl (i, 0)
  | none => match missingFails 0 allParams es with
    | some i => .inl (i, 0)
    | none => match rangeFails 0 allParams (es.map (·.2)) with
      | some i => .inl (i, 0)
      | none =>
        let values := (List.zipWith (fun p e => (p.id, ParamDef.ofWire p e.2)) allParams es).foldl (fun t w => putParam w.1 w.2 t) []
        match firstFailure groupNames (fun id => sget (paramDefault id) id values) with
        | some (g, c) => .inl (imageIndex g, c)
        | none => .inr values

/-- The staged image checked against a CRC-32C (R127). -/
def Dev.checkImage (crc : Nat) (d : Dev) : (Nat × Nat) ⊕ List (Nat × Int) :=
  match bufferBytes d.prm.buffer 0 16 with
  | none => .inl (0xFFFF, 0)
  | some h =>
    let n := fieldAt 6 2 h
    if h.take 4 ≠ imageMagic ∨ fieldAt 4 2 h ≠ 1 ∨ 2048 < n ∨ fieldAt 12 4 h ≠ 0 then .inl (0xFFFF, 0)
    else match bufferBytes d.prm.buffer 16 (6 * n) with
      | none => .inl (0xFFFF, 0)
      | some e => if crc32c (h ++ e) ≠ crc ∨ crc32c e ≠ fieldAt 8 4 h then .inl (0xFFFF, 0) else checkEntries (imagePairs n e)

/-- PARAM_IMAGE_INSTALL accepted: a failed check is the reply, a good image goes to flash. -/
def Dev.installImage (slot crc : Nat) (d : Dev) : Dev :=
  match d.checkImage crc with
  | .inl (i, c) => d.reply slot 0x1F (u16 i ++ u16 c)
  | .inr values => d.addJob slot (.imageInstall values)

/-- PARAM_IMAGE_SAVE has written the working set and the tables saved with it. -/
def Dev.saveImage (d : Dev) : Dev :=
  { d with nv := { d.nv with
      image := some d.prm.working, fricRef := d.pilot.fricRef, steps := d.step.table, tableA := d.bus.a.table, tableB := d.bus.b.table } }

/-- PARAM_FACTORY has written the factory image; the friction tables become 0 (R254). -/
def Dev.factoryImage (d : Dev) : Dev :=
  let none2 : List (List (Nat × Int)) := [[], []]
  let d := { d with nv := { d.nv with image := some [], fricRef := none2, steps := [], tableA := {}, tableB := {}, learned := some (none2, none2) } }
  { d with pilot := { d.pilot with fric := none2, cog := none2, fricRef := none2 } }

end Sys2Proof.Machine
end

