-- ==== Sys2Proof/Machine/SupplyOps.lean ====
section
/-! DEFINITION. Supplies, adaptive voltage scaling, clocks, reset causes, start-up steps 1 to 13, Parked and Dormant, reefing and the die temperatures (chapter 03, R581). -/

namespace Sys2Proof.Machine

/-- A change of the supply block. -/
def Dev.modSupply (f : Supply → Supply) (d : Dev) : Dev := { d with supply := f d.supply }

/-! ### Reefing (R90 to R95) -/

/-- Nominal VHV in mV by SYS_VHV_NOMINAL (R96). -/
def nominalMv (code : Nat) : Nat := [24000, 36000, 48000, 72000, 96000, 110000].getD code 24000

/-- The threshold of a stage in mV: the larger of its fraction of the nominal and its floor (R90). -/
def reefThreshold (code stage : Nat) : Nat :=
  let n := nominalMv code
  match stage with
  | 1 => max (n * 70 / 100) 18000
  | 2 => max (n * 62 / 100) 16800
  | 3 => max (n * 55 / 100) 15600
  | 4 => max (n * 45 / 100) 14400
  | _ => 0

/-- The recovery threshold of a stage in mV: 5 % of the nominal above its threshold (R90). -/
def reefRecovery (code stage : Nat) : Nat := reefThreshold code stage + nominalMv code * 5 / 100

/-- The nominal code that the comparators use: the copy on the smart-power die, 0 while it was never written (R93). -/
def Dev.nominalCode (d : Dev) : Nat := d.nv.nominal.getD 0

/-- Entry filter time of a stage (R90). -/
def reefFilter (stage : Nat) : Nat := if stage ≤ 2 then ms 1 else if stage = 3 then us 500 else us 100

/-- VHV is seen at a voltage: no stage's filter or recovery time runs through a voltage on the other side of its threshold (R90). -/
def Dev.seeVhv (mv : Nat) (d : Dev) : Dev :=
  let code := d.nominalCode
  let now := d.now
  d.modSupply fun s => { s with
    vhvMv := mv
    notBelow := (numbered s.notBelow).map fun (k, t) => if reefThreshold code (k + 1) ≤ mv then now else t
    notAbove := (numbered s.notAbove).map fun (k, t) => if mv < reefRecovery code (k + 1) then now else t }

/-- VHV counts as present or not by its two thresholds (R68). -/
def Dev.judgeVhv (mv : Nat) (d : Dev) : Dev :=
  (d.seeVhv mv).modSupply fun s => { s with vhv := decide (13000 ≤ mv) || (s.vhv && decide (12000 ≤ mv)) }

/-- The highest stage whose threshold lies above a voltage (R92). -/
def reefStageAt (code mv : Nat) : Nat :=
  if mv < reefThreshold code 4 then 4 else if mv < reefThreshold code 3 then 3
  else if mv < reefThreshold code 2 then 2 else if mv < reefThreshold code 1 then 1 else 0

/-- Every record that waits is cast, without the steps that learn. -/
def Dev.castAll : Nat → Dev → Dev
  | 0, d => d
  | n + 1, d => if d.log.run.ended.isEmpty then d else castAll n (d.castFront false 6 true)

/-- The device stops a capture and learning, until the next cycle begins (R91, R581). -/
def Dev.stopLearning (d : Dev) : Dev :=
  let d := d.stopCapture
  { d with pilot := { d.pilot with learnOk := false }, supply := { d.supply with stoppedCycle := true } }

/-- What entering one stage does besides what the stage in force decides (R91). -/
def Dev.reefAction (stage : Nat) (d : Dev) : Dev :=
  if stage = 1 then d.refreshLoads.stopLearning
  else if stage = 4 then
    let d := (d.openOut 0).openOut 1
    let d := ((Dev.castAll d.log.run.ended.length d).castInterrupted 1).stopCapture
    (d.modSupply fun s => { s with reef4At := some d.now }).takeBridges
  else d

/-- A stage comes into force, with its event; the times of R90 run anew. -/
def Dev.reefTo (new vhv : Nat) (d : Dev) : Dev :=
  let old := d.supply.reef
  let d := (d.seeVhv vhv).modSupply fun s => { s with reef := new, reefSince := d.now, reefSeq := d.nv.eventSeq }
  d.raise 9 1 0xFF (u8 old ++ u8 new ++ u32 vhv)

/-- The stages from the one after `old` to `new` are entered in order, each with its event and its mark in the record (R94, R95). -/
def Dev.enterStages (vhv : Nat) : List Nat → Dev → Dev
  | [], d => d
  | k :: ks, d =>
    enterStages vhv ks (((d.reefTo k vhv).recReef k).reefAction k)

/-- VHV is below the threshold of a stage now and has not been seen above it for the stage's entry filter time (R90). -/
def Dev.reefDue (stage vhv : Nat) (d : Dev) : Bool :=
  decide (vhv < reefThreshold d.nominalCode stage) && decide (d.supply.notBelow.getD (stage - 1) 0 + reefFilter stage ≤ d.now)

/-- VHV is at or above the recovery threshold of a stage now, has not been seen below it for SYS_REEF_RECOVER_TIME, and the stage has been in force that long (R90). -/
def Dev.recoverDue (stage vhv : Nat) (d : Dev) : Bool :=
  let t := ms (d.parN P.SYS_REEF_RECOVER_TIME)
  decide (reefRecovery d.nominalCode stage ≤ vhv) && decide (d.supply.notAbove.getD (stage - 1) 0 + t ≤ d.now)
    && decide (d.supply.reefSince + t ≤ d.now)

/-- VHV has stayed below the threshold of a stage for its entry filter time (R90, R94). -/
def Dev.reefEnter (stage vhv : Nat) (d : Dev) : Dev :=
  if ¬ d.live ∨ stage ≤ d.supply.reef ∨ 4 < stage ∨ ¬ d.reefDue stage vhv then d
  else Dev.enterStages vhv ((List.range (stage - d.supply.reef)).map fun k => d.supply.reef + 1 + k) d

/-- VHV has stayed at or above the recovery threshold of the stage for SYS_REEF_RECOVER_TIME: one stage is left, and the next one needs its own full time (R90). Reef 4 is left only through reset. -/
def Dev.reefLeave (vhv : Nat) (d : Dev) : Dev :=
  let r := d.supply.reef
  if ¬ d.live ∨ r = 0 ∨ 4 ≤ r ∨ ¬ d.recoverDue r vhv then d
  else
    let d := (d.reefTo (r - 1) vhv).recReef (r - 1)
    if r = 1 then d.refreshLoads else d.takeBridges

/-- Reef 4 ends in a reset once the leaf is at rest, or after 250 ms (R91). -/
def Dev.reef4Reset (d : Dev) : Dev :=
  match d.supply.reef4At with
  | none => d
  | some t =>
    if d.leafSpeed.natAbs ≤ d.par P.PLAN_STANDSTILL_SPEED ∨ t + ms 250 ≤ d.now then
      (d.enterReset [6]).modSupply fun s => { s with reef4Hold := true }
    else d

/-- The reset of Reef 4 ends when VHV has stayed at or above the recovery threshold for 100 ms (R92). -/
def Dev.reef4Restart (vhv : Nat) (d : Dev) : Dev :=
  if d.supply.reef4Hold ∧ reefRecovery d.nominalCode 4 ≤ vhv ∧ d.supply.notAbove.getD 3 0 + ms 100 ≤ d.now then
    (d.seeVhv vhv).modSupply fun s => { s with reef4Hold := false }
  else if d.supply.reef4Hold then d.seeVhv vhv else d

/-! ### VHV and VDRV (R68) -/

/-- VDRV falls below its threshold. -/
def Dev.vdrvLost (mv : Nat) (d : Dev) : Dev :=
  if 9900 ≤ mv then d
  else
    let d := d.modSupply fun s => { s with vdrv := false, vdrvMv := mv }
    if d.live then (d.onset 17 2 0xFF (u32 mv)).takeBridges else d

/-- VDRV is seen at step 10: it counts as present by the thresholds of R68, the falling one where it was present before. -/
def Dev.vdrvAt (mv : Nat) (d : Dev) : Bool := decide (10300 ≤ mv) || (d.supply.vdrv && decide (9900 ≤ mv))

/-- VDRV rises through its threshold; the drivers are enabled from step 10 on. -/
def Dev.vdrvPresent (mv : Nat) (d : Dev) : Dev :=
  if mv < 10300 then d
  else
    let d := d.modSupply fun s => { s with vdrv := true, vdrvMv := mv }
    if d.live then ({ d with drive := { d.drive with enabled := true } }).clearing 17 0xFF (u32 mv) else d

/-- The smart-power die locks out, with VHV below 12.0 V: every channel off, both safe outputs open, every gate off. -/
def Dev.lockOut (d : Dev) : Dev :=
  let d := (d.judgeVhv (min d.supply.vhvMv 11999)).refreshLoads
  ((d.openOut 0).openOut 1).takeBridges

/-- The smart-power die leaves lock-out, with VHV at 13.0 V or above. -/
def Dev.lockOutEnds (d : Dev) : Dev := (d.judgeVhv (max d.supply.vhvMv 13000)).refreshLoads

/-! ### Adaptive voltage scaling (R72 to R78) -/

/-- "AVS emergency" ends once the application clock runs at full rate (R582, source 11). -/
def Dev.judgeClock (d : Dev) : Dev := if d.slowClock then d else d.clearing 11 0xFF (u8 0 ++ u16 d.supply.vcoreModel)

/-- The four bytes of a request on the AVS interface (R75): 0x01 set voltage, 0x02 read voltage, 0x03 read status. -/
def avsFrame (command value : Nat) : List Byte :=
  let b := u8 command ++ u16 value
  b ++ u8 (crc8 b)

/-- The bits of a request as they are sent: bytes in order of offset, each with its most significant bit first (R74). -/
def avsWire (frame : List Byte) : List Bool := frame.flatMap fun b => (List.range 8).map fun i => b.getLsbD (7 - i)

/-- What the loop asks for: the model with a change, inside SYS_AVS_MIN and SYS_AVS_MAX (R72). -/
def Dev.avsWish (change : Int) (d : Dev) : Nat :=
  (clampI (d.par P.SYS_AVS_MIN) (d.par P.SYS_AVS_MAX) (d.supply.vcoreModel + change)).toNat

/-- A set request goes out, unless one is under way, the interface is failed, or the last is younger than 1 ms (R77, R78). DESIGN CHOICE (log entry 27): where the limited value is the present one, R72 does not say whether a request still goes out, and none does; where the limits of R72 leave no value within the 25 mV of R77, neither limit is broken and no request goes out. -/
def Dev.avsRequest (v : Nat) (d : Dev) : Dev :=
  let s := d.supply
  if s.request.isSome ∨ s.avsFailed ∨ v = s.vcoreModel ∨ 25 < ((v : Int) - s.vcoreMv).natAbs ∨ (0 < s.requested ∧ d.now < s.requested + ms 1) then d
  else d.modSupply fun s => { s with request := some v, requested := d.now, avsTries := 0, avsSent := avsFrame 0x01 v }

/-- One millisecond of the scaling loop (R72, R73). -/
def Dev.avsTick (slack : Nat) (d : Dev) : Dev :=
  if ¬ d.live then d
  else
    let target := d.parN P.SYS_AVS_MARGIN
    let adaptive := d.par P.SYS_AVS_MODE = 1
    let least := decide (slack < 2)
    let change : Int := if least then 25 else if slack < target then 10 else if target + 4 < slack then -5 else 0
    let wish := if adaptive then d.avsWish change else d.supply.vcoreModel
    let atLimit := !adaptive || decide (d.par P.SYS_AVS_MAX ≤ d.supply.vcoreModel)
    let d := if adaptive ∧ change ≠ 0 then d.avsRequest wish else d
    let d := d.modSupply fun s => { s with
      halved := least || (s.halved && decide (slack < target))
      lowTicks := if least && atLimit then s.lowTicks + 1 else 0 }
    let d := if least then d.onset 11 1 0xFF (u8 slack ++ u16 wish) else d
    d.judgeClock

/-- Twenty ticks in succession below 2 taps with no higher VCORE to ask for (R72, R73). -/
def Dev.marginReset (d : Dev) : Dev := if 20 ≤ d.supply.lowTicks then d.resetIfRunning [5] else d

/-- The reply of an exchange holds: length, check, status, and not all bytes held low (R76, R78). DEDUCED (log entry 27): the good reply to a status read with no status bit set has all its bits 0 under R76, so AVSDAT held low fails only the other two commands. -/
def avsGood (command : Nat) (reply : List Byte) : Bool :=
  decide (reply.length = 4) && decide (fieldAt 3 1 reply = crc8 (reply.take 3)) && decide (fieldAt 0 1 reply = 0)
    && (decide (command = 0x03) || reply.any fun b => b ≠ 0)

/-- The Value field of a reply (R76). -/
def avsValue (reply : List Byte) : Nat := fieldAt 1 2 reply

/-- An exchange ends (R77, R78). -/
def Dev.avsEnd (reply : List Byte) (d : Dev) : Dev :=
  match d.supply.request with
  | none => d
  | some v =>
    let status := fieldAt 0 1 reply
    if avsGood 0x01 reply then
      (d.modSupply fun s => { s with
        request := none, vcoreMv := v, vcoreModel := v, avsStatus := status, avsSetting := avsValue reply, avsTries := 0, avsFailed := false }).clearing 10 0xFF
        (u8 status ++ u16 v)
    else if d.supply.avsTries < 2 then d.modSupply fun s => { s with avsStatus := status, avsTries := s.avsTries + 1 }
    else
      let d := d.modSupply fun s => { s with request := none, vcoreModel := v, avsStatus := status, avsTries := 0, avsFailed := true, requested := d.now }
      d.onset 10 2 0xFF (u8 status ++ u16 d.supply.vcoreMv)

/-- While the interface is failed an exchange is tried once per second (R78). -/
def Dev.avsRetry (d : Dev) : Dev :=
  let s := d.supply
  if d.live ∧ s.avsFailed ∧ s.request.isNone ∧ d.par P.SYS_AVS_MODE = 1 ∧ s.requested + sec 1 ≤ d.now then
    d.modSupply fun s => { s with request := some s.vcoreModel, requested := d.now, avsTries := 2, avsSent := avsFrame 0x01 s.vcoreModel }
  else d

/-! ### Clocks (R79, R513) -/

/-- CANCLK is lost. -/
def Dev.busClockLost (d : Dev) : Dev :=
  if d.supply.step < 7 ∨ d.bus.clockLost then d
  else
    let d := { d with bus := { d.bus with clockLost := true } }
    (((d.clockLost 0).clockLost 1).onset 181 2 0xFF []).watchMasterBus

/-- CANCLK has run in tolerance for 10 ms. -/
def Dev.busClockRestored (d : Dev) : Dev :=
  if ¬ d.bus.clockLost then d
  else
    let d := { d with bus := { d.bus with clockLost := false } }
    let again (x : Nat) (d : Dev) : Dev := if (d.busOf x).state = 6 then d.busIntegrate x else d
    ((again 1 (again 0 d)).endStanding 181 0xFF).raise 182 0 0xFF []

/-- The controller die is out of reset and neither Parked nor Dormant. -/
def Dev.controllerRuns (d : Dev) : Bool := 0 < d.supply.step && d.supply.mode = 0

/-- The 32.768 kHz clock fails while the controller runs. -/
def Dev.keepClockLost (d : Dev) : Dev :=
  if ¬ d.controllerRuns then d else (d.modSupply fun s => { s with keepLost := true }).onset 12 1 0xFF []

/-- The keep clock is good again. -/
def Dev.keepClockRestored (d : Dev) : Dev :=
  if ¬ d.controllerRuns then d else (d.modSupply fun s => { s with keepLost := false }).clearing 12 0xFF []

/-! ### Die temperatures (R581) -/

/-- Warm and hot limits of a die in 0.1 °C, and the end of warm: 20 °C below the maximum of R63. -/
def dieLimits (die : Nat) : Int × Int × Int := if die = 1 then (1400, 1500, 1300) else (1150, 1250, 1050)

/-- One die's temperature. -/
def Dev.dieTemp (die : Nat) (t : Int) (d : Dev) : Dev :=
  let (warmAt, hotAt, warmEnd) := dieLimits die
  let s := d.supply
  let wasHot := s.dieHot.getD die false
  let warm := decide (warmAt ≤ t) || (s.dieWarm.getD die false && decide (warmEnd < t))
  let hot := decide (hotAt ≤ t) || (wasHot && decide (warmAt < t))
  let d := d.modSupply fun s => { s with dieTemp := setAt die t s.dieTemp, dieWarm := setAt die warm s.dieWarm, dieHot := setAt die hot s.dieHot }
  let data := i16 (satI 16 t)
  let d := (d.follow 15 1 die warm data).follow 16 2 die hot data
  if hot = wasHot then d
  else if die = 1 then d.refreshLoads
  else if hot then (if die = 0 then d.stopLearning else d.stopCapture)
  else d

/-- Every die is read each millisecond. -/
def Dev.dieTemps (c p m : Int) (d : Dev) : Dev :=
  if d.live then (((d.dieTemp 0 c).dieTemp 1 p).dieTemp 2 m).judgeClock else d

/-! ### The restart replies (R131, R134) -/

/-- An opcode whose command is a query (R119). -/
def queryOp (op : Nat) : Bool :=
  [0x00, 0x01, 0x06, 0x07, 0x0D, 0x10, 0x15, 0x17, 0x1B, 0x2D, 0x38, 0x39, 0x3B, 0x3D, 0x3F, 0x37, 0x41, 0x42, 0x43, 0x45, 0x46, 0x47, 0x48,
    0x51, 0x55, 0x60, 0x62, 0x63, 0x64, 0x65, 0x70, 0x73, 0x77, 0x78, 0x79, 0x7A, 0x7B].contains op

/-- A number put behind those whose key is not higher. -/
def insertBy (key : Nat → Nat) (n : Nat) : List Nat → List Nat
  | [] => [n]
  | m :: ms => if key n < key m then n :: m :: ms else m :: insertBy key n ms

/-- The entries that a restart answers, in journal sequence order: state 1, 2 or 3, or torn (R131). -/
def Dev.openEntries (d : Dev) : List Nat :=
  let slots := (List.range 64).filter fun i => let e := d.entry i; e.torn || (1 ≤ e.state && e.state ≤ 3)
  let age (i : Nat) : Nat := ((d.entry i).seq + 65536 - d.nv.journalWrites % 65536) % 65536
  slots.foldl (fun l i => insertBy age i l) []

/-- One entry of the in-flight list of the reset event (R134). -/
def JEntry.inFlight (e : JEntry) : List Byte :=
  u8 e.tag ++ u8 e.opcode ++ u8 e.state ++ u8 e.progress ++ u16 e.seq ++ leBytes 6 e.accept

/-- The reply that a restart gives an entry: status, data and flags (R131). -/
def Dev.restartReply (e : JEntry) (d : Dev) : Nat × List Byte × Nat :=
  if e.torn then (0x15, [], 0)
  else if e.state = 2 ∧ e.opcode = 0x02 then (0x00, [], 0)
  else if e.state = 2 ∧ e.opcode = 0x0B then (if d.nv.active = d.supply.bank then 0x00 else 0x1F, [], 0)
  else if e.state = 3 ∧ ¬ queryOp e.opcode then (e.status, if e.status = 0x14 then u8 0 ++ u32 0 else [], 2)
  else (0x15, [], 0)

/-- The restart replies are queued. -/
def Dev.restartReplies : List Nat → Dev → Dev
  | [], d => d
  | i :: is, d =>
    let e := d.entry i
    let (status, data, flags) := d.restartReply e
    let d := d.putEntry i { e with torn := false }
    restartReplies is (d.replyFlags i status data flags)

/-- Events held until the interface opened. -/
def Dev.flushHeld : List HeldEvent → Dev → Dev
  | [], d => d
  | h :: hs, d => flushHeld hs (d.queueEvent h.source h.severity h.data h.time)

/-- Step 8: the interface opens; the reset event, the restart replies, then the held events (R84, R131, R134, R577). -/
def Dev.openHost (d : Dev) : Dev :=
  let slots := d.openEntries
  let data := u8 0 ++ u8 0xFF ++ u16 d.nv.keep.cause ++ u32 d.nv.sentSeq ++ u16 d.nv.unsent ++ u8 slots.length
    ++ slots.flatMap fun i => (d.entry i).inFlight
  let held := d.host.held
  let d := { d with host := { d.host with isOpen := true, chan := d.chanSettings, lastValid := d.now, held := [] } }
  let d := d.queueEvent 0 1 data d.chron.time
  Dev.flushHeld held (Dev.restartReplies slots d)

/-! ### Start-up (R84, R85) -/

/-- A start-up step is complete. -/
def Dev.stepDone (n : Nat) (d : Dev) : Dev := d.modSupply fun s => { s with step := n }

/-- The time of a wake from Parked: the keep time at entry plus the elapsed periods of the keep clock (R89, R523). -/
def Dev.keepTime (d : Dev) : Nat := d.nv.keep.time + (d.now - d.nv.keep.entered) * 32768 / 100000000 * 100000000 / 32768

/-- Step 1: the internal reset is released. A wake from Parked with a valid keep time continues the Chronometer; otherwise its time is invalid, which waits as an event for step 8 (R523, R577). -/
def Dev.startStep1 (d : Dev) : Dev :=
  let k := d.nv.keep
  let valid : Bool := k.mode = 1 && k.valid
  let chron : Chron := if valid then { time := d.keepTime % 2 ^ 64, state := 1, keepValid := true } else {}
  let d := { d with chron := chron, nv := { d.nv with keep := { k with mode := 0, wake := false } } }
  let d := (d.modSupply fun s => { s with vio := true, vcore := true, vkeep := true }).stepDone 1
  if valid then d else d.onset 185 1 0xFF (u8 d.supply.chronLeft)

/-- Step 3: the first AVS exchange, which reads the regulator's status and then its voltage (R70, R75, R76, R85). -/
def Dev.startStep3 (i : StartUpIn) (d : Dev) : Dev :=
  let mv := avsValue i.avsVoltage
  let good := avsGood 0x03 i.avsStatus && avsGood 0x02 i.avsVoltage && decide (1164 ≤ mv) && decide (mv ≤ 1236)
  let d := (d.stepDone 3).modSupply fun s => { s with
    avsSent := avsFrame 0x02 0
    avsBits := if avsGood 0x03 i.avsStatus then avsValue i.avsStatus else s.avsBits
    avsMeasured := if avsGood 0x02 i.avsVoltage then mv else s.avsMeasured }
  if good then d
  else (d.modSupply fun s => { s with avsFailed := true, requested := d.now }).onset 10 2 0xFF (u8 0 ++ u16 d.supply.vcoreMv)

/-- A bank verifies at step 4. -/
def Dev.bankGood (i : StartUpIn) (b : Nat) (d : Dev) : Bool := (d.nv.banks.getD b {}).valid && !bitAt i.bankBad b

/-- Step 4: the active bank, else the other, else the boot ROM, which answers on the channel of the stored image (R85, R98). The flag tells whether start-up goes on. -/
def Dev.startStep4 (i : StartUpIn) (d : Dev) : Bool × Dev :=
  let a := d.nv.active
  if d.bankGood i a then (true, (d.modSupply fun s => { s with bank := a }).stepDone 4)
  else
    let d := d.raise 13 2 0xFF (u8 2 ++ u8 a)
    let b := 1 - a
    if d.bankGood i b then (true, (d.modSupply fun s => { s with bank := b }).stepDone 4)
    else
      let d := d.raise 13 2 0xFF (u8 2 ++ u8 b)
      let d := { d with prm := { d.prm with working := if i.imageOk then d.storedValues else [] } }
      (false, { d.modSupply fun s => { s with bootRom := true } with host := { d.host with isOpen := true, chan := d.chanSettings, lastValid := d.now } })

/-- The journal as read: each entry from the slot that counts. DESIGN CHOICE (log entry 65): of a journal that cannot be read no entry is known, and all are free. -/
def Dev.readJournal (i : StartUpIn) (d : Dev) : Dev :=
  let journal := if i.journalOk then (numbered d.nv.journal).map fun (n, e) => e.readBack i.damage n else List.replicate 64 {}
  { d with nv := { d.nv with journal := journal } }

/-- A Log that is failed after the restart is reported anew (R85, R577). DEDUCED (log entry 65): array 1 for a header that cannot be read, which lies in the system array, else 0. -/
def Dev.reportLog (d : Dev) : Dev := if d.logFailed then d.onset 187 2 0xFF (u8 (bit d.nv.header.isNone)) else d

/-- Step 6: journal and Log headers (R85, R130, R559, R564). An unreadable one fails the Log until the ring is erased. -/
def Dev.startStep6 (i : StartUpIn) (d : Dev) : Dev :=
  let d := d.readJournal i
  let d := if i.headerOk ∧ i.journalOk then d else { d with nv := { d.nv with header := none } }
  (((d.recoverLog i.draftOk).recoverTraces).reportLog).stepDone 6

/-- A copy on the smart-power die is compared with the image: written when never written, rewritten with event 14 when it differs (R85, R93). -/
def Dev.compareCopy (which : Nat) (same never : Bool) (put : NonVolatile → NonVolatile) (d : Dev) : Bool × Dev :=
  if never then (false, { d with nv := put d.nv })
  else if same then (false, d)
  else (true, ({ d with nv := put d.nv }).raise 14 1 0xFF (u8 which))

/-- Step 7: the parameter image, the copies, the bus controllers and the seal. -/
def Dev.startStep7 (i : StartUpIn) (d : Dev) : Dev :=
  let good := i.imageOk && d.nv.image.isSome
  let d := if good then d else (({ d with nv := { d.nv with image := none } }).modSupply fun s => { s with factoryImage := true }).raise 13 2 0xFF (u8 1 ++ u8 0)
  let d := { d with prm := { working := d.storedValues } }
  let d := if good then { d with step := { d.step with table := d.nv.steps }, pilot := { d.pilot with fricRef := d.nv.fricRef } } else d
  let nominal := d.parN P.SYS_VHV_NOMINAL
  let jury := (d.parN P.LCH_PAIR_ENABLE, d.parN P.LCH_JURY_MASK, d.parN P.LCH_JURY_MAP)
  let (r1, d) := d.compareCopy 1 (d.nv.nominal = some nominal) d.nv.nominal.isNone fun v => { v with nominal := some nominal }
  let (r2, d) := d.compareCopy 2 (d.nv.jury = some jury) d.nv.jury.isNone fun v => { v with jury := some jury }
  let rewritten := r1 || r2
  let d := if rewritten then { d with nv := { d.nv with sealRec := d.nv.sealRec.map fun r : SealRecord => ({ r with void := true } : SealRecord) } } else d
  let d := (d.busStart 0 (if good then d.nv.tableA else {})).busStart 1 (if good then d.nv.tableB else {})
  ((d.refreshLoads).evaluateSeal rewritten).stepDone 7

/-- Step 9: Binnacle's self-test; its failure is a class A fault until a reset (R85, R466). -/
def Dev.startStep9 (i : StartUpIn) (d : Dev) : Dev :=
  let d := d.stepDone 9
  let d := { d with bin := { d.bin with selfTest := i.selfTest } }
  if i.selfTest then d else d.classAFault 9

/-- Step 10: pads, loads, drivers, learned tables, reef stage; training begins (R84, R92, R551). Held while VHV is below the recovery threshold of Reef 4. -/
def Dev.startStep10 (i : StartUpIn) (d : Dev) : Dev :=
  let d := d.judgeVhv i.vhvMv
  if i.vhvMv < reefRecovery d.nominalCode 4 then d.modSupply fun s => { s with vhvWait := true }
  else
    let vdrv := d.vdrvAt i.vdrvMv
    let stage := reefStageAt d.nominalCode i.vhvMv
    let d := d.modSupply fun s => { s with
      vhvWait := false, vdrv := vdrv, vdrvMv := i.vdrvMv, reef := stage, reefSince := d.now, stoppedCycle := decide (stage ≠ 0) }
    let tables := if i.tablesOk then d.nv.learned else none
    let d := match tables with
      | some (f, c) => { d with pilot := { d.pilot with fric := f, cog := c } }
      | none => d.raise 87 1 0xFF []
    let d := ({ d with drive := { d.drive with enabled := vdrv }, load := { d.load with snsOn := true } }).stepDone 10
    let d := if vdrv then d else d.onset 17 2 0xFF (u32 i.vdrvMv)
    let d := if stage = 0 then d else (d.raise 9 1 0xFF (u8 0 ++ u8 stage ++ u32 i.vhvMv)).recReef stage
    Dev.trainAll [0, 1, 2] (Dev.measureOffsets true 0 i.offsets d.refreshLoads.renewLoads)

/-- Steps 5 to 10, each after the one before it. -/
def Dev.startFrom5 (i : StartUpIn) (d : Dev) : Dev :=
  if ¬ i.sramOk then d
  else
    let d := ((d.stepDone 5).startStep6 i).startStep7 i
    let d := (d.openHost.stepDone 8).startStep9 i
    d.startStep10 i

/-- Steps 2 to 10: the sequence stays at step 2, in the boot ROM, at step 5 or before step 10 where R85 and R92 say so. -/
def Dev.startFrom2 (i : StartUpIn) (d : Dev) : Dev :=
  if ¬ i.clockOk then d
  else
    let (go, d) := ((d.stepDone 2).startStep3 i).startStep4 i
    if go then d.startFrom5 i else d

/-- The start-up sequence runs from the origin of R84. -/
def Dev.startUp (i : StartUpIn) (d : Dev) : Dev :=
  if d.supply.step ≠ 0 ∨ d.supply.mode ≠ 0 ∨ d.supply.reef4Hold ∨ d.supply.bootRom then d else (d.startStep1.judgeVhv i.vhvMv).startFrom2 i

/-- Step 2 is tried again (R85). -/
def Dev.clockRetry (i : StartUpIn) (d : Dev) : Dev := if d.supply.step = 1 ∧ d.supply.mode = 0 then d.startFrom2 i else d

/-- VHV lets start-up pass step 10 (R92). -/
def Dev.vhvWaitEnds (i : StartUpIn) (d : Dev) : Dev := if d.supply.step = 9 ∧ d.supply.vhvWait then d.startStep10 i else d

/-- No enabled skin port trains or builds its first baselines (steps 11 and 12). -/
def Dev.skinSettled (d : Dev) : Bool := (List.range 3).all fun p => d.portLink p = 0 || ((d.port p).state ≠ 1 && (d.port p).state ≠ 2)

/-- The first telegram of every send connection (R535). -/
def Dev.firstTelegrams (d : Dev) : Dev := ((d.sendKind 1).sendKind 2).sendKind 5

/-- Step 13: the doorway is classified, a record begins, "ready" is sent (R84, R181, R552). -/
def Dev.becomeReady (d : Dev) : Dev :=
  if ¬ d.live ∨ d.ready ∨ ¬ d.skinSettled then d
  else
    let d := (d.stepDone 13).classifyDoor true
    let d := d.beginRecord (if d.door.state = 0 ∨ d.door.state = 10 then 3 else 1)
    let version := if (d.nv.banks.getD d.supply.bank {}).valid then (d.nv.banks.getD d.supply.bank {}).version else 0
    let d := if d.supply.reef = 0 then d else d.recReef d.supply.reef
    (d.raise 1 0 0xFF (u32 version ++ u8 d.supply.reef)).firstTelegrams

/-! ### Parked and Dormant (R87, R88) -/

/-- Entry into Parked (1) or Dormant (2), once the reply of the order has left. -/
def Dev.enterPark (mode : Nat) (d : Dev) : Dev :=
  let d := ((d.openOut 0).openOut 1).stopCapture
  let d := d.endRecord 3
  let d := Dev.castAll (d.log.run.ended.length) d
  let k : Keep := { cause := d.nv.keep.cause, mode := mode, time := d.chron.time, entered := d.now, valid := decide (mode = 1) && d.timeValid && !d.supply.keepLost }
  (({ d with nv := { d.nv with keep := k } }).enterReset []).modSupply fun s => { s with mode := mode }

/-- The park or dormant order's reply has left: entry runs. -/
def Dev.judgePark (d : Dev) : Dev :=
  match d.supply.parking with
  | none => d
  | some (mode, slot) => if d.host.flights.any fun f => f.slot = slot then d else d.enterPark mode

/-- The device leaves Parked or Dormant for start-up with its cause bit and others. -/
def Dev.wakeUp (causes : List Nat) (d : Dev) : Dev :=
  let bit := if d.supply.mode = 1 then 10 else 11
  let d := { d with nv := { d.nv with keep := { d.nv.keep with cause := setBits (bit :: causes) d.nv.keep.cause } } }
  d.modSupply fun s => { s with mode := 0 }

/-- VIO and VCORE are present. -/
def Supply.corePowered (s : Supply) : Bool := s.vio && s.vcore

/-- WAKE high for 100 µs (source 0), or VIO and VCORE present again (any other source) (R88). -/
def Dev.wake (source : Nat) (d : Dev) : Dev :=
  if d.supply.mode = 0 then d
  else if source = 0 then
    if d.supply.corePowered then d.wakeUp []
    else { d with nv := { d.nv with keep := { d.nv.keep with wake := true } } }
  else if d.supply.corePowered then d
  else (d.modSupply fun s => { s with vio := true, vcore := true }).wakeUp []

/-- The keep alarm of Parked (R88). -/
def Dev.keepAlarm (d : Dev) : Dev :=
  let a := d.parN P.SYS_PARK_ALARM
  if d.supply.mode = 1 ∧ 0 < a ∧ d.supply.corePowered ∧ d.nv.keep.entered + sec a ≤ d.now then d.wakeUp [] else d

/-! ### Reset causes (R82) -/

/-- VIO or VCORE falls below its threshold. In Parked and Dormant it may, without a cause of its own (R87). -/
def Dev.powerLost (d : Dev) : Dev :=
  let d := if d.supply.mode = 0 then d.enterReset [0] else d
  d.modSupply fun s => { s with vio := false, vcore := false }

/-- RST_N low for a time: 10 µs or longer resets, below 1 µs is ignored, in between it may or may not. -/
def Dev.rstPulse (width : Nat) (d : Dev) : Dev :=
  let (free, d) := if us 1 ≤ width ∧ width < us 10 then d.drawBit else (decide (us 10 ≤ width), d)
  if ¬ free then d
  else if d.supply.mode ≠ 0 then d.wakeUp [1]
  else d.enterReset [1]

/-- VKEEP falls below its threshold: the keep registers are lost and the cause word reads power-on. -/
def Dev.vkeepLost (d : Dev) : Dev :=
  let d := { d with nv := { d.nv with keep := { cause := 1 } } }
  d.modSupply fun s => { s with vkeep := false, mode := 0 }

end Sys2Proof.Machine
end

