-- ==== Sys2Proof/Machine/HostGuards.lean ====
section
/-! DEFINITION. The checks that each host command itself sets (R111): a refusal is a status of R118 and its reply data. -/

namespace Sys2Proof.Machine

/-- A refusal: status and reply data. -/
abbrev Refused := Option (Nat × List Byte)

/-- RANGE with the index of the field, counted from 0 without reserved fields. -/
def rangeErr (field : Nat) : Refused := some (0x08, u8 field)

/-- A refusal where a condition holds, and the next check where it does not. -/
def refuseIf (c : Bool) (r next : Refused) : Refused := if c then r else next

/-! ### System (R87, R119, R614) -/

/-- FW_LOAD_BEGIN: length above 4,194,304; the bank that runs. -/
def Dev.guardFwBegin (bank length : Nat) (d : Dev) : Refused :=
  refuseIf (decide (4194304 < length)) (rangeErr 1)
    (refuseIf (!d.supply.bootRom && decide (bank = d.supply.bank)) (some (0x0F, [])) none)

/-- FW_LOAD_DATA: no load runs; bytes beyond the image. DESIGN CHOICE (log entry 67): R119 names no status for a load that FW_LOAD_BEGIN has not begun; it is STATE. -/
def Dev.guardFwData (off : Nat) (bytes : List Byte) (d : Dev) : Refused := match d.fw with
  | none => some (0x0F, [])
  | some l => refuseIf (decide (l.length < off + bytes.length)) (rangeErr 0) none

/-- FW_LOAD_END: no load runs; STATE, as for FW_LOAD_DATA (log entry 67). -/
def Dev.guardFwEnd (d : Dev) : Refused := refuseIf d.fw.isNone (some (0x0F, [])) none

/-- FW_ACTIVATE outside the boot ROM: Locked, Isolated or Maintenance, and not in motion. -/
def Dev.guardFwActivate (d : Dev) : Refused :=
  refuseIf d.supply.bootRom none
    (refuseIf (decide (d.door.state ≠ 0) && decide (d.door.state ≠ 10) && decide (d.door.state ≠ 12)) (some (0x0F, []))
      (refuseIf d.inMotion (some (0x0E, [])) none))

/-- PARK and DORMANT (R87). -/
def Dev.guardPark (d : Dev) : Refused :=
  refuseIf d.inMotion (some (0x0E, []))
    (refuseIf ((decide (d.door.state ≠ 0) && decide (d.door.state ≠ 10)) || (decide (d.door.step ≠ 0) && decide (d.door.step ≠ 5)))
      (some (0x0F, [])) none)

/-! ### Parameters (R121 to R127) -/

/-- PARAM_WRITE: the first pair that fails. -/
def Dev.guardParamWrite (pairs : List (Nat × Nat)) (d : Dev) : Refused := (d.checkPairs 0 pairs).map fun f => (f.2, u8 f.1)

/-- PARAM_INFO of an ID that names no parameter. -/
def guardParamInfo (id : Nat) : Refused := refuseIf (paramDef? id).isNone (some (0x09, [])) none

/-- PARAM_IMAGE_READ: length 1 to 1,000, a window inside the stored image. -/
def guardImageRead (off length : Nat) : Refused :=
  refuseIf (decide (length < 1) || decide (1000 < length)) (rangeErr 1)
    (refuseIf (decide (16 + 6 * allParams.length < off + length)) (rangeErr 0) none)

/-- PARAM_IMAGE_LOAD: a window inside the staging buffer. -/
def guardImageLoad (off : Nat) (bytes : List Byte) : Refused := refuseIf (decide (imageRoom < off + bytes.length)) (rangeErr 0) none

/-! ### Doorway (chapter 05) -/

/-- A doorway or step order: what its body asks, then the state. -/
def Dev.guardDoor (op value : Nat) (d : Dev) : Refused := (d.doorBody op value).or (d.doorGuard op)

/-! ### Axes and loops (R178, R211, R226, R254, R262, R267, R302) -/

/-- Orders of Maintenance alone. -/
def Dev.maintOnly (next : Refused) (d : Dev) : Refused := refuseIf (decide (d.door.state ≠ 12)) (guard 1) next

/-- An axis may start a motion: not moving, VDRV present, and the reef stage lets it (R68, R91). -/
def Dev.guardStart (axis : Nat) (next : Refused) (d : Dev) : Refused :=
  refuseIf (d.axisMoving axis || d.leaf.orders.any fun o => (decide (o.1 = 0x30) || decide (o.1 = 0x31)) && decide (o.2.2 = axis)) (some (0x0E, []))
    (refuseIf (!d.supply.vdrv) (some (0x17, []))
      (refuseIf (decide ((if axis = 0 then 3 else 2) ≤ d.supply.reef)) (some (0x18, [])) next))

/-- AXIS_HOME. -/
def Dev.guardAxisHome (axis : Nat) (d : Dev) : Refused :=
  d.maintOnly (refuseIf (decide (axis = 1) && decide (d.par P.SYS_STEP_FITTED = 0)) (some (0x0F, [])) (d.guardStart axis none))

/-- AXIS_MOVE to a target in µm. -/
def Dev.guardAxisMove (axis : Nat) (target : Int) (d : Dev) : Refused :=
  let inside := if axis = 0 then decide (d.par P.SEXT_SOFT_LOW ≤ target) && decide (target ≤ d.par P.SEXT_SOFT_HIGH)
    else decide (0 ≤ target) && decide (target ≤ d.par P.PLAN_STEP_EXT_MAX)
  d.maintOnly (refuseIf (!inside) (rangeErr 1)
    (refuseIf (decide (axis = 1) && (d.step.unverified || decide (d.par P.SYS_STEP_FITTED = 0))) (some (0x0F, [])) (d.guardStart axis none)))

/-- AXIS_LINK. -/
def Dev.guardAxisLink (d : Dev) : Refused := refuseIf d.inMotion (some (0x0E, [])) none

/-- LOOP_MODE. -/
def Dev.guardLoopMode (axis mode : Nat) (d : Dev) : Refused :=
  d.maintOnly (refuseIf (decide (mode = 2) && d.axisMoving axis) (some (0x0E, []))
    (refuseIf (decide (d.pilot.dr = 1)) (guard 1) none))

/-- The mode of an axis under Pilot. -/
def Pilot.modeOf (p : Pilot) (axis : Nat) : AxisMode := if axis = 0 then p.leafMode else p.stepMode

/-- LOOP_MANUAL with its set-point in mA or mV. -/
def Dev.guardLoopManual (axis : Nat) (point : Int) (d : Dev) : Refused :=
  let m := d.pilot.modeOf axis
  let most : Int := if m.mode = 1 then d.par P.PILOT_I_MAX else d.drive.vbus
  d.maintOnly (refuseIf (decide (m.mode = 0)) (guard 1) (refuseIf (decide (most < point.natAbs)) (rangeErr 1) none))

/-- A point of a loop that exists: the reference, a section's input, the input behind the last one, or the output. -/
def Dev.pointExists (loop point : Nat) (d : Dev) : Bool := decide ((point : Int) ≤ d.loopPar loop 0 + 1) || decide (point = 9)

/-- A loop of an axis (R230). -/
def loopOfAxis (axis loop : Nat) : Bool := if axis = 0 then decide (loop ≤ 3) else decide (loop = 4) || decide (loop = 5)

/-- The first signal setting outside R263, as a field of INJECT_START. -/
def signalFails (signal p1 p2 p3 : Nat) : Option Nat :=
  if signal = 0 then (if p2 ≠ 0 then some 6 else if p3 ≠ 0 then some 7 else none)
  else if signal = 1 then (if 60000 < p3 then some 7 else none)
  else if p1 < 7 ∨ 15 < p1 then some 5
  else if p2 < 1 ∨ 64 < p2 then some 6
  else if p3 ≠ 0 then some 7
  else none

/-- INJECT_START (R262, R263, R267). -/
def Dev.guardInject (axis loop point signal p1 p2 p3 respLoop respPoint decimation : Nat) (d : Dev) : Refused :=
  let m := (d.pilot.modeOf axis).mode
  refuseIf (!(loopOfAxis axis loop && loopOfAxis axis respLoop && d.pointExists loop point && d.pointExists respLoop respPoint)) (some (0x01, []))
    (match signalFails signal p1 p2 p3 with
    | some f => rangeErr f
    | none =>
      refuseIf (decide (decimation < 1) || decide (16 < decimation)) (rangeErr 10)
        (d.maintOnly (refuseIf (!(decide (m = 0) || (decide (m = 1) && decide (2 ≤ loop))) || d.pilot.inject.isSome) (guard 1) none)))

/-- CAPTURE_READ: a first sample that was captured, and 1 to 125 samples. -/
def Dev.guardCapture (off count : Nat) (d : Dev) : Refused :=
  refuseIf (decide (d.pilot.capture.length ≤ off)) (rangeErr 0) (refuseIf (decide (count < 1) || decide (125 < count)) (rangeErr 1) none)

/-- The window of TABLE_READ or TABLE_WRITE in a table of some entries. -/
def tableWindow (table dir off count entries : Nat) : Refused :=
  refuseIf (decide (table = 8) && decide (dir ≠ 0)) (rangeErr 1)
    (refuseIf (decide (entries ≤ off)) (rangeErr 2)
      (refuseIf (decide (count < 1) || decide (500 < count) || decide (entries < off + count)) (rangeErr 3) none))

/-- TABLE_READ. -/
def guardTableRead (table dir off count : Nat) : Refused := tableWindow table dir off count (if table = 8 then 1024 else 2048)

/-- The index of the first entry outside a bound. -/
def entryFails (bound : Int) : Nat → List Int → Option Nat
  | _, [] => none
  | i, v :: vs => if bound < v.natAbs then some i else entryFails bound (i + 1) vs

/-- TABLE_WRITE (R214, R254): entries in units of 10 mN within ±PILOT_FRIC_MAX, or within ±32,767. -/
def Dev.guardTableWrite (table dir off : Nat) (entries : List Int) (d : Dev) : Refused :=
  let bound : Int := if table = 8 then 32767 else d.par P.PILOT_FRIC_MAX / 10
  let axis := if table = 8 then 1 else 0
  (tableWindow table dir off entries.length (if table = 8 then 512 else 2048)).or
    (match entryFails bound 4 entries with
    | some i => rangeErr i
    | none => refuseIf (d.axisMoving axis || d.axisOrder axis) (some (0x0E, [])) none)

/-- COMPARE_ARM (R302). -/
def Dev.guardCompare (unit action filter : Nat) (um : Int) (d : Dev) : Refused :=
  refuseIf (decide (3 < unit)) (rangeErr 0) (refuseIf (decide (2 < action)) (rangeErr 1) (refuseIf (decide (2 < filter)) (rangeErr 2)
    (refuseIf (decide (um < d.par P.SEXT_SOFT_LOW) || decide (d.par P.SEXT_SOFT_HIGH < um)) (rangeErr 3)
      (refuseIf (decide (d.sext.ref = 0)) (guard 1) none))))

/-! ### Skin (R367, R370) -/

/-- SKIN_PORT_SET: 0 suspend, 1 resume, 2 retrain. -/
def Dev.guardPortSet (port action : Nat) (d : Dev) : Refused :=
  refuseIf (decide (d.portLink port = 0) || (decide (action = 0) && decide (d.door.state ≠ 12) && decide (d.door.state ≠ 10))) (guard 1)
    (refuseIf (decide (action = 2) && d.inMotion) (some (0x0E, [])) none)

/-- SKIN_BASELINE_REBUILD: every named port running or degraded. -/
def Dev.guardRebuild (mask : Nat) (d : Dev) : Refused :=
  refuseIf d.inMotion (some (0x0E, []))
    (refuseIf (d.skin.rebuildOrder.isSome || !(portsOf mask).all fun p => (d.port p).state = 3 || (d.port p).state = 4) (guard 1) none)

/-- SKIN_FRAME_READ: a window inside the port. -/
def Dev.guardFrameRead (port a0 an r0 rn : Nat) (d : Dev) : Refused :=
  let width := 256 * (d.port port).tiles.length
  refuseIf (decide (width ≤ a0)) (rangeErr 2)
    (refuseIf (decide (an < 1) || decide (256 < an) || decide (width < a0 + an)) (rangeErr 3)
      (refuseIf (decide (31 < r0)) (rangeErr 4)
        (refuseIf (decide (rn < 1) || decide (32 < r0 + rn) || decide (480 < an * rn)) (rangeErr 5) none)))

/-! ### Load channels (R429) -/

/-- LCH_SET: the first channel that stands in the way. -/
def Dev.guardLchSet (channels states : Nat) (d : Dev) : Refused := (d.lchRefused channels states).map fun n => (0x0F, u8 n)

/-- LCH_OFF_TEST: a named channel of kind 0; another test runs. -/
def Dev.guardOffTest (channels : Nat) (d : Dev) : Refused :=
  refuseIf (d.load.testOrder.isSome || (List.range 12).any fun n => bitAt channels n && decide (d.chKind n = 0)) (some (0x0F, [])) none

/-! ### Safety (R479, R480) -/

/-- The checks of the Binnacle block that SEAL_CONFIRM runs on the values in force: group and code of the first failure. -/
def Dev.sealChecks (d : Dev) : Option (Nat × Nat) :=
  let codes := [0x0A01, 0x0A02, 0x0A03, 0x0A04, 0x0A05, 0x0C02, 0x0C03, 0x0C04, 0x0C05, 0x0C06]
  codes.findSome? fun c => (groupNames.find? fun g => (codesOf g).contains c && !checkHolds c g d.par).map fun g => (g, c)

/-- SEAL_CONFIRM (R480). -/
def Dev.guardSeal (value grade : Nat) (d : Dev) : Refused :=
  refuseIf d.inMotion (some (0x0E, []))
    (match d.sealChecks with
    | some (g, c) => some (0x0D, u16 g ++ u16 c)
    | none =>
      refuseIf (!d.imageAgrees) (guard 1)
        (refuseIf (d.bin.classA || !d.bin.selfTest) (guard 2)
          (refuseIf (decide (grade ≠ Config.grade % 256)) (guard 3)
            (refuseIf (decide (value ≠ d.sealOver d.storedValues)) (some (0x1A, u32 (d.sealOver d.storedValues))) none))))

/-- DEBUG_ENABLE. -/
def Dev.guardDebug (d : Dev) : Refused := refuseIf d.bin.isSealed (some (0x19, [])) none

/-! ### Bus and time (R492, R516, R519, R546) -/

/-- BUS_RECOVER. -/
def Dev.guardRecover (bus timeout : Nat) (d : Dev) : Refused :=
  refuseIf (decide (timeout < 100) || decide (60000 < timeout)) (rangeErr 1)
    (refuseIf (decide ((d.busOf bus).state ≠ 4)) (guard 6) none)

/-- An object of the host in a direction: 1 send. -/
def Dev.guardObject (bus object : Nat) (d : Dev) : Refused :=
  refuseIf (decide (object < 16) || decide (127 < object)) (rangeErr 1)
    (refuseIf (!bitAt (d.busOf bus).table.dirs (object - 16)) (guard 1) none)

/-- BUS_SEND. -/
def Dev.guardSend (bus object format : Nat) (d : Dev) : Refused :=
  let b := d.busOf bus
  (d.guardObject bus object).or
    (refuseIf (b.sendOf object).isSome (guard 2)
      (refuseIf (!b.running) (guard 3) (refuseIf (!carries b.mode format) (guard 4) (refuseIf b.listen (guard 5) none))))

/-- BUS_READ: the refusals of its reply. -/
def Dev.guardBusRead (bus kind index off count : Nat) (d : Dev) : Refused :=
  let r := d.busRead bus kind index 0 off count
  refuseIf (decide (r.1 ≠ 0)) (some (r.1, r.2.1)) none

/-- BUS_FILTER_LOAD of sections 0 to 2: first index and count inside the section, entries as R519 lays them out. -/
def guardFilter (part first : Nat) (bytes : List Byte) : Refused :=
  if part = 0 then none
  else
    let n := bytes.length / 20
    let rule := decide (part = 2)
    let size := if rule then 64 else 8
    let most := if rule then 48 else 8
    refuseIf (decide (size ≤ first)) (rangeErr 2)
      (refuseIf (decide (n < 1) || decide (most < n) || decide (size < first + n)) (rangeErr 3)
        (refuseIf (!(pieces20 n bytes).all fun e => entryDefined rule e) (some (0x01, []))
          (match (numbered (pieces20 n bytes)).find? fun e => !entryObject rule e.2 with
          | some (j, _) => rangeErr (5 + 7 * j)
          | none => none)))

/-- BUS_FILTER_LOAD, apply. -/
def Dev.guardFilterApply (bus : Nat) (d : Dev) : Refused := refuseIf (!(d.busOf bus).shadowValid) (guard 7) none

/-- CHRON_SET. -/
def Dev.guardChronSet (d : Dev) : Refused := refuseIf d.slaved (guard 1) none

/-! ### Log (R565, R566, R568) -/

/-- A status and data that a query answers with: its refusal, when the status is one. -/
def asRefusal (r : Nat × List Byte) : Refused := if r.1 = 0 then none else some r

/-- TRACE_CAPTURE. -/
def Dev.guardTraceCapture (period pre : Nat) (d : Dev) : Refused :=
  refuseIf d.logFailed (some (0x1B, []))
    (refuseIf (decide (64 < period)) (rangeErr 0)
      (refuseIf (decide (pre = 254)) (rangeErr 1)
        (refuseIf d.log.capture.isSome (guard 1) (refuseIf (decide (1 ≤ d.supply.reef)) (guard 4) none))))

/-- TRACE_PIN. -/
def Dev.guardTracePin (slot action : Nat) (d : Dev) : Refused :=
  refuseIf d.logFailed (some (0x1B, []))
    (refuseIf (decide (511 < slot)) (rangeErr 0)
      (refuseIf (d.traceFree slot) (guard 2)
        (refuseIf (decide (action = 1) && !(traceHdr d.nv.main slot).pinned && decide (d.parN P.LOG_PIN_MAX ≤ d.header.pinned)) (guard 3) none)))

/-- LOG_ERASE. -/
def Dev.guardLogErase (d : Dev) : Refused :=
  refuseIf d.inMotion (some (0x0E, []))
    (refuseIf d.log.capture.isSome (guard 1) (refuseIf (d.bin.isSealed && !d.logFailed) (some (0x19, [])) none))

/-! ### All commands -/

/-- The refusal of a command by its own checks. -/
def Dev.hostGuard (c : HostCmd) (d : Dev) : Refused :=
  match c with
  | .identify => none
  | .status => none
  | .reset => none
  | .park => d.guardPark
  | .dormant => d.guardPark
  | .eventMask _ => none
  | .eventCounts g => refuseIf (decide (5 < g)) (rangeErr 0) none
  | .journalRead => none
  | .fwLoadBegin b n => d.guardFwBegin b n
  | .fwLoadData o bs => d.guardFwData o bs
  | .fwLoadEnd _ => d.guardFwEnd
  | .fwActivate _ => d.guardFwActivate
  | .cancel _ => none
  | .echo _ => none
  | .paramRead _ => none
  | .paramWrite ps => d.guardParamWrite ps
  | .paramGroupStage g vs => d.stageGuard g vs
  | .paramCommit gs => d.commitGuard gs
  | .paramGroupDiscard gs => discardGuard gs
  | .paramInfo i => guardParamInfo i
  | .paramImageSave => none
  | .paramImageRead o n => guardImageRead o n
  | .paramImageLoad o bs => guardImageLoad o bs
  | .paramImageInstall _ => none
  | .paramFactory => none
  | .paramList _ _ => none
  | .doorRelease => d.guardDoor 0x20 0
  | .doorOpen t => d.guardDoor 0x21 t
  | .doorClose t => d.guardDoor 0x22 t
  | .doorHold t => d.guardDoor 0x23 t
  | .doorIsolate => d.guardDoor 0x24 0
  | .doorRestore => d.guardDoor 0x25 0
  | .landfallAnnounce s => d.guardDoor 0x26 s
  | .landfallWithdraw => d.guardDoor 0x27 0
  | .stepDeploy => d.guardDoor 0x28 0
  | .stepRetract => d.guardDoor 0x29 0
  | .maintenanceEnter => d.guardDoor 0x2A 0
  | .maintenanceExit => d.guardDoor 0x2B 0
  | .doorFaultClear => d.guardDoor 0x2C 0
  | .doorState => none
  | .axisHome a => d.guardAxisHome a
  | .axisMove a t => d.guardAxisMove a (toSigned 32 t)
  | .axisStop _ => d.maintOnly none
  | .axisLink _ => d.guardAxisLink
  | .loopMode a m => d.guardLoopMode a m
  | .loopManual a p => d.guardLoopManual a (toSigned 32 p)
  | .injectStart a l p s _ p1 p2 p3 rl rp dec => d.guardInject a l p s p1 p2 p3 rl rp dec
  | .captureRead o n => d.guardCapture o n
  | .axisState _ => none
  | .pilotFlags _ => none
  | .pilotFlagsClear _ _ => none
  | .tableRead t r o n => guardTableRead t r o n
  | .tableWrite t r o es => d.guardTableWrite t r o (es.map (toSigned 16))
  | .latchRead => none
  | .compareArm u a f p => d.guardCompare u a f (toSigned 32 p)
  | .driveStatus => none
  | .skinPortSet p a => d.guardPortSet p a
  | .skinPortStatus _ => none
  | .skinTileList _ => none
  | .skinFrameRead p _ a0 an r0 rn => d.guardFrameRead p a0 an r0 rn
  | .skinBaselineRebuild m => d.guardRebuild m
  | .contactList p k f n => asRefusal (d.contactList p k f n)
  | .obstacleState => none
  | .dragState => none
  | .legacyEdgeStatus => none
  | .lchSet c s => d.guardLchSet c s
  | .lchStatus => none
  | .lchUnlatch _ => none
  | .lchOffTest c => d.guardOffTest c
  | .juryMaskSet p m k => d.juryGuard p m k
  | .juryStatus => none
  | .sealStatus => none
  | .sealConfirm v g => d.guardSeal v g
  | .safeIo => none
  | .safeFunctions => none
  | .telegramStatus => none
  | .binDiag => none
  | .debugEnable => d.guardDebug
  | .busStatus _ => none
  | .busRecover b t => d.guardRecover b t
  | .busSend b o _ f _ _ _ _ _ _ _ => d.guardSend b o f
  | .busRead b k i _ o n => d.guardBusRead b k i o n
  | .busTxCancel b o => d.guardObject b o
  | .busFilterLoad _ p f bs => guardFilter p f bs
  | .busFilterApply b => d.guardFilterApply b
  | .busFilterDiscard _ => none
  | .chronSet _ => d.guardChronSet
  | .chronRead => none
  | .logStatus => none
  | .logRead f n => asRefusal (d.logRead f n)
  | .traceList f n => asRefusal (d.traceList f n)
  | .traceRead s o n => asRefusal (d.traceRead s o n)
  | .traceCapture t p _ => d.guardTraceCapture t p
  | .tracePin s a => d.guardTracePin s a
  | .logErase _ => d.guardLogErase

end Sys2Proof.Machine
end

