-- ==== Sys2Proof/Machine/HostRun.lean ====
section
/-! DEFINITION. What each accepted host command does: queries answer at once, orders take effect at once, begin a job or wait for their boundary; the jobs that end outside the command engine; CANCEL. -/

namespace Sys2Proof.Machine

/-! ### System (R117, R119, R131, R135, R614) -/

/-- "OGD3216" padded to 16 bytes. -/
def partNumber : List Byte := [0x4F#8, 0x47#8, 0x44#8, 0x33#8, 0x32#8, 0x31#8, 0x36#8] ++ List.replicate 9 0#8

/-- The firmware version of a bank, 0 without a valid image. -/
def Dev.bankVersion (n : Nat) (d : Dev) : Nat := let b := d.nv.banks.getD n {}; if b.valid then b.version else 0

/-- The reply data of IDENTIFY. -/
def Dev.identifyData (d : Dev) : List Byte :=
  partNumber ++ u8 Config.grade ++ u8 Config.revision ++ u64 Config.serial ++ u32 (d.bankVersion 0) ++ u32 (d.bankVersion 1)
    ++ u8 (if d.supply.bootRom then 0xFF else d.supply.bank) ++ u8 (bit d.supply.bootRom) ++ u32 d.imageCrc ++ u8 (bit d.bin.isSealed)
    ++ u8 ((d.nv.sealRec.map (·.grade)).getD 0)

/-- The reply data of STATUS. -/
def Dev.statusData (d : Dev) : List Byte :=
  let code (n : Nat) : Nat := if d.ready ∧ ¬ d.supply.bootRom then n else 0xFF
  u8 (code d.door.state) ++ u8 (code d.door.step) ++ u8 d.supply.reef ++ u8 (bitsOf [d.bin.isSealed, d.ready, d.timeValid, d.faultN])
    ++ u8 d.host.flights.length ++ u16 d.host.eventFill

/-- The reply data of EVENT_COUNTS. -/
def Dev.countsData (group : Nat) (d : Dev) : List Byte :=
  let counts (t : List (Nat × Nat)) : List Byte := (List.range 32).flatMap fun i => u16 (sget 0 (32 * group + i) t)
  u8 group ++ counts d.host.masked ++ counts d.host.lost

/-- The journal entries of the commands in flight, in journal sequence order. -/
def Dev.flightEntries (d : Dev) : List JEntry :=
  let age (i : Nat) : Nat := ((d.entry i).seq + 65536 - d.nv.journalWrites % 65536) % 65536
  ((d.host.flights.map (·.slot)).foldl (fun l i => insertBy age i l) []).map d.entry

/-- The reply data of JOURNAL_READ. -/
def Dev.journalData (d : Dev) : List Byte :=
  let es := d.flightEntries
  u8 es.length ++ es.flatMap fun e => u8 e.tag ++ u8 e.opcode ++ u8 e.state ++ u64 e.accept

/-- One firmware bank changed. -/
def Dev.modBank (n : Nat) (f : Bank → Bank) (d : Dev) : Dev := { d with nv := { d.nv with banks := modAt f n d.nv.banks } }

/-- FW_LOAD_BEGIN: the erase of the bank begins; it holds no valid image from now on. -/
def Dev.runFwBegin (bank length slot : Nat) (d : Dev) : Dev :=
  let d := d.modBank bank fun b => { b with valid := false }
  ({ d with fw := some { bank := bank, length := length } } : Dev).addJob slot (.fwErase bank length)

/-- FW_ACTIVATE: the device restarts into the ordered bank, cause bit 8. -/
def Dev.runFwActivate (bank : Nat) (d : Dev) : Dev := ({ d with nv := { d.nv with active := bank } } : Dev).enterReset [8]

/-- The jobs without that of a journal entry. -/
def Dev.dropJob (slot : Nat) (d : Dev) : Dev := { d with host := { d.host with jobs := d.host.jobs.filter fun j => j.slot ≠ slot } }

/-- A cancelled FW_LOAD_DATA may or may not have written its bytes: a free bit (R117 says nothing of them). -/
def Dev.cancelWrite (slot : Nat) (d : Dev) : Dev :=
  let job := d.host.jobs.find? fun j => j.slot = slot
  let (written, d) := d.drawBit
  match job, d.fw with
  | some { job := .fwWrite off data, .. }, some l => if written then d.modBank l.bank fun b => { b with bytes := memStore b.bytes off data } else d
  | _, _ => d

/-- What CANCEL undoes of an order, before the order is answered CANCELLED (R117, R265, R350, R418, R568). -/
def Dev.undoOrder (f : Flight) (d : Dev) : Dev :=
  if f.opcode = 0x08 then { d.dropJob f.slot with fw := none }
  else if f.opcode = 0x09 then (d.cancelWrite f.slot).dropJob f.slot
  else if f.opcode = 0x36 then d.modPilot fun p => { p with inject := none }
  else if f.opcode = 0x44 then d.cancelRebuild
  else if f.opcode = 0x53 then { d with load := { d.load with testOrder := none } }
  else d.endCapture 3

/-- CANCEL (R117). -/
def Dev.runCancel (target slot : Nat) (d : Dev) : Dev :=
  match d.host.flightOf target with
  | some f =>
    if cancellable.contains f.opcode then ((d.undoOrder f).reply f.slot 0x12 []).done slot [] else d.reply slot 0x13 []
  | none => d.reply slot 0x13 []

/-- PARK or DORMANT: the completion reply, then entry once it has left (R87). -/
def Dev.runPark (mode slot : Nat) (d : Dev) : Dev := (d.done slot []).modSupply fun s => { s with parking := some (mode, slot) }

/-! ### Axes, loops and tests (R178, R211, R226, R258 to R267) -/

/-- An axis order is accepted, with progress 1: it waits for the next profile update, row 4 of R191, or row 1 for AXIS_STOP. -/
def Dev.acceptAxis (op axis : Nat) (target : Int) (slot : Nat) (d : Dev) : Dev :=
  (d.progress slot 1).modLeaf fun l => { l with orders := l.orders ++ [(op, slot, axis)], inbox := l.inbox ++ [(op, slot, axis, target)] }

/-- AXIS_HOME starts the homing of an axis. -/
def Dev.runAxisHome (axis slot : Nat) (d : Dev) : Dev :=
  d.acceptAxis 0x30 axis 0 slot

/-- AXIS_MOVE starts a move of an axis. -/
def Dev.runAxisMove (axis : Nat) (target : Int) (slot : Nat) (d : Dev) : Dev :=
  d.acceptAxis 0x31 axis target slot

/-- AXIS_STOP stops one or both axes. -/
def Dev.runAxisStop (axis slot : Nat) (d : Dev) : Dev := d.acceptAxis 0x32 axis 0 slot

/-- AXIS_LINK waits for the next profile update. -/
def Dev.runAxisLink (link slot : Nat) (d : Dev) : Dev := d.modLeaf fun l => { l with orders := l.orders ++ [(0x33, slot, link)] }

/-- The mode of an axis changed. -/
def Dev.modMode (axis : Nat) (f : AxisMode → AxisMode) (d : Dev) : Dev :=
  d.modPilot fun p => if axis = 0 then { p with leafMode := f p.leafMode } else { p with stepMode := f p.stepMode }

/-- LOOP_MODE: a manual mode begins at once and is reported at the next position sample; automatic control returns at it (R258 to R261). An earlier LOOP_MODE of the axis is superseded. -/
def Dev.runLoopMode (axis mode slot : Nat) (d : Dev) : Dev :=
  let m := d.pilot.modeOf axis
  let d := d.replyTo m.modeSlot 0x11 []
  if mode = 0 then
    if m.mode = 0 ∧ m.residual.isEmpty then (d.modMode axis fun m => { m with modeSlot := none }).done slot []
    else if m.mode = 0 then d.modMode axis fun m => { m with modeSlot := some slot }
    else d.modMode axis fun m => { m with toAuto := true, modeSlot := some slot }
  else
    let d := if m.mode = mode then d.modMode axis fun m => { m with toAuto := false } else d.enterManual axis mode
    d.modMode axis fun m => { m with modeSlot := some slot }

/-- The transfer to automatic control at a position sample (R260, R261): the planner takes up the measured state, the loops are preset, and the clamped ones leave a residual. A leaf that moves comes to rest on the trapezoid (R200); the move that the sequencer has ready starts from rest (R192). -/
def Dev.transferToAuto (axis : Nat) (d : Dev) : Dev :=
  let m := d.pilot.modeOf axis
  if m.mode = 0 ∨ ¬ m.toAuto then d
  else
    let d := if axis = 0 then
        let s : Motion := d.measured
        d.modLeaf fun l => { l with
          mode := 2, sp := s, base := s, baseTime := d.now, phases := [], move := none, opening := decide (0 ≤ s.v), fallback := false, fallen := [], stopping := false }
      else d
    let (clamped, d) := d.presetAxis axis
    let d := d.modMode axis fun m => { m with
      mode := 0, toAuto := false, want := 0, point := 0, residual := clamped, modeSlot := if clamped.isEmpty then none else m.modeSlot }
    let d := if axis ≠ 0 then d
      else if d.leaf.sp.v = 0 then d.modLeaf fun l => { l with mode := if l.next.isSome then 4 else 0 }
      else (d.fallBack 4).rampDown false
    if clamped.isEmpty then d.replyTo m.modeSlot 0 [] else d

/-- LOOP_MANUAL: the point moves toward the new set-point; an earlier LOOP_MANUAL not yet reported is superseded (R259). -/
def Dev.runLoopManual (axis : Nat) (point : Int) (slot : Nat) (d : Dev) : Dev :=
  (d.replyTo (d.pilot.modeOf axis).manualSlot 0x11 []).modMode axis fun m => { m with want := point, manualSlot := some slot }

/-- INJECT_START: the signal and the capture begin with the next sample of the loop (R262 to R264). -/
def Dev.runInject (axis loop point signal : Nat) (amplitude : Int) (p1 p2 p3 respLoop respPoint decimation slot : Nat) (d : Dev) : Dev :=
  let j : Injection := {
    axis := axis, loop := loop, point := point, signal := signal, amplitude := amplitude, p1 := p1, p2 := p2, p3 := p3
    respLoop := respLoop, respPoint := respPoint, decimation := decimation, slot := slot, lfsr := 2 ^ p1 - 1 }
  (d.progress slot 1).modPilot fun p => { p with
    inject := some j, capture := [], captureTime := 0, capturePeriod := decimation * us (loopPeriod loop) }

/-- The capture is full: the injection ends DONE (R264). -/
def Dev.injectionDone (d : Dev) : Dev := match d.pilot.inject with
  | some _ => if 4096 ≤ d.pilot.capture.length then d.endInjection 0 0 else d
  | none => d

/-- An injection ends early by an excursion of the leaf, feedback loss or leaving Maintenance (R265). -/
def Dev.injectionAbort (d : Dev) : Dev := match d.pilot.inject with
  | some _ =>
    let away := decide (d.parN P.PILOT_INJECT_WINDOW < (d.leafPos - wholeOf d.leaf.sp.p).natAbs)
    if d.pilot.feedbackLost then d.endInjection 0x14 5
    else if d.door.state ≠ 12 then d.endInjection 0x14 6
    else if away then d.endInjection 0x14 2 else d
  | none => d

/-! ### Skin (R344, R350, R367) -/

/-- SKIN_PORT_SET, suspend: the port's syncs stop, its baselines stay. -/
def Dev.suspendPort (p slot : Nat) (d : Dev) : Dev :=
  let d := d.modPort p fun q => { q with suspended := true, trainStart := none, retryAt := none, rebuild := none, contacts := [], lines := [], candidates := [] }
  let d := (d.endPortOrders p (fun a => a ≠ 0) fun s d => d.reply s 0x11 []).loseRebuild p fun s d => d.reply s 0x11 []
  (d.portState p 6 0).done slot []

/-- SKIN_PORT_SET, resume: the port runs in frames again once two have come whole; a port that was not suspended and runs is done. -/
def Dev.resumePort (p slot : Nat) (d : Dev) : Dev :=
  let q := d.port p
  if q.state = 3 ∨ q.state = 4 then d.done slot []
  else
    let d := d.modSkin fun s => { s with setOrders := s.setOrders ++ [(p, 1, slot)] }
    if q.state ≠ 6 then d
    else if q.tiles.isEmpty ∨ q.baselines = 0 then d.startTraining p
    else (d.modPort p fun q => { q with suspended := false, goodFrames := 0 }).portState p 1 0

/-- SKIN_PORT_SET, retrain. -/
def Dev.retrainPort (p slot : Nat) (d : Dev) : Dev :=
  ((d.modSkin fun s => { s with setOrders := s.setOrders ++ [(p, 2, slot)] }).loseRebuild p fun s d => d.reply s 0x11 []).startTraining p

/-- SKIN_BASELINE_REBUILD; one that names no port is done at once. -/
def Dev.runRebuild (mask slot : Nat) (d : Dev) : Dev :=
  if portsOf mask = [] then d.done slot (u16 0 ++ u16 0 ++ u16 0)
  else (portsOf mask).foldl (fun d p => d.startRebuild p) (d.modSkin fun s => { s with rebuildOrder := some (mask, slot) })

/-! ### Bus (R504 to R506, R512, R519) -/

/-- BUS_RECOVER: the controller counts; its timeout runs. -/
def Dev.runRecover (bus timeout slot : Nat) (d : Dev) : Dev :=
  let d := (d.setBus bus { d.busOf bus with recover := some (slot, d.now + ms timeout) }).progress slot 1
  d.busState bus 5

/-- The controller has counted 128 recessive sequences (R512). -/
def Dev.recoveryDone (bus : Nat) (d : Dev) : Dev :=
  let b := d.busOf bus
  if b.state ≠ 5 then d
  else (((d.setBus bus { b with txErr := 0, rxErr := 0, warning := false }).busState bus 2).endRecover bus 0)

/-- The timeout of BUS_RECOVER passes (R512). -/
def Dev.recoverLate (bus : Nat) (d : Dev) : Dev :=
  match (d.busOf bus).recover with
  | some (_, t) => if d.now < t then d else ((if (d.busOf bus).state = 5 then d.busState bus 4 else d).endRecover bus 1)
  | none => d

/-- BUS_SEND: the frame is pending, eligible at once, with progress 1 and then 2 (R504, R505). -/
def Dev.runSend (bus object : Nat) (frame : Frame) (lifetime slot : Nat) (d : Dev) : Dev :=
  let b := d.busOf bus
  let s : SendObject := {
    object := object, frame := frame, slot := slot, deadline := if lifetime = 0 then none else some (d.now + ms lifetime) }
  ((d.setBus bus { b with sends := b.sends ++ [s] }).progress slot 1).progress slot 2

/-- BUS_TX_CANCEL (R506). -/
def Dev.runTxCancel (bus object slot : Nat) (d : Dev) : Dev :=
  let b := d.busOf bus
  match b.sendOf object with
  | none => d.reply slot 0x13 []
  | some s =>
    if b.committed = some object then
      let d := d.replyTo s.cancel 0x11 []
      let b := d.busOf bus
      d.setBus bus { b with sends := b.sends.map fun e => if e.object = object then { e with cancel := some slot } else e }
    else d.cancelSend bus s slot 0x00

/-- The lifetime of a host frame passes uncommitted (R504). -/
def Dev.lifetimeOver (bus object : Nat) (d : Dev) : Dev :=
  let b := d.busOf bus
  match b.sendOf object with
  | some s => match s.deadline with
    | some t => if d.now < t ∨ b.committed = some object then d else d.endSend bus s 1 3 d.chron.time
    | none => d
  | none => d

/-- BUS_FILTER_LOAD of sections 0 to 2: the shadow takes the section. -/
def Dev.loadFilter (bus part first : Nat) (bytes : List Byte) (d : Dev) : Dev :=
  let b := d.busOf bus
  let t := b.shadowTable
  let entries := pieces20 (bytes.length / 20) bytes
  let t : BusTable :=
    if part = 0 then { t with dirs := leNat (bytes.take 14), events := leNat ((bytes.drop 14).take 14) }
    else if part = 1 then { t with prios := putEntries first entries t.prios }
    else { t with rules := putEntries first entries t.rules }
  d.setBus bus { b with shadow := some t }

/-- CHRON_SET: DONE with the size of the step. -/
def Dev.runChronSet (time slot : Nat) (d : Dev) : Dev :=
  let step : Int := (time : Int) - d.chron.time
  (d.chronSet time).done slot (i64 step)

/-! ### Log (R565, R568) -/

/-- TRACE_CAPTURE; without a slot to write into it ends as a capture that could not begin. -/
def Dev.runTraceCapture (period pre pin slot : Nat) (d : Dev) : Dev :=
  let period := if period = 0 then d.parN P.LOG_TRACE_PERIOD else period
  let pre := if pre = 255 then d.parN P.LOG_TRACE_PRE else pre
  let d := (d.progress slot 1).startCapture 11 65535 d.chron.time period pre (decide (pin = 1)) (some slot)
  if d.log.capture.isSome then d else d.abort (some slot) 2

/-- A trace slot is pinned or unpinned by the host (R565). -/
def Dev.runTracePin (slot action order : Nat) (d : Dev) : Dev :=
  let t := traceHdr d.nv.main slot
  let keep := d.nv.traceOrder
  let h := d.header
  let d := d.putTrace slot { t with pinned := decide (action = 1), byHost := decide (action = 1), anomaly := t.anomaly && decide (action = 1) }
  let d : Dev := { d with nv := { d.nv with traceOrder := keep } }
  let d := if action = 1 ∧ ¬ t.pinned then d.putHeader { h with pinned := h.pinned + 1 }
    else if action = 0 ∧ t.pinned then d.putHeader { h with pinned := h.pinned - 1 } else d
  d.done order []

/-! ### Every command -/

/-- A query's answer: status and data. -/
def Dev.answer (slot : Nat) (r : Nat × List Byte) (d : Dev) : Dev := d.reply slot r.1 r.2

/-- An accepted command runs; `slot` is its journal entry. -/
def Dev.hostRun (c : HostCmd) (slot : Nat) (d : Dev) : Dev :=
  match c with
  | .identify => d.done slot d.identifyData
  | .status => d.done slot d.statusData
  | .reset => d.enterReset [2]
  | .park => d.runPark 1 slot
  | .dormant => d.runPark 2 slot
  | .eventMask m => ({ d with host := { d.host with mask := BitVec.ofNat 192 m } } : Dev).done slot []
  | .eventCounts g => d.done slot (d.countsData g)
  | .journalRead => d.done slot d.journalData
  | .fwLoadBegin b n => d.runFwBegin b n slot
  | .fwLoadData o bs => d.addJob slot (.fwWrite o bs)
  | .fwLoadEnd crc => d.addJob slot (.fwVerify crc)
  | .fwActivate b => d.runFwActivate b
  | .cancel t => d.runCancel t slot
  | .echo bs => d.done slot bs
  | .paramRead ids => d.done slot (ids.flatMap d.paramEntry)
  | .paramWrite ps => d.paramWrite slot ps
  | .paramGroupStage g vs => (d.stage g vs).done slot (stageReply g 0xFF)
  | .paramCommit gs => d.commit slot gs
  | .paramGroupDiscard gs => (d.discard gs).done slot []
  | .paramInfo i => d.done slot (((paramDef? i).map paramInfo).getD [])
  | .paramImageSave => d.addJob slot .imageSave
  | .paramImageRead o n => d.done slot (u32 o ++ u16 n ++ ((imageBytes d.storedValues).drop o).take n)
  | .paramImageLoad o bs => ({ d with prm := { d.prm with buffer := loadBuffer o bs d.prm.buffer } } : Dev).done slot []
  | .paramImageInstall crc => d.installImage slot crc
  | .paramFactory => d.addJob slot .factory
  | .paramList b s => d.done slot (paramList b s)
  | .doorRelease => d.acceptDoor 0x20 0 slot
  | .doorOpen t => d.acceptDoor 0x21 t slot
  | .doorClose t => d.acceptDoor 0x22 t slot
  | .doorHold t => d.acceptDoor 0x23 t slot
  | .doorIsolate => d.acceptDoor 0x24 0 slot
  | .doorRestore => d.acceptDoor 0x25 0 slot
  | .landfallAnnounce s => d.acceptDoor 0x26 s slot
  | .landfallWithdraw => d.acceptDoor 0x27 0 slot
  | .stepDeploy => d.acceptDoor 0x28 0 slot
  | .stepRetract => d.acceptDoor 0x29 0 slot
  | .maintenanceEnter => d.acceptDoor 0x2A 0 slot
  | .maintenanceExit => d.acceptDoor 0x2B 0 slot
  | .doorFaultClear => d.acceptDoor 0x2C 0 slot
  | .doorState => d.done slot d.doorState
  | .axisHome a => d.runAxisHome a slot
  | .axisMove a t => d.runAxisMove a (toSigned 32 t) slot
  | .axisStop a => d.runAxisStop a slot
  | .axisLink l => d.runAxisLink l slot
  | .loopMode a m => d.runLoopMode a m slot
  | .loopManual a p => d.runLoopManual a (toSigned 32 p) slot
  | .injectStart a l p s amp p1 p2 p3 rl rp dec => d.runInject a l p s (toSigned 32 amp) p1 p2 p3 rl rp dec slot
  | .captureRead o n => d.done slot (d.captureRead o n)
  | .axisState a => d.done slot (d.axisState a)
  | .pilotFlags a => d.done slot (d.pilotFlags a)
  | .pilotFlagsClear a m => d.modPilot fun p => { p with flagClears := p.flagClears ++ [(a, m, slot)] }
  | .tableRead t r o n => d.done slot (d.tableRead t r o n)
  | .tableWrite t r o es => d.modPilot fun p => { p with tableWrites := p.tableWrites ++ [(t, r, o, es.map (toSigned 16), slot)] }
  | .latchRead => d.done slot d.latchRead
  | .compareArm u a f p => d.modSext fun s => { s with arms := s.arms ++ [(u, a, f, toSigned 32 p, slot)] }
  | .driveStatus => d.done slot d.driveStatus
  | .skinPortSet p a => if a = 0 then d.suspendPort p slot else if a = 1 then d.resumePort p slot else d.retrainPort p slot
  | .skinPortStatus p => d.done slot (d.portStatus p)
  | .skinTileList p => d.done slot (d.tileList p)
  | .skinFrameRead p m a0 an r0 rn => d.done slot (d.frameRead p m a0 an r0 rn)
  | .skinBaselineRebuild m => d.runRebuild m slot
  | .contactList p k f n => d.answer slot (d.contactList p k f n)
  | .obstacleState => d.done slot d.obstacleState
  | .dragState => d.done slot d.dragState
  | .legacyEdgeStatus => d.done slot d.edgeStatus
  | .lchSet ch st => (d.lchSet ch st).done slot []
  | .lchStatus => d.done slot d.lchStatus
  | .lchUnlatch ch => let r := Dev.unlatch ch (List.range 12) d; r.2.refreshLoads.done slot (u16 r.1)
  | .lchOffTest ch => d.lchOffTest slot ch
  | .juryMaskSet p m k => d.addJob slot (.juryWrite (juryWrites p m k) [])
  | .juryStatus => d.done slot d.juryStatus
  | .sealStatus => d.done slot d.sealStatus
  | .sealConfirm v _ => d.addJob slot (.sealStore v)
  | .safeIo => d.done slot d.safeIo
  | .safeFunctions => d.done slot d.safeFunctions
  | .telegramStatus => d.done slot d.telegramStatus
  | .binDiag => d.done slot d.binDiag
  | .debugEnable => (d.modBin fun b => { b with debug := true }).done slot []
  | .busStatus b => d.done slot (d.busStatus b)
  | .busRecover b t => d.runRecover b t slot
  | .busSend b o i f sdt vc sec af n life bs =>
    d.runSend b o { ident := i, format := f, sdt := sdt, vcid := vc, sec := decide (sec = 1), af := af, length := n, data := bs } life slot
  | .busRead b k i c o n => let r := d.busRead b k i c o n; r.2.2.answer slot (r.1, r.2.1)
  | .busTxCancel b o => d.runTxCancel b o slot
  | .busFilterLoad b p f bs => (d.loadFilter b p f bs).done slot []
  | .busFilterApply b => (d.setBus b (d.busOf b).applyShadow).done slot []
  | .busFilterDiscard b => (d.setBus b { d.busOf b with shadow := none }).done slot []
  | .chronSet t => d.runChronSet t slot
  | .chronRead => d.done slot d.chronRead
  | .logStatus => d.done slot d.logStatus
  | .logRead f n => d.answer slot (d.logRead f n)
  | .traceList f n => d.answer slot (d.traceList f n)
  | .traceRead s o n => d.answer slot (d.traceRead s o n)
  | .traceCapture t p k => d.runTraceCapture t p k slot
  | .tracePin s a => d.runTracePin s a slot
  | .logErase w => d.addJob slot (.logErase w)

/-! ### Jobs (R114, R119, R127, R324, R427, R479, R568) -/

/-- FW_LOAD_END: the image read back and its CRC compared. -/
def Dev.verifyImage (crc slot : Nat) (d : Dev) : Dev := match d.fw with
  | none => d.reply slot 0x1F []
  | some l =>
    let b := d.nv.banks.getD l.bank {}
    let d : Dev := { d with fw := none }
    if crc32c (memLoad b.bytes 0 l.length) = crc ∧ Config.imageHeader l.length crc then
      let d := d.modBank l.bank fun b => { b with valid := true, version := Config.fwVersion l.length crc, length := l.length, crc := crc }
      (d.raise 18 0 l.bank (u32 l.length ++ u32 crc)).done slot []
    else d.reply slot 0x1F []

/-- A job ends; `ok` says that the flash, the smart-power die or the memory took what was written. -/
def Dev.endJob (slot : Nat) (job : Job) (ok : Bool) (d : Dev) : Dev :=
  let flash : Dev := d.reply slot 0x1E []
  match job with
  | .fwErase bank _ =>
    if ok then (d.modBank bank fun b => { b with bytes := [] }).done slot [] else ({ d with fw := none } : Dev).reply slot 0x1E []
  | .fwWrite off data => match d.fw with
    | some l => if ok then (d.modBank l.bank fun b => { b with bytes := memStore b.bytes off data }).done slot [] else flash
    | none => flash
  | .fwVerify crc => if ok then d.verifyImage crc slot else flash
  | .imageSave => if ok then let d := d.saveImage; d.done slot (u32 d.imageCrc) else flash
  | .imageInstall values => if ok then ({ d with nv := { d.nv with image := some values } } : Dev).done slot [] else flash
  | .factory => if ok then d.factoryImage.done slot [] else flash
  | .juryWrite ws gs => d.juryWritten slot ws gs ok
  | .sealStore value => if ok then (d.sealNow value).done slot [] else flash
  | .logErase what => if ok then (d.eraseLog what).done slot [] else (d.failLog 0).reply slot 0x1B []
  | .bridgeCheck step =>
    if step then
      if ok then
        let d := if d.drive.stepA.latched then d.clearBridge 1 else d
        let d := if d.drive.stepB.latched then d.clearBridge 2 else d
        d.beginRetract
      else d.endStepOrder fun s d => d.reply s 0x0F (u8 8)
    else if ok then (d.clearBridge 0).clearFaulted (some slot) else d.reply slot 0x0F (u8 10)

/-- ORDER_COMPLETED: the job of the order with a tag ends. -/
def Dev.orderCompleted (tag : Nat) (ok : Bool) (d : Dev) : Dev :=
  match d.host.flightOf tag with
  | none => d
  | some f => match d.host.jobs.find? fun j => j.slot = f.slot with
    | none => d
    | some j => (d.dropJob f.slot).endJob f.slot j.job ok

end Sys2Proof.Machine
end

