-- ==== Sys2Proof/Machine/HostOps.lean ====
section
/-! DEFINITION. How packets reach the command engine and leave it: acceptance in the order of R111, SPI transactions, CAN segments, the host channel (R98 to R116, R138). -/

namespace Sys2Proof.Machine

/-! ### Acceptance (R111 to R113, R120) -/

/-- A packet whose header passed its check, as received. -/
structure InPacket where
  opcode : Nat
  tag : Nat
  flags : Nat := 0
  /-- The reserved byte at offset 6. -/
  reserved : Nat := 0
  length : Nat
  body : List Byte
  /-- The body check as received. -/
  check : Nat := 0
  /-- Every byte that Length announces has arrived. -/
  complete : Bool := true
  deriving DecidableEq, Repr

/-- The command of a packet, or the status of R111's checks on length, body check, reserved fields, body format and opcode. -/
def InPacket.command (p : InPacket) : Except Nat HostCmd :=
  if 1024 < p.length then .error 0x01
  else if ¬ p.complete then .error 0x03
  else if p.body ≠ [] ∧ p.check ≠ crc32c p.body then .error 0x02
  else if p.reserved ≠ 0 ∨ 1 < p.flags then .error 0x01
  else if ¬ knownOpcode p.opcode then .error 0x04
  else match parseBody p.opcode p.body with
    | some c => if encodingOk c then .ok c else .error 0x01
    | none => .error 0x01

/-- Opcodes that the device accepts in the boot ROM, and from step 8 to step 13 (R120). -/
def Dev.openFor (op : Nat) (d : Dev) : Bool :=
  if d.supply.bootRom then [0x00, 0x01, 0x08, 0x09, 0x0A, 0x0B].contains op
  else d.ready || [0x00, 0x01].contains op

/-- The refusal of a well-formed command: readiness, in-flight limit, tag, then its own checks (R111, R112, R120). -/
def Dev.refusal (p : InPacket) (c : HostCmd) (d : Dev) : Refused :=
  refuseIf (!d.openFor p.opcode) (some (0x05, []))
    (refuseIf (decide (32 ≤ d.host.flights.length)) (some (0x06, []))
      (refuseIf (d.host.flights.any fun f => decide (f.tag = p.tag)) (some (0x07, [])) (d.hostGuard c)))

/-- A command enters the in-flight state: its journal entry in state 2, and noted where the host asks (R102). -/
def Dev.entered (p : InPacket) (slot : Nat) (d : Dev) : Dev :=
  let d := d.putEntry slot { d.entry slot with state := 2 }
  let d : Dev := { d with host := { d.host with flights := d.host.flights ++ [{ slot := slot, tag := p.tag, opcode := p.opcode }] } }
  if bitAt p.flags 0 ∧ ¬ queryOpcodes.contains p.opcode then d.raise 3 0 0xFF (u8 p.tag ++ u8 p.opcode) else d

/-- A command is accepted: in flight, and run. -/
def Dev.accept (p : InPacket) (c : HostCmd) (slot : Nat) (d : Dev) : Dev := (d.entered p slot).hostRun c slot

/-- The journal entry of a packet at its receipt (R129). -/
def InPacket.entry (p : InPacket) (time : Nat) : JEntry :=
  { state := 1, opcode := p.opcode, tag := p.tag, flags := p.flags, length := p.length, accept := time, change := time, bodyCheck := p.check }

/-- A valid packet restarts the host timeout and ends "host silent" (R138). -/
def Dev.heardHost (p : InPacket) (d : Dev) : Dev :=
  if p.complete ∧ p.length ≤ 1024 ∧ (p.body = [] ∨ p.check = crc32c p.body) then
    ({ d with host := { d.host with lastValid := d.now } } : Dev).clearing 8 0xFF (u32 (d.parN P.SYS_HOST_TIMEOUT))
  else d

/-- A packet is received: journalled, checked, and refused or accepted (R111, R130). Without a free entry it is dropped. -/
def Dev.receive (p : InPacket) (d : Dev) : Dev :=
  if ¬ d.host.isOpen then d
  else
    let d := d.heardHost p
    match d.freeEntry with
    | none => d.raise 5 1 0xFF (u16 p.length)
    | some slot =>
      let d := d.putEntry slot (p.entry d.chron.time)
      match p.command with
      | .error status => d.reply slot status []
      | .ok c => match d.refusal p c with
        | some (status, data) => d.reply slot status data
        | none => d.accept p c slot

/-- The packet that carries a command. -/
def packetOf (h : CmdHead) (c : HostCmd) : InPacket :=
  let body := encodeBody c
  { opcode := opcodeOf c, tag := h.tag.toNat, flags := bit h.note, length := body.length, body := body
    check := if body = [] then 0 else crc32c body }

/-- A host command arrives in a packet of its own on the host channel. -/
def Dev.hostCommand (h : CmdHead) (c : HostCmd) (d : Dev) : Dev := d.receive (packetOf h c)

/-! ### Packets as bytes (R100, R101, R105) -/

/-- Bytes that begin with a header that passes its check. -/
def headerOk (bs : List Byte) : Bool :=
  decide (8 ≤ bs.length) && decide (fieldAt 0 1 bs = 0xA5) && decide (crc8 (bs.take 7) = fieldAt 7 1 bs)

/-- Bytes of the whole packet whose header this is. -/
def packetLength (bs : List Byte) : Nat := let n := fieldAt 4 2 bs; if n = 0 then 8 else 12 + n

/-- The packet at the front of some bytes; cut short where they end before it does. -/
def packetAt (bs : List Byte) : InPacket :=
  let n := fieldAt 4 2 bs
  let whole := decide (packetLength bs ≤ bs.length)
  { opcode := fieldAt 1 1 bs, tag := fieldAt 2 1 bs, flags := fieldAt 3 1 bs, reserved := fieldAt 6 1 bs, length := n
    body := if whole ∧ n ≤ 1024 then (bs.drop 8).take n else []
    check := if whole ∧ n ≠ 0 ∧ n ≤ 1024 then fieldAt (8 + n) 4 bs else 0
    complete := whole || decide (1024 < n) }

/-- Bytes that are one packet arrive whole. Bytes that begin without a sync are fill. -/
def Dev.packetBytes (bs : List Byte) (d : Dev) : Dev :=
  if ¬ d.host.isOpen ∨ bs.length < 8 ∨ fieldAt 0 1 bs ≠ 0xA5 then d
  else if ¬ headerOk bs then d.raise 4 1 0xFF []
  else d.receive (packetAt bs)

/-! ### SPI (R104 to R107) -/

/-- Bytes in the inbound buffer (R107). -/
abbrev inboundSize : Nat := 4144

/-- The inbound SPI bytes are taken apart into packets. `room` is what is left of the inbound buffer; a packet that does not fit is dropped, with an event (R107). -/
def Dev.deframe : Nat → Nat → List Byte → Dev → List Byte × Dev
  | 0, _, bs, d => (bs, d)
  | n + 1, room, bs, d =>
    match bs with
    | [] => ([], d)
    | b :: rest =>
      if b ≠ 0xA5#8 then deframe n room rest d
      else if bs.length < 8 then (bs, d)
      else if ¬ headerOk bs then deframe n room rest (d.raise 4 1 0xFF [])
      else
        let long := decide (1024 < fieldAt 4 2 bs)
        let size := if long then 8 else packetLength bs
        if bs.length < size then (bs, d)
        else if room < size then deframe n room (bs.drop size) (d.raise 5 1 0xFF (u16 (fieldAt 4 2 bs)))
        else deframe n (room - size) (bs.drop size) (d.receive (packetAt bs))

/-- An inbound SPI packet that has stood still for more than 50 ms is dropped (R106). -/
def Dev.dropSpi (d : Dev) : Dev :=
  let bs := d.host.spiIn
  if bs = [] ∨ d.now - d.host.spiLast ≤ ms 50 then d
  else
    let d : Dev := { d with host := { d.host with spiIn := [] } }
    if 8 ≤ bs.length then d.receive (packetAt bs) else d.raise 6 1 0xFF (u8 6)

/-- `n` outbound bytes leave: packets back to back, then fill (R105, R106). -/
def Dev.shiftOut : Nat → Nat → Dev → List Byte × Dev
  | 0, n, d => (List.replicate n 0#8, d)
  | k + 1, n, d =>
    match d.host.out with
    | [] => (List.replicate n 0#8, d)
    | p :: _ =>
      let rest := p.bytes.drop d.host.outPos
      if n = 0 then ([], d)
      else if rest.length ≤ n then
        let (bs, d) := shiftOut k (n - rest.length) d.packetLeft
        (rest ++ bs, d)
      else (rest.take n, { d with host := { d.host with outPos := d.host.outPos + n } })

/-- The SPI interface runs: the host interface is open and SPI is its channel. -/
def Dev.spiRuns (d : Dev) : Bool := d.host.isOpen && decide (d.host.chan.channel = 0)

/-- One SPI transaction with the bytes the host shifts in: the status byte and outbound bytes leave, the first host byte is ignored and the others are taken (R104 to R106). -/
def Dev.spiTransaction (bytes : List Byte) (d : Dev) : Dev :=
  if ¬ d.host.isOpen then d
  else
    let status := BitVec.ofNat 8 d.spiStatus
    let d : Dev := { d with host := { d.host with selected := true } }
    if ¬ d.spiRuns then { d with host := { d.host with spiOut := (status :: List.replicate (bytes.length - 1) 0#8).take bytes.length } }
    else
      let d := d.dropSpi
      let (out, d) := Dev.shiftOut d.host.out.length (bytes.length - 1) d
      let d : Dev := { d with host := { d.host with spiOut := (status :: out).take bytes.length } }
      let fresh := bytes.drop 1
      let all := d.host.spiIn ++ fresh
      let (rest, d) := Dev.deframe all.length inboundSize all { d with host := { d.host with spiIn := [] } }
      let d : Dev := { d with host := { d.host with spiIn := rest, spiLast := if fresh = [] then d.host.spiLast else d.now } }
      d.judgePark

/-- SCS_N rises (R106). -/
def Dev.spiEnd (d : Dev) : Dev := { d with host := { d.host with selected := false } }

/-! ### CAN segments (R108 to R111, R493) -/

/-- The packet being joined is dropped for a reason: INCOMPLETE where its header was complete and passed, else "segment error". -/
def Dev.dropSegments (reason : Nat) (d : Dev) : Dev := match d.host.reasm with
  | none => d
  | some r =>
    let d : Dev := { d with host := { d.host with reasm := none } }
    if headerOk r.bytes then d.receive { packetAt r.bytes with complete := false, body := [], check := 0 } else d.raise 6 1 0xFF (u8 reason)

/-- The packet being joined after one more segment: a bad header, one too long, the last segment, or more to come. -/
def Dev.judgeSegments (last : Bool) (r : Reassembly) (d : Dev) : Dev :=
  let hold (d : Dev) : Dev := { d with host := { d.host with reasm := none, dropSeq := some r.seq } }
  if 8 ≤ r.bytes.length ∧ ¬ headerOk r.bytes then (hold d).raise 4 1 0xFF []
  else if 8 ≤ r.bytes.length ∧ 1024 < fieldAt 4 2 r.bytes then (hold d).receive (packetAt r.bytes)
  else if ¬ last then { d with host := { d.host with reasm := some r } }
  else
    let d : Dev := { d with host := { d.host with reasm := none } }
    if 8 ≤ r.bytes.length then d.receive (packetAt r.bytes) else d.raise 6 1 0xFF (u8 1)

/-- A First segment begins a packet; its sequence is one more than that of the packet before, or the gap is reported (R110). -/
def Dev.firstSegment (n seq : Nat) (last : Bool) (part : List Byte) (d : Dev) : Dev :=
  let d := d.dropSegments 3
  let d := match d.host.prevSeq with
    | some p => if seq = (p + 1) % 256 then d else d.raise 7 1 0xFF (u8 ((p + 1) % 256) ++ u8 seq)
    | none => d
  let d : Dev := { d with host := { d.host with prevSeq := some seq, dropSeq := none } }
  if n ≠ 0 then d.raise 6 1 0xFF (u8 1) else d.judgeSegments last { bytes := part, next := 1, seq := seq, last := d.now }

/-- A further segment joins the packet, or ends it for a wrong number or sequence. -/
def Dev.nextSegment (n seq : Nat) (last : Bool) (part : List Byte) (d : Dev) : Dev := match d.host.reasm with
  | none => d
  | some r =>
    if seq ≠ r.seq then d.dropSegments 2
    else if n ≠ r.next then d.dropSegments 1
    else d.judgeSegments last { r with bytes := r.bytes ++ part, next := r.next + 1, last := d.now }

/-- More than 20 ms have passed between two segments (R110). -/
def Dev.segmentGap (d : Dev) : Dev := match d.host.reasm with
  | some r => if ms 20 < d.now - r.last then d.dropSegments 4 else d
  | none => d

/-- A frame with the host's identifier reaches the host interface on its controller. -/
def Dev.segmentIn (format : Nat) (data : List Byte) (d : Dev) : Dev :=
  if ¬ d.host.isOpen ∨ d.host.chan.channel = 0 then d
  else
    let d := d.segmentGap
    let fits := if d.host.chan.format = 1 then decide (format = 4) else decide (format = 2) || decide (format = 3)
    if ¬ fits ∨ data.length < 2 then d.raise 6 1 0xFF (u8 5)
    else
      let head := fieldAt 0 1 data
      let seq := fieldAt 1 1 data
      let part := data.drop 2
      if bitAt head 7 then d.firstSegment (head % 64) seq (bitAt head 6) part
      else if d.host.dropSeq = some seq then d
      else d.nextSegment (head % 64) seq (bitAt head 6) part

/-! ### The channel and its timeout (R99, R138, R183) -/

/-- The reply of the commit has left on the old settings: the new channel is in force (R99). -/
def Dev.switchChannel (d : Dev) : Dev := match d.host.chanSwitch with
  | none => d
  | some (c, slot) =>
    if d.host.flights.any fun f => f.slot = slot then d
    else
      let d : Dev := { d with host := { d.host with chan := c, chanSwitch := none, spiIn := [], reasm := none, outPos := 0 } }
      (d.busApply 0).busApply 1

/-- No valid packet for SYS_HOST_TIMEOUT (R138, R183). -/
def Dev.hostSilent (d : Dev) : Dev :=
  let t := d.parN P.SYS_HOST_TIMEOUT
  if ¬ d.host.isOpen ∨ t = 0 ∨ d.now - d.host.lastValid < ms t ∨ d.host.stands 8 0xFF then d
  else
    let d := d.onset 8 2 0xFF (u32 t)
    if d.ready then d.silentClose else d

/-- Packets leave up to and including the next reply (R130). -/
def Dev.replySent (d : Dev) : Dev := (Dev.sendUpTo d.host.out.length d).judgePark

end Sys2Proof.Machine
end

