-- ==== Sys2Proof/Machine/EventOps.lean ====
section
/-! DEFINITION. The events that join several blocks or that only a timer brings: when a row may act, frames routed to their layer, the time master's timers, casts, and the timers of the loads, the ports and Binnacle. -/

namespace Sys2Proof.Machine

/-! ### When a row may act -/

/-- Acts only past step 10 of start-up, while the controller runs (R84). -/
def Dev.whenLive (f : Dev → Dev) (d : Dev) : Dev := if d.live then f d else d

/-- Acts while the smart-power die is supplied, the controller running or not (R60, R68). -/
def Dev.whenPower (f : Dev → Dev) (d : Dev) : Dev := if d.supply.vhv then f d else d

/-- Acts only once the device is ready: the sequencer runs (R84, R146). -/
def Dev.whenReady (f : Dev → Dev) (d : Dev) : Dev := if d.ready ∧ d.live then f d else d

/-- Acts only while Binnacle runs, from step 9 on (R84). -/
def Dev.whenBin (f : Dev → Dev) (d : Dev) : Dev := if d.binRuns then f d else d

/-- Acts on one of the two controllers, which start at step 7 (R514, R515). -/
def Dev.whenBus (x : Nat) (f : Dev → Dev) (d : Dev) : Dev := if x ≤ 1 ∧ 7 ≤ d.supply.step then f d else d

/-! ### Resets (R79, R82) -/

/-- The application watchdog is not serviced; the firmware runs from step 4 on. -/
def Dev.watchdog (d : Dev) : Dev := if 4 ≤ d.supply.step then d.resetIfRunning [3] else d

/-- A clock of bit 3 of R466 fails and the device resets with a cause: 4 the main clock, 9 the Binnacle RC. -/
def Dev.clockFails (cause : Nat) (d : Dev) : Dev :=
  if 2 ≤ d.supply.step then (if d.binRuns then d.classAFault 3 else d).resetIfRunning [cause] else d

/-- A reset from the debug port while it is enabled (R27, R82). -/
def Dev.debugReset (d : Dev) : Dev := if d.bin.debug then d.resetIfRunning [7] else d

/-! ### Leader and standstill (R38, R209) -/

/-- No pass-through edge within three times the interval that the follower's own profile predicts, and never sooner than 5 ms (R38). -/
def Dev.leaderOverdue (d : Dev) : Bool :=
  let age := d.now - d.sext.ptTime
  let (own, _) := runPhases d.now d.leaf.ownBase d.leaf.ownTime d.leaf.own
  let v := (wholeOf own.v).natAbs
  decide (ms 5 ≤ age) && decide (3 * d.parN P.PLAN_FOLLOW_RATIO * d.parN P.SEXT_UM_PER_EDGE * 100000000 < age * v * 65536)

/-- LEADER_LOST: 1 edge overdue, 2 illegal pass-through state, 3 leader wait expired. -/
def Dev.leaderLostRow (reason : Nat) (d : Dev) : Dev :=
  if reason = 1 then (if d.leaderOverdue then d.leaderLost 1 else d)
  else if reason = 2 then (if d.sext.ptSector.isNone then d.leaderLost 2 else d)
  else if reason = 3 then d.leaderWaitOver
  else d

/-- The current limit of a leaf that stands still begins to fall (R209). -/
def Dev.leafReduces (d : Dev) : Dev := if d.mayReduce then d.modLeaf fun l => { l with reduced := true, reduceFrom := d.now } else d

/-- The step's current drops to its hold (R210). -/
def Dev.stepReduces (d : Dev) : Dev := if d.par P.SYS_STEP_FITTED = 1 then d.stepHold else d

/-- A Hall edge is overdue: feedback is lost (R247, R248). -/
def Dev.hallOverdue (d : Dev) : Dev := if d.edgeOverdue then d.lostFeedback 1 else d

/-! ### Skin ports (R344, R361) -/

/-- A port's link fails, or all of its tiles have faulted. -/
def Dev.portFails (p cause : Nat) (d : Dev) : Dev :=
  let q := d.port p
  if 2 < p ∨ d.portLink p = 0 ∨ q.state = 0 then d
  else if cause = 1 ∨ cause = 2 then d.portFault p cause
  else if cause = 3 ∧ q.state ≠ 5 ∧ ¬ q.tiles.isEmpty ∧ q.tiles.all (fun t => t.faults ≠ 0) then d.portState p 5 3
  else d

/-- Training of an enabled port ends with what it found. -/
def Dev.portTrained (p : Nat) (found : TrainIn) (d : Dev) : Dev := if 2 < p ∨ d.portLink p = 0 then d else d.endTraining p found

/-- A faulted port trains again 100 ms after its fault. -/
def Dev.portRetrain (p : Nat) (d : Dev) : Dev := match (d.port p).retryAt with
  | some t => if d.portLink p = 0 ∨ d.now < t then d else d.startTraining p
  | none => d

/-! ### Load timers (R412 to R414) -/

/-- A retry pause ends. -/
def Dev.pauseEnds (n : Nat) (d : Dev) : Dev := match (d.ch n).pauseEnd with
  | some t => if d.now < t then d else (d.modCh n fun c => { c with pauseEnd := none }).refreshLoads
  | none => d

/-- A channel has conducted for 1 s without a trip. -/
def Dev.triesReset (n : Nat) (d : Dev) : Dev :=
  if (d.ch n).on ∧ sec 1 ≤ d.now - (d.ch n).onSince then d.modCh n fun c => { c with tries := 0 } else d

/-- The junction has fallen to 160 °C. -/
def Dev.thermalEnds (n : Nat) (temp : Int) (d : Dev) : Dev :=
  if (d.ch n).thermal ∧ temp ≤ 1600 then (d.modCh n fun c => { c with thermal := false, temp := temp }).refreshLoads else d

/-! ### Binnacle (R439, R448, R466) -/

/-- A safety tick: parameter writes that wait for it, the functions of Binnacle, REFSW for Sextant, and VHV as measured. -/
def Dev.tick (seen : TickIn) (d : Dev) : Dev :=
  let d := (d.takeWrites 3).safetyTick seen
  let was := d.step.refsw.level
  let d := d.tickRefsw
  let d := if d.step.refsw.level = was then d else
      let homing := decide (d.leaf.mode = 5)
      d.refswMoved.seekOver homing
  d.seeVhv seen.vhvMv

/-- An off-pulse, at most one each 100 ms. -/
def Dev.pulseOut (o current : Nat) (d : Dev) : Dev := if ms 100 ≤ d.now - (d.bin.out o).pulsed then d.offPulse o current else d

/-- The SRAM march test is complete. -/
def Dev.marchDone (ok : Bool) (d : Dev) : Dev :=
  if ok then d.modBin fun b => { b with march := (b.march + 1) % 2 ^ 32 } else d.diagnosticFails 1

/-- The program store has been read. -/
def Dev.crcDone (ok : Bool) (d : Dev) : Dev :=
  if ok then d.modBin fun b => { b with crcPasses := (b.crcPasses + 1) % 2 ^ 32 } else d.diagnosticFails 2

/-! ### Buses (R488, R496, R509, R514, R520) -/

/-- A frame taken from the FIFO as it was on the bus, its age counted to now. -/
def RxEntry.frameIn (e : RxEntry) (now : Nat) : FrameIn :=
  { ident := e.frame.ident, format := e.frame.format, sdt := e.frame.sdt, vcid := e.frame.vcid, sec := e.frame.sec, af := e.frame.af
    length := e.frame.length, data := e.frame.data, esi := e.frame.esi, age := now - e.stamp }

/-- The firmware takes a frame and routes it to its layer, its buffer, or nowhere (R496). -/
def Dev.frameRouted (x : Nat) (d : Dev) : Dev := match d.takeFrame x with
  | none => d
  | some (e, taken) => match d.routeOf x e with
    | .host | .hostBadFormat => taken.segmentIn e.frame.format e.frame.data
    | .reference => taken.reference e.frame.data e.stamp
    | .connection c => taken.receiveTelegram c (e.frameIn taken.chron.time)
    | r => taken.routeHost x r e

/-- A reference message reaches the Chronometer. -/
def Dev.referenceIn (f : FrameIn) (d : Dev) : Dev :=
  if d.deviceRoute (d.parN P.CHRON_REF_BUS) f.frame = some .reference then d.reference f.data (d.chron.time - f.age) else d

/-- A frame of a receive connection reaches the safety layer. -/
def Dev.telegramIn (c : Nat) (f : FrameIn) (d : Dev) : Dev :=
  if d.deviceRoute (d.parN (P.connField c 1)) f.frame = some (.connection c) then d.receiveTelegram c f else d

/-- An attempt ends: the frame's object, its layer, the time master's bus, and a park order whose reply has left. -/
def Dev.attemptEnds (x : Nat) (r : AttemptIn) (d : Dev) : Dev := match (d.busOf x).committed with
  | none => d
  | some obj =>
    let stamp := d.chron.time - r.age
    let d := d.endAttempt x r
    let d := if r.result = 0 then d.noteSent obj stamp else d
    d.watchMasterBus.judgePark

/-- A potential master listens as a slave: S of R528 starts here where no valid message was heard since. -/
def Dev.listenAgain (x : Nat) (d : Dev) : Dev :=
  if d.parN P.CHRON_REF_BUS = x ∧ d.par P.CHRON_ROLE = 2 ∧ d.chron.state ≠ 5 then { d with chron := { d.chron with refSeen := d.now } } else d

/-- The 128 recessive sequences are counted. -/
def Dev.recovered (x : Nat) (d : Dev) : Dev := if (d.busOf x).state = 5 then (d.recoveryDone x).listenAgain x else d

/-- The error state that the counters hold a controller in. -/
def Bus.heldState (b : Bus) : Nat := if 128 ≤ max b.txErr b.rxErr then 3 else 2

/-- Integration is complete: the controller resumes in the error state it held (R513, R514). -/
def Dev.integrated (x : Nat) (d : Dev) : Dev :=
  if (d.busOf x).state = 1 then (((d.busState x (d.busOf x).heldState).busJudge x)).listenAgain x else d

/-- The frame in progress has ended and the new timing is in force (R520). -/
def Dev.reconfigured (x : Nat) (d : Dev) : Dev :=
  let b := d.busOf x
  if b.state = 7 ∧ b.committed.isNone then d.busIntegrate x else d

/-! ### Time and telegrams (R527, R528, R531, R535, R539) -/

/-- A send connection's timer: 10 safety ticks for kinds 1 and 2, 10 ms for kind 5. -/
def Dev.telegramTimer (c : Nat) (d : Dev) : Dev :=
  let k := d.conn c
  let due := if d.connKind c = 5 then decide (ms 10 ≤ d.now - k.builtAt) else decide (10 ≤ k.sinceBuilt)
  if c < 12 ∧ due then d.sendTelegram c else d

/-- A connection's watchdog. -/
def Dev.telegramLate (c : Nat) (d : Dev) : Dev := if c < 12 ∧ d.watchdogDue c then d.expireConn c else d

/-- The master's period has passed. -/
def Dev.referenceTimer (d : Dev) : Dev := if d.chron.state = 5 ∧ d.refPeriod ≤ d.now - d.chron.sentAt then d.sendReference else d

/-- S has passed without a valid reference (R528). -/
def Dev.masterOver (d : Dev) : Dev :=
  if d.par P.CHRON_ROLE = 2 ∧ d.chron.state ≠ 5 ∧ d.timeValid ∧ (d.busOf (d.parN P.CHRON_REF_BUS)).running ∧ d.masterWait ≤ d.now - d.chron.refSeen then
    d.becomeMaster
  else d

/-- No usable message for three periods: holdover keeps the trim (R523, R531). -/
def Dev.holdover (d : Dev) : Dev :=
  if d.chron.state = 3 ∧ 3 * d.refPeriod ≤ d.now - d.chron.usable then
    (({ d with chron := { d.chron with slew := 0, c := d.chron.trim } } : Dev)).chronState 4
  else d

/-- Holdover has lasted CHRON_HOLDOVER (R531). -/
def Dev.holdoverEnds (d : Dev) : Dev :=
  if d.chron.state = 4 ∧ sec (d.parN P.CHRON_HOLDOVER) ≤ d.now - d.chron.heldAt then d.chronState 0 else d

/-! ### The Log (R552, R556 to R566) -/

/-- Step 1 of R556 for a cycle record: whether a track anomaly was raised. -/
def Dev.learnForCast (steps : Nat) (d : Dev) : Bool × Dev := match d.log.run.ended with
  | r :: _ => if r.kind = 1 ∧ 1 ≤ steps then (let t := d.learnUpdate; (decide (t.nv.eventSeq ≠ d.nv.eventSeq), t)) else (false, d)
  | [] => (false, d)

/-- A record that has ended is cast. -/
def Dev.cycleCast (steps : Nat) (ok : Bool) (d : Dev) : Dev := let (anomaly, d) := d.learnForCast steps; d.castFront anomaly steps ok

/-- Step 7 of R556; abandoned in Reef 4. -/
def Dev.tablesWritten (ok : Bool) (d : Dev) : Dev :=
  if ¬ d.log.tablesDue then d
  else
    let d : Dev := { d with log := { d.log with tablesDue := false } }
    if 4 ≤ d.supply.reef ∨ d.logFailed then d
    else if ok then { d with nv := { d.nv with learned := some (d.pilot.fric, d.pilot.cog) } }
    else d.failLog 1

/-- The running record goes into the draft. -/
def Dev.draftWritten (ok : Bool) (d : Dev) : Dev :=
  if ¬ d.log.run.active ∨ d.logFailed then d else if ok then d.writeDraft else d.failLog 1

/-- A quiet interval has lasted LOG_QUIET_MAX. -/
def Dev.quietOver (d : Dev) : Dev :=
  if d.log.run.active ∧ d.log.run.record.kind = 3 ∧ sec (d.parN P.LOG_QUIET_MAX) ≤ d.now - d.log.run.began then (d.endRecord 4).beginRecord 3
  else d

/-- A trigger is taken; `ok` says that the memory die took the header. -/
def Dev.triggered (ok : Bool) (d : Dev) : Dev := if d.log.triggers.isEmpty ∨ ok ∨ d.logFailed then d.takeTrigger else d.failLog 0

/-- The capture has its 254 samples: the trace is complete and TRACE_CAPTURE replies (R563, R568). -/
def Dev.traceFull (ok : Bool) (d : Dev) : Dev := match d.log.capture with
  | none => d
  | some c =>
    if c.samples < 254 then d
    else if ¬ ok then d.failLog 0
    else
      let d := d.endCapture 2
      d.replyTo c.order 0 (u16 c.slot ++ u32 (traceHdr d.nv.main c.slot).seq)

end Sys2Proof.Machine
end

