-- ==== Sys2Proof/Machine/AxisRows.lean ====
section
/-! DEFINITION. One meaning per row: the commands of the planner, Pilot, Sextant and the power stage, and the events of the planner. Every row first lets its time pass. -/

namespace Sys2Proof.Machine

/-- AXIS_HOME (R226). Order that runs the homing sequence of an axis. -/
def execAxisHome (dt : Nat) (h : CmdHead) (axis : Nat) (s : State) : Host.Outcome State Fault Refusal := onDev dt (Dev.hostCommand h (.axisHome axis)) s

/-- AXIS_MOVE (R226). Order that moves an axis to a target in Maintenance. -/
def execAxisMove (dt : Nat) (h : CmdHead) (axis : Nat) (target : Nat) (s : State) : Host.Outcome State Fault Refusal := onDev dt (Dev.hostCommand h (.axisMove axis target)) s

/-- AXIS_STOP (R226). Order that stops one or both axes. -/
def execAxisStop (dt : Nat) (h : CmdHead) (axis : Nat) (s : State) : Host.Outcome State Fault Refusal := onDev dt (Dev.hostCommand h (.axisStop axis)) s

/-- AXIS_LINK (R211). Order that links or frees the two axes. -/
def execAxisLink (dt : Nat) (h : CmdHead) (link : Nat) (s : State) : Host.Outcome State Fault Refusal := onDev dt (Dev.hostCommand h (.axisLink link)) s

/-- LOOP_MODE (R258). Order that selects automatic, manual current or manual voltage mode of an axis. -/
def execLoopMode (dt : Nat) (h : CmdHead) (axis : Nat) (mode : Nat) (s : State) : Host.Outcome State Fault Refusal := onDev dt (Dev.hostCommand h (.loopMode axis mode)) s

/-- LOOP_MANUAL (R259). Order that sets the manual current or voltage set-point. -/
def execLoopManual (dt : Nat) (h : CmdHead) (axis : Nat) (point : Nat) (s : State) : Host.Outcome State Fault Refusal := onDev dt (Dev.hostCommand h (.loopManual axis point)) s

/-- INJECT_START (R262). Order that injects a test signal into a loop and captures the response. -/
def execInjectStart (dt : Nat) (h : CmdHead) (axis : Nat) (loop : Nat) (point : Nat) (signal : Nat) (amplitude : Nat) (p1 : Nat) (p2 : Nat) (p3 : Nat) (respLoop : Nat) (respPoint : Nat) (decimation : Nat) (s : State) : Host.Outcome State Fault Refusal := onDev dt (Dev.hostCommand h (.injectStart axis loop point signal amplitude p1 p2 p3 respLoop respPoint decimation)) s

/-- CAPTURE_READ (R267). Query that returns captured injection samples. -/
def execCaptureRead (dt : Nat) (h : CmdHead) (off : Nat) (count : Nat) (s : State) : Host.Outcome State Fault Refusal := onDev dt (Dev.hostCommand h (.captureRead off count)) s

/-- AXIS_STATE (R227). Query that returns mode, phase, set-points and measurements of an axis. -/
def execAxisState (dt : Nat) (h : CmdHead) (axis : Nat) (s : State) : Host.Outcome State Fault Refusal := onDev dt (Dev.hostCommand h (.axisState axis)) s

/-- PILOT_FLAGS (R268). Query that returns the sticky and present flag words and force estimate of an axis. -/
def execPilotFlags (dt : Nat) (h : CmdHead) (axis : Nat) (s : State) : Host.Outcome State Fault Refusal := onDev dt (Dev.hostCommand h (.pilotFlags axis)) s

/-- PILOT_FLAGS_CLEAR (R241). Order that clears sticky Pilot flags by mask. -/
def execPilotFlagsClear (dt : Nat) (h : CmdHead) (axis : Nat) (mask : Nat) (s : State) : Host.Outcome State Fault Refusal := onDev dt (Dev.hostCommand h (.pilotFlagsClear axis mask)) s

/-- TABLE_READ (R267). Query that returns entries of a friction, cogging or microstep table. -/
def execTableRead (dt : Nat) (h : CmdHead) (table : Nat) (dir : Nat) (off : Nat) (count : Nat) (s : State) : Host.Outcome State Fault Refusal := onDev dt (Dev.hostCommand h (.tableRead table dir off count)) s

/-- TABLE_WRITE (R254). Order that writes entries of a friction or microstep table at standstill. -/
def execTableWrite (dt : Nat) (h : CmdHead) (table : Nat) (dir : Nat) (off : Nat) (entries : List Nat) (s : State) : Host.Outcome State Fault Refusal := onDev dt (Dev.hostCommand h (.tableWrite table dir off entries)) s

/-- LATCH_READ (R303). Query that returns the edge latch, reference state, counts and compare units. -/
def execLatchRead (dt : Nat) (h : CmdHead) (s : State) : Host.Outcome State Fault Refusal := onDev dt (Dev.hostCommand h .latchRead) s

/-- COMPARE_ARM (R297). Order that arms a compare unit with position, action and direction filter. -/
def execCompareArm (dt : Nat) (h : CmdHead) (unit : Nat) (action : Nat) (filter : Nat) (position : Nat) (s : State) : Host.Outcome State Fault Refusal := onDev dt (Dev.hostCommand h (.compareArm unit action filter position)) s

/-- DRIVE_STATUS (R328). Query that returns bridge modes, faults, suspects, dead times and measurements. -/
def execDriveStatus (dt : Nat) (h : CmdHead) (s : State) : Host.Outcome State Fault Refusal := onDev dt (Dev.hostCommand h .driveStatus) s

/-- AT_TARGET (R195). Set-point at target, position in window and speed at standstill for 10 ms; at target is reported. -/
def execAtTarget (dt : Nat) (axis : Nat) (s : State) : Host.Outcome State Fault Refusal := onDev dt (Dev.whenReady (Dev.atTargetNow axis)) s

/-- LEADER_LOST (R38). A pass-through edge is overdue or illegal; the follower leaves gearing. -/
def execLeaderLost (dt : Nat) (reason : Nat) (s : State) : Host.Outcome State Fault Refusal := onDev dt (Dev.whenReady (Dev.leaderLostRow reason)) s

/-- LEADER_WAIT_EXPIRY (R545). The follower's leader telegram does not match within CHRON_LEADER_WAIT. -/
def execLeaderWaitExpiry (dt : Nat) (s : State) : Host.Outcome State Fault Refusal := onDev dt (Dev.whenReady Dev.leaderWaitOver) s

/-- STEP_ADAPT_TICK (R217). Every 1 ms while the step moves its current amplitude follows the load angle. -/
def execStepAdaptTick (dt : Nat) (angle : Nat) (s : State) : Host.Outcome State Fault Refusal := onDev dt (Dev.whenReady (Dev.stepTick angle)) s

/-- STEP_SWITCH_CHANGE (R221). A filtered transition of SHOME, SLIM_RET or SLIM_EXT is taken. -/
def execStepSwitchChange (dt : Nat) (sw : Nat) (level : Bool) (s : State) : Host.Outcome State Fault Refusal := onDev dt (Dev.whenLive (Dev.stepSwitch sw level)) s

/-- STABLE_ASSERTION (R221). A homing switch stays asserted for PLAN_HOME_STABLE. -/
def execStableAssertion (dt : Nat) (sw : Nat) (s : State) : Host.Outcome State Fault Refusal := onDev dt (Dev.whenLive (Dev.stableNow sw)) s

/-- HOMING_STEP_DONE (R223). A homing step reaches its end condition and the next step begins. -/
def execHomingStepDone (dt : Nat) (s : State) : Host.Outcome State Fault Refusal := onDev dt (Dev.whenReady Dev.homingStep) s

/-- STEP_HOLD_DELAY_END (R210). After PLAN_STEP_HOLD_DELAY of standstill the step current drops to hold. -/
def execStepHoldDelayEnd (dt : Nat) (s : State) : Host.Outcome State Fault Refusal := onDev dt (Dev.whenLive Dev.stepReduces) s

/-- LEAF_HOLD_REDUCTION (R209). After PLAN_HOLD_DELAY at standstill the leaf current limit falls to standstill current. -/
def execLeafHoldReduction (dt : Nat) (s : State) : Host.Outcome State Fault Refusal := onDev dt (Dev.whenLive Dev.leafReduces) s

end Sys2Proof.Machine
end

