-- ==== Sys2Proof/Machine/BinnacleRows.lean ====
section
/-! DEFINITION. One meaning per row: the commands and events of Binnacle. Every row first lets its time pass. -/

namespace Sys2Proof.Machine

/-- SEAL_STATUS (R481). Query that returns the seal state, values and reason. -/
def execSealStatus (dt : Nat) (h : CmdHead) (s : State) : Host.Outcome State Fault Refusal := onDev dt (Dev.hostCommand h .sealStatus) s

/-- SEAL_CONFIRM (R480). Order that checks and stores the seal record and enters the Sealed state. -/
def execSealConfirm (dt : Nat) (h : CmdHead) (value : Nat) (grade : Nat) (s : State) : Host.Outcome State Fault Refusal := onDev dt (Dev.hostCommand h (.sealConfirm value grade)) s

/-- SAFE_IO (R482). Query that returns safe input pairs, test faults and safe output states. -/
def execSafeIo (dt : Nat) (h : CmdHead) (s : State) : Host.Outcome State Fault Refusal := onDev dt (Dev.hostCommand h .safeIo) s

/-- SAFE_FUNCTIONS (R483). Query that returns the state of the Binnacle safety functions. -/
def execSafeFunctions (dt : Nat) (h : CmdHead) (s : State) : Host.Outcome State Fault Refusal := onDev dt (Dev.hostCommand h .safeFunctions) s

/-- TELEGRAM_STATUS (R484). Query that returns the state and error counts of each telegram connection. -/
def execTelegramStatus (dt : Nat) (h : CmdHead) (s : State) : Host.Outcome State Fault Refusal := onDev dt (Dev.hostCommand h .telegramStatus) s

/-- BIN_DIAG (R485). Query that returns Binnacle fault bits and diagnostic counts. -/
def execBinDiag (dt : Nat) (h : CmdHead) (s : State) : Host.Outcome State Fault Refusal := onDev dt (Dev.hostCommand h .binDiag) s

/-- DEBUG_ENABLE (R479). Order that enables the debug port while not Sealed. -/
def execDebugEnable (dt : Nat) (h : CmdHead) (s : State) : Host.Outcome State Fault Refusal := onDev dt (Dev.hostCommand h .debugEnable) s

/-- SAFETY_TICK (R439). Every Binnacle tick the inputs are sampled and the safety functions evaluated. -/
def execSafetyTick (dt : Nat) (seen : TickIn) (s : State) : Host.Outcome State Fault Refusal := onDev dt (Dev.whenBin (Dev.tick seen)) s

/-- TEST_WINDOW (R440). A TPO test window runs and the TPO and its channels are checked. -/
def execTestWindow (dt : Nat) (tpo : Nat) (mv : Nat) (reads : Nat) (s : State) : Host.Outcome State Fault Refusal := onDev dt (Dev.whenBin (Dev.testWindow tpo mv reads)) s

/-- OFF_PULSE (R448). Every 100 ms an energised output's switches are pulsed off in turn. -/
def execOffPulse (dt : Nat) (output : Nat) (current : Nat) (s : State) : Host.Outcome State Fault Refusal := onDev dt (Dev.whenBin (Dev.pulseOut output current)) s

/-- SAFE_LOOP_OPEN (R448). An energised output carries under 2 mA for 1 s. -/
def execSafeLoopOpen (dt : Nat) (output : Nat) (s : State) : Host.Outcome State Fault Refusal := onDev dt (Dev.whenBin (Dev.loopOpen output)) s

/-- SAFE_LOOP_CURRENT_LIMIT (R600). Loop current at the limit for 1 ms; the smart-power die opens the output. -/
def execSafeLoopCurrentLimit (dt : Nat) (output : Nat) (current : Nat) (s : State) : Host.Outcome State Fault Refusal := onDev dt (Dev.whenBin (Dev.loopLimit output current)) s

/-- DRAG_LATCH_CLEAR (R456). Standstill for 1 s with no cause clears the drag latch. -/
def execDragLatchClear (dt : Nat) (s : State) : Host.Outcome State Fault Refusal := onDev dt (Dev.whenBin Dev.dragClear) s

/-- BINNACLE_HALL_EDGE (R462). Binnacle times a Hall edge on its own path for speed and direction. -/
def execBinnacleHallEdge (dt : Nat) (code : Nat) (s : State) : Host.Outcome State Fault Refusal := onDev dt (Dev.whenBin (Dev.binHall code)) s

/-- EDGE_SILENCE_500MS (R464). 500 ms without a Hall edge release speed and direction inhibits. -/
def execEdgeSilence500ms (dt : Nat) (s : State) : Host.Outcome State Fault Refusal := onDev dt (Dev.whenBin Dev.edgeSilence) s

/-- SPEED_UNPROVEN (R463). Illegal code or 100 ms of demanded motion without edges makes the speed unproven. -/
def execSpeedUnproven (dt : Nat) (s : State) : Host.Outcome State Fault Refusal := onDev dt (Dev.whenBin Dev.judgeUnproven) s

/-- UNPROVEN_TOO_LONG (R463). Speed unproven for BIN_UNPROVEN_MAX asserts the drive inhibit. -/
def execUnprovenTooLong (dt : Nat) (s : State) : Host.Outcome State Fault Refusal := onDev dt (Dev.whenBin Dev.unprovenTooLong) s

/-- SEQUENCER_REPORT (R465). A sequencer report reaches Binnacle and is checked. -/
def execSequencerReport (dt : Nat) (seq : Nat) (ok : Bool) (s : State) : Host.Outcome State Fault Refusal := onDev dt (Dev.whenBin (Dev.takeReport seq ok)) s

/-- BINNACLE_FAULT (R466). A class A diagnostic fails; outputs off, inhibit, FAULT_N. -/
def execBinnacleFault (dt : Nat) (bit : Nat) (s : State) : Host.Outcome State Fault Refusal := onDev dt (Dev.diagnosticFails bit) s

/-- MARCH_TEST (R466). Every 8 h the SRAM march test completes. -/
def execMarchTest (dt : Nat) (ok : Bool) (s : State) : Host.Outcome State Fault Refusal := onDev dt (Dev.whenBin (Dev.marchDone ok)) s

/-- PROGRAM_CRC_CHECK (R466). Every 10 min the program store CRC is checked. -/
def execProgramCrcCheck (dt : Nat) (ok : Bool) (s : State) : Host.Outcome State Fault Refusal := onDev dt (Dev.whenBin (Dev.crcDone ok)) s

end Sys2Proof.Machine
end

