-- ==== Sys2Proof/Machine/BusRows.lean ====
section
/-! DEFINITION. One meaning per row: the commands and events of the bus controllers. Every row first lets its time pass. -/

namespace Sys2Proof.Machine

/-- BUS_STATUS (R517). Query that returns the state and counts of a bus controller. -/
def execBusStatus (dt : Nat) (h : CmdHead) (bus : Nat) (s : State) : Host.Outcome State Fault Refusal := onDev dt (Dev.hostCommand h (.busStatus bus)) s

/-- BUS_RECOVER (R512). Order that returns a controller from bus-off after 128 recessive sequences. -/
def execBusRecover (dt : Nat) (h : CmdHead) (bus : Nat) (timeout : Nat) (s : State) : Host.Outcome State Fault Refusal := onDev dt (Dev.hostCommand h (.busRecover bus timeout)) s

/-- BUS_SEND (R504). Order that queues a frame on a host send object and replies at its end. -/
def execBusSend (dt : Nat) (h : CmdHead) (bus : Nat) (object : Nat) (ident : Nat) (format : Nat) (sdt : Nat) (vcid : Nat) (sec : Nat) (af : Nat) (length : Nat) (lifetime : Nat) (bytes : List Byte) (s : State) : Host.Outcome State Fault Refusal := onDev dt (Dev.hostCommand h (.busSend bus object ident format sdt vcid sec af length lifetime bytes)) s

/-- BUS_READ (R499). Query that copies a receive object or priority buffer consistently, optionally consuming it. -/
def execBusRead (dt : Nat) (h : CmdHead) (bus : Nat) (kind : Nat) (index : Nat) (consume : Nat) (off : Nat) (count : Nat) (s : State) : Host.Outcome State Fault Refusal := onDev dt (Dev.hostCommand h (.busRead bus kind index consume off count)) s

/-- BUS_TX_CANCEL (R506). Order that cancels the frame of a host send object. -/
def execBusTxCancel (dt : Nat) (h : CmdHead) (bus : Nat) (object : Nat) (s : State) : Host.Outcome State Fault Refusal := onDev dt (Dev.hostCommand h (.busTxCancel bus object)) s

/-- BUS_FILTER_LOAD (R519). Order that writes a section of the shadow bus table. -/
def execBusFilterLoad (dt : Nat) (h : CmdHead) (bus : Nat) (part : Nat) (first : Nat) (bytes : List Byte) (s : State) : Host.Outcome State Fault Refusal := onDev dt (Dev.hostCommand h (.busFilterLoad bus part first bytes)) s

/-- BUS_FILTER_APPLY (R519). BUS_FILTER_LOAD section 3: checks the shadow table and puts it in force at one point in the FIFO. -/
def execBusFilterApply (dt : Nat) (h : CmdHead) (bus : Nat) (s : State) : Host.Outcome State Fault Refusal := onDev dt (Dev.hostCommand h (.busFilterApply bus)) s

/-- BUS_FILTER_DISCARD (R519). BUS_FILTER_LOAD section 4: discards the shadow table. -/
def execBusFilterDiscard (dt : Nat) (h : CmdHead) (bus : Nat) (s : State) : Host.Outcome State Fault Refusal := onDev dt (Dev.hostCommand h (.busFilterDiscard bus)) s

/-- BUS_FRAME_RECEIVED (R494). A valid frame enters the receive FIFO with its time stamp. -/
def execBusFrameReceived (dt : Nat) (bus : Nat) (frame : FrameIn) (s : State) : Host.Outcome State Fault Refusal := onDev dt (Dev.whenBus bus (Dev.busReceive bus frame)) s

/-- FRAME_ROUTED (R496). The firmware takes a frame from the FIFO and routes it. -/
def execFrameRouted (dt : Nat) (bus : Nat) (s : State) : Host.Outcome State Fault Refusal := onDev dt (Dev.whenBus bus (Dev.frameRouted bus)) s

/-- ATTEMPT_COMMITTED (R501). At the third intermission bit a pending frame is chosen and committed. -/
def execAttemptCommitted (dt : Nat) (bus : Nat) (idle : Bool) (s : State) : Host.Outcome State Fault Refusal := onDev dt (Dev.whenBus bus (Dev.commitAttempt bus idle)) s

/-- ATTEMPT_END (R503). An attempt ends by success, lost arbitration or error. -/
def execAttemptEnd (dt : Nat) (bus : Nat) (seen : AttemptIn) (s : State) : Host.Outcome State Fault Refusal := onDev dt (Dev.whenBus bus (Dev.attemptEnds bus seen)) s

/-- RECOVERY_COMPLETE (R512). 128 recessive sequences counted; error-active again. -/
def execRecoveryComplete (dt : Nat) (bus : Nat) (s : State) : Host.Outcome State Fault Refusal := onDev dt (Dev.whenBus bus (Dev.recovered bus)) s

/-- RECOVER_TIMEOUT (R512). BUS_RECOVER's timeout passes in bus-off. -/
def execRecoverTimeout (dt : Nat) (bus : Nat) (s : State) : Host.Outcome State Fault Refusal := onDev dt (Dev.whenBus bus (Dev.recoverLate bus)) s

/-- FRAME_LIFETIME_EXPIRY (R504). A frame's lifetime passes uncommitted and it fails with cause 3. -/
def execFrameLifetimeExpiry (dt : Nat) (bus : Nat) (object : Nat) (s : State) : Host.Outcome State Fault Refusal := onDev dt (Dev.whenBus bus (Dev.lifetimeOver bus object)) s

/-- TIMING_RECONFIGURED (R520). After a timing commit and the current frame the controller re-initialises. -/
def execTimingReconfigured (dt : Nat) (bus : Nat) (s : State) : Host.Outcome State Fault Refusal := onDev dt (Dev.whenBus bus (Dev.reconfigured bus)) s

/-- BUS_RECEIVE_ERROR (R509). An error detected while receiving raises the receive error counter and can change the controller's error state. -/
def execBusReceiveError (dt : Nat) (bus : Nat) (error : Nat) (dominant : Bool) (s : State) : Host.Outcome State Fault Refusal := onDev dt (Dev.whenBus bus (Dev.busReceiveError bus error dominant)) s

/-- PROTOCOL_EXCEPTION (R488). A mode-2 controller meets a CAN XL frame, counts a protocol exception and integrates again. -/
def execProtocolException (dt : Nat) (bus : Nat) (s : State) : Host.Outcome State Fault Refusal := onDev dt (Dev.whenBus bus (Dev.exception bus)) s

/-- BUS_INTEGRATION_COMPLETE (R514). A controller that is integrating sees the bus idle sequence and becomes error-active, which lets a potential time master listen as a slave. -/
def execBusIntegrationComplete (dt : Nat) (bus : Nat) (s : State) : Host.Outcome State Fault Refusal := onDev dt (Dev.whenBus bus (Dev.integrated bus)) s

end Sys2Proof.Machine
end

