-- ==== Sys2Proof/Machine/ChronRows.lean ====
section
/-! DEFINITION. One meaning per row: the commands and events of the Chronometer and the telegrams. Every row first lets its time pass. -/

namespace Sys2Proof.Machine

/-- CHRON_SET (R546). Order that steps the Chronometer time to a given value. -/
def execChronSet (dt : Nat) (h : CmdHead) (time : Nat) (s : State) : Host.Outcome State Fault Refusal := onDev dt (Dev.hostCommand h (.chronSet time)) s

/-- CHRON_READ (R547). Query that returns the Chronometer state, time and discipline figures. -/
def execChronRead (dt : Nat) (h : CmdHead) (s : State) : Host.Outcome State Fault Refusal := onDev dt (Dev.hostCommand h .chronRead) s

/-- TELEGRAM_SEND_TIMER (R535). Every 10 ticks or 10 ms a send connection builds a telegram. -/
def execTelegramSendTimer (dt : Nat) (conn : Nat) (s : State) : Host.Outcome State Fault Refusal := onDev dt (Dev.whenReady (Dev.telegramTimer conn)) s

/-- TELEGRAM_RECEIVED (R537). A frame of a receive connection is checked and accepted or rejected. -/
def execTelegramReceived (dt : Nat) (conn : Nat) (frame : FrameIn) (s : State) : Host.Outcome State Fault Refusal := onDev dt (Dev.whenLive (Dev.telegramIn conn frame)) s

/-- TELEGRAM_WATCHDOG_EXPIRY (R539). 30 ticks pass without acceptance; the connection resynchronises. -/
def execTelegramWatchdogExpiry (dt : Nat) (conn : Nat) (s : State) : Host.Outcome State Fault Refusal := onDev dt (Dev.whenLive (Dev.telegramLate conn)) s

/-- REFERENCE_RECEIVED (R529). A reference message disciplines or steps the slave's time. -/
def execReferenceReceived (dt : Nat) (frame : FrameIn) (s : State) : Host.Outcome State Fault Refusal := onDev dt (Dev.whenLive (Dev.referenceIn frame)) s

/-- REFERENCE_SEND_TIMER (R527). A master sends its reference message every CHRON_REF_PERIOD. -/
def execReferenceSendTimer (dt : Nat) (s : State) : Host.Outcome State Fault Refusal := onDev dt (Dev.whenLive Dev.referenceTimer) s

/-- MASTER_TIMEOUT (R528). S passes without a valid reference; a potential master takes over. -/
def execMasterTimeout (dt : Nat) (s : State) : Host.Outcome State Fault Refusal := onDev dt (Dev.whenLive Dev.masterOver) s

/-- HOLDOVER_ENTRY (R523). No usable reference for 3 periods; a disciplined slave enters holdover. -/
def execHoldoverEntry (dt : Nat) (s : State) : Host.Outcome State Fault Refusal := onDev dt (Dev.whenLive Dev.holdover) s

/-- HOLDOVER_EXPIRY (R531). CHRON_HOLDOVER passes in holdover; the time becomes invalid. -/
def execHoldoverExpiry (dt : Nat) (s : State) : Host.Outcome State Fault Refusal := onDev dt (Dev.whenLive Dev.holdoverEnds) s

end Sys2Proof.Machine
end

