-- ==== Sys2Proof/Machine/DoorRows.lean ====
section
/-! DEFINITION. One meaning per row: the doorway commands and the events of the sequencer. Every row first lets its time pass. -/

namespace Sys2Proof.Machine

/-- DOOR_RELEASE (R149). Order that withdraws the lock and enters Released when the lock pair opens. -/
def execDoorRelease (dt : Nat) (h : CmdHead) (s : State) : Host.Outcome State Fault Refusal := onDev dt (Dev.hostCommand h .doorRelease) s

/-- DOOR_OPEN (R150). Order that opens the leaves at its start time, with release and step as the rules give. -/
def execDoorOpen (dt : Nat) (h : CmdHead) (start : Nat) (s : State) : Host.Outcome State Fault Refusal := onDev dt (Dev.hostCommand h (.doorOpen start)) s

/-- DOOR_CLOSE (R153). Order that warns, closes and locks the doorway at its start time. -/
def execDoorClose (dt : Nat) (h : CmdHead) (start : Nat) (s : State) : Host.Outcome State Fault Refusal := onDev dt (Dev.hostCommand h (.doorClose start)) s

/-- DOOR_HOLD (R162). Order that enters Holding with origin 1 for a hold time. -/
def execDoorHold (dt : Nat) (h : CmdHead) (time : Nat) (s : State) : Host.Outcome State Fault Refusal := onDev dt (Dev.hostCommand h (.doorHold time)) s

/-- DOOR_ISOLATE (R174). Order that closes and locks the doorway and takes it out of service. -/
def execDoorIsolate (dt : Nat) (h : CmdHead) (s : State) : Host.Outcome State Fault Refusal := onDev dt (Dev.hostCommand h .doorIsolate) s

/-- DOOR_RESTORE (R175). Order that leaves Isolated into the classified state. -/
def execDoorRestore (dt : Nat) (h : CmdHead) (s : State) : Host.Outcome State Fault Refusal := onDev dt (Dev.hostCommand h .doorRestore) s

/-- LANDFALL_ANNOUNCE (R163). Order that arms or begins Landfall for the announced release side. -/
def execLandfallAnnounce (dt : Nat) (h : CmdHead) (side : Nat) (s : State) : Host.Outcome State Fault Refusal := onDev dt (Dev.hostCommand h (.landfallAnnounce side)) s

/-- LANDFALL_WITHDRAW (R169). Order that withdraws Landfall or an armed announcement. -/
def execLandfallWithdraw (dt : Nat) (h : CmdHead) (s : State) : Host.Outcome State Fault Refusal := onDev dt (Dev.hostCommand h .landfallWithdraw) s

/-- STEP_DEPLOY (R171). Order that deploys the step by platform find. -/
def execStepDeploy (dt : Nat) (h : CmdHead) (s : State) : Host.Outcome State Fault Refusal := onDev dt (Dev.hostCommand h .stepDeploy) s

/-- STEP_RETRACT (R171). Order that retracts the step, or homes it from Step-faulted. -/
def execStepRetract (dt : Nat) (h : CmdHead) (s : State) : Host.Outcome State Fault Refusal := onDev dt (Dev.hostCommand h .stepRetract) s

/-- MAINTENANCE_ENTER (R178). Order that enters Maintenance at rest with the vehicle at standstill. -/
def execMaintenanceEnter (dt : Nat) (h : CmdHead) (s : State) : Host.Outcome State Fault Refusal := onDev dt (Dev.hostCommand h .maintenanceEnter) s

/-- MAINTENANCE_EXIT (R178). Order that leaves Maintenance into the classified state. -/
def execMaintenanceExit (dt : Nat) (h : CmdHead) (s : State) : Host.Outcome State Fault Refusal := onDev dt (Dev.hostCommand h .maintenanceExit) s

/-- DOOR_FAULT_CLEAR (R180). Order that leaves Faulted or Obstructed once no cause stands. -/
def execDoorFaultClear (dt : Nat) (h : CmdHead) (s : State) : Host.Outcome State Fault Refusal := onDev dt (Dev.hostCommand h .doorFaultClear) s

/-- DOOR_STATE (R186). Query that returns doorway and step state, cause, counts, pair states and positions. -/
def execDoorState (dt : Nat) (h : CmdHead) (s : State) : Host.Outcome State Fault Refusal := onDev dt (Dev.hostCommand h .doorState) s

/-- PROFILE_UPDATE (R146). Every 250 µs the sequencer handles its inputs and the planner computes set-points. -/
def execProfileUpdate (dt : Nat) (s : State) : Host.Outcome State Fault Refusal := onDev dt (Dev.profileUpdate Dev.takeAtProfile) s

/-- START_TIME_REACHED (R524). A waiting order's start time is reached at a profile update and it starts. -/
def execStartTimeReached (dt : Nat) (s : State) : Host.Outcome State Fault Refusal := onDev dt (Dev.whenReady Dev.startTime) s

/-- CLOSING_WARNING_FLASH (R153). Warning channels flash at 1 Hz until the leaves move and Closing ends. -/
def execClosingWarningFlash (dt : Nat) (s : State) : Host.Outcome State Fault Refusal := onDev dt (Dev.whenReady Dev.warningFlash) s

/-- UNLOCK_TIMEOUT (R149). The lock pair has not opened within DOOR_UNLOCK_TIME; Faulted with cause 1. -/
def execUnlockTimeout (dt : Nat) (s : State) : Host.Outcome State Fault Refusal := onDev dt (Dev.whenReady Dev.unlockTimeout) s

/-- LOCK_PAIR_OPENED (R149). The lock pair opens after an unlock; the doorway enters Released or Landfall. -/
def execLockPairOpened (dt : Nat) (s : State) : Host.Outcome State Fault Refusal := onDev dt (Dev.whenReady Dev.lockPairOpened) s

/-- CLOSED_WAIT_EXPIRY (R154). DOOR_CLOSED_WAIT passes with position and closed pairs disagreeing. -/
def execClosedWaitExpiry (dt : Nat) (s : State) : Host.Outcome State Fault Refusal := onDev dt (Dev.whenReady Dev.closedWait) s

/-- LOCK_TIMEOUT (R154). The lock pair is not made within DOOR_LOCK_TIME; retry once or Faulted with cause 2. -/
def execLockTimeout (dt : Nat) (s : State) : Host.Outcome State Fault Refusal := onDev dt (Dev.whenReady Dev.lockTimeout) s

/-- LOCK_RETRY_PULSE_END (R154). The 200 ms retry pulse of the lock channel ends. -/
def execLockRetryPulseEnd (dt : Nat) (s : State) : Host.Outcome State Fault Refusal := onDev dt (Dev.whenReady Dev.retryPulseEnd) s

/-- LOCK_PAIR_MADE (R154). The lock pair is made in Closed; Locked is entered if the step rule allows. -/
def execLockPairMade (dt : Nat) (s : State) : Host.Outcome State Fault Refusal := onDev dt (Dev.whenReady Dev.lockPairMade) s

/-- LOCK_PAIR_OPENED_LOCKED (R179). In Locked the lock pair opens without an order; Faulted with cause 10. -/
def execLockPairOpenedLocked (dt : Nat) (s : State) : Host.Outcome State Fault Refusal := onDev dt (Dev.whenReady Dev.lockOpenedLocked) s

/-- REVERSAL_ENDS (R157). A closing reversal ends; Holding with origin 2, or Obstructed at the limit. -/
def execReversalEnds (dt : Nat) (s : State) : Host.Outcome State Fault Refusal := onDev dt (Dev.whenReady (Dev.reversalOver false)) s

/-- BACKOFF_ENDS (R152). An opening back-off ends; Holding with origin 3, or Obstructed at the limit. -/
def execBackoffEnds (dt : Nat) (s : State) : Host.Outcome State Fault Refusal := onDev dt (Dev.whenReady (Dev.reversalOver true)) s

/-- HOLDING_TIMER_END (R160). The Holding timer ends and the doorway acts by its origin. -/
def execHoldingTimerEnd (dt : Nat) (s : State) : Host.Outcome State Fault Refusal := onDev dt (Dev.whenReady Dev.holdingEnd) s

/-- LANDFALL_FORCE_CHECK (R164). 20 ms into entry the hold force is checked, else Faulted with cause 7. -/
def execLandfallForceCheck (dt : Nat) (s : State) : Host.Outcome State Fault Refusal := onDev dt (Dev.whenReady Dev.landfallCheck) s

/-- LANDFALL_ARM_EXPIRY (R163). An armed announcement expires after DOOR_LANDFALL_ARM_TIME. -/
def execLandfallArmExpiry (dt : Nat) (s : State) : Host.Outcome State Fault Refusal := onDev dt (Dev.whenReady Dev.armExpiry) s

/-- LANDFALL_MAX_EXPIRY (R167). DOOR_LANDFALL_MAX passes in Landfall and withdrawal begins. -/
def execLandfallMaxExpiry (dt : Nat) (s : State) : Host.Outcome State Fault Refusal := onDev dt (Dev.whenReady Dev.landfallMax) s

/-- EGRESS_ASSIST_START (R176). The leaves are moved 10,000 µm by hand and the opening assist starts. -/
def execEgressAssistStart (dt : Nat) (s : State) : Host.Outcome State Fault Refusal := onDev dt (Dev.whenReady Dev.assistStart) s

/-- EGRESS_ASSIST_END (R176). The assist reaches the open end or the leaves stop for 500 ms; gates off. -/
def execEgressAssistEnd (dt : Nat) (s : State) : Host.Outcome State Fault Refusal := onDev dt (Dev.whenReady Dev.assistEnd) s

/-- STEP_MOVE_TIMEOUT (R173). The step does not reach its end state within 3 s; Step-faulted. -/
def execStepMoveTimeout (dt : Nat) (s : State) : Host.Outcome State Fault Refusal := onDev dt (Dev.whenReady Dev.stepTimeout) s

/-- REEF_RESUME (R182). DOOR_REEF_RESUME_DELAY after return to Reef 2, the suspended motion resumes. -/
def execReefResume (dt : Nat) (s : State) : Host.Outcome State Fault Refusal := onDev dt (Dev.whenReady Dev.reefResume) s

/-- STEP_FIND_CONTINUE (R392). After DOOR_RECLOSE_DELAY without obstacle, platform find continues. -/
def execStepFindContinue (dt : Nat) (s : State) : Host.Outcome State Fault Refusal := onDev dt (Dev.whenReady Dev.findContinue) s

/-- STEP_RETRACT_AGAIN (R172). DOOR_RECLOSE_DELAY after an obstacle returned the step to Deployed, with no step-nose contact, the step retracts again. -/
def execStepRetractAgain (dt : Nat) (s : State) : Host.Outcome State Fault Refusal := onDev dt (Dev.whenReady Dev.retractAgain) s

end Sys2Proof.Machine
end

