-- ==== Sys2Proof/Machine/DriveRows.lean ====
section
/-! DEFINITION. One meaning per row: the events of the power stage. Every row first lets its time pass. -/

namespace Sys2Proof.Machine

/-- VDS_TRIP (R320). A drain-source monitor trips; bridge gates off and a short-circuit fault latches. -/
def execVdsTrip (dt : Nat) (leg : Nat) (high : Bool) (s : State) : Host.Outcome State Fault Refusal := onDev dt (Dev.whenLive (Dev.vdsTrip leg high)) s

/-- GATE_FAULT (R315). A gate fails to rise or fall within 2 µs of its command. -/
def execGateFault (dt : Nat) (leg : Nat) (high : Bool) (stuckOn : Bool) (s : State) : Host.Outcome State Fault Refusal := onDev dt (Dev.whenLive (Dev.gateFault leg high stuckOn)) s

/-- BOOTSTRAP_LOW (R316). A bootstrap is low for 8 periods in succession. -/
def execBootstrapLow (dt : Nat) (leg : Nat) (mv : Nat) (s : State) : Host.Outcome State Fault Refusal := onDev dt (Dev.whenLive (Dev.bootstrapLow leg mv)) s

/-- PRECHARGE_END (R317). The 200 µs low-side precharge ends and modulation begins. -/
def execPrechargeEnd (dt : Nat) (bridge : Nat) (s : State) : Host.Outcome State Fault Refusal := onDev dt (Dev.whenLive (Dev.prechargeEnd bridge)) s

/-- SENSE_OFFSET_MEASURE (R313). After 10 ms with all gates off the sense offsets are measured. -/
def execSenseOffsetMeasure (dt : Nat) (offsets : List Int) (s : State) : Host.Outcome State Fault Refusal := onDev dt (Dev.whenLive (Dev.measureOffsets false 0 offsets)) s

/-- BUS_OVER_VOLTAGE (R325). VBUS_S at or above DRV_VBUS_OV for 50 µs; winding short. -/
def execBusOverVoltage (dt : Nat) (mv : Nat) (s : State) : Host.Outcome State Fault Refusal := onDev dt (Dev.busOver mv) s

/-- BUS_OVER_VOLTAGE_END (R325). VBUS_S below the hysteresis level for 1 ms; modulation resumes. -/
def execBusOverVoltageEnd (dt : Nat) (mv : Nat) (s : State) : Host.Outcome State Fault Refusal := onDev dt (Dev.whenLive (Dev.busOverEnd mv)) s

end Sys2Proof.Machine
end

