-- ==== Sys2Proof/Machine/HostLinkRows.lean ====
section
/-! DEFINITION. One meaning per row: the events of the host link and of the command engine. Every row first lets its time pass. -/

namespace Sys2Proof.Machine

/-- PACKET_RECEIVED (R111). A host packet arrives whole; it is journalled, checked and accepted or refused. -/
def execPacketReceived (dt : Nat) (bytes : List Byte) (s : State) : Host.Outcome State Fault Refusal := onDev dt (Dev.packetBytes bytes) s

/-- SPI_TRANSACTION_START (R104). SCS_N falls; the device shifts out its status byte and then outbound packets. -/
def execSpiTransactionStart (dt : Nat) (bytes : List Byte) (s : State) : Host.Outcome State Fault Refusal := onDev dt (Dev.spiTransaction bytes) s

/-- SPI_TRANSACTION_END (R106). SCS_N rises; an outbound packet cut off resumes in the next transaction. -/
def execSpiTransactionEnd (dt : Nat) (s : State) : Host.Outcome State Fault Refusal := onDev dt Dev.spiEnd s

/-- SPI_PACKET_TIMEOUT (R106). More than 50 ms pass between bytes of an inbound SPI packet; it is dropped. -/
def execSpiPacketTimeout (dt : Nat) (s : State) : Host.Outcome State Fault Refusal := onDev dt Dev.dropSpi s

/-- HOST_SEGMENT_RECEIVED (R108). A CAN frame with the host identifier arrives and its segment is joined to the packet. -/
def execHostSegmentReceived (dt : Nat) (format : Nat) (bytes : List Byte) (s : State) : Host.Outcome State Fault Refusal := onDev dt (Dev.segmentIn format bytes) s

/-- SEGMENT_TIMEOUT (R110). More than 20 ms pass between segments; the packet is dropped. -/
def execSegmentTimeout (dt : Nat) (s : State) : Host.Outcome State Fault Refusal := onDev dt Dev.segmentGap s

/-- REPLY_SENT (R130). The last byte or segment of a reply leaves; its journal entry moves to state 4. -/
def execReplySent (dt : Nat) (s : State) : Host.Outcome State Fault Refusal := onDev dt Dev.replySent s

/-- ORDER_COMPLETED (R114). An accepted order ends and its completion reply is journalled and queued. -/
def execOrderCompleted (dt : Nat) (tag : Byte) (ok : Bool) (s : State) : Host.Outcome State Fault Refusal := onDev dt (Dev.orderCompleted tag.toNat ok) s

/-- HOST_SILENT (R138). No valid packet arrives for SYS_HOST_TIMEOUT; host-silent is raised and the doorway may close. -/
def execHostSilent (dt : Nat) (s : State) : Host.Outcome State Fault Refusal := onDev dt Dev.hostSilent s

/-- HOST_CHANNEL_SWITCH (R99). After the commit reply leaves, a new host channel group takes effect. -/
def execHostChannelSwitch (dt : Nat) (s : State) : Host.Outcome State Fault Refusal := onDev dt Dev.switchChannel s

end Sys2Proof.Machine
end

