-- ==== Sys2Proof/Machine/LoadRows.lean ====
section
/-! DEFINITION. One meaning per row: the commands and events of the load channels and the jury. Every row first lets its time pass. -/

namespace Sys2Proof.Machine

/-- LCH_SET (R410). Order that stores host on/off orders for named load channels. -/
def execLchSet (dt : Nat) (h : CmdHead) (channels : Nat) (states : Nat) (s : State) : Host.Outcome State Fault Refusal := onDev dt (Dev.hostCommand h (.lchSet channels states)) s

/-- LCH_STATUS (R430). Query that returns the state of all twelve load channels. -/
def execLchStatus (dt : Nat) (h : CmdHead) (s : State) : Host.Outcome State Fault Refusal := onDev dt (Dev.hostCommand h .lchStatus) s

/-- LCH_UNLATCH (R415). Order that clears latches, try counts, pauses and failed-primary marks of named channels. -/
def execLchUnlatch (dt : Nat) (h : CmdHead) (channels : Nat) (s : State) : Host.Outcome State Fault Refusal := onDev dt (Dev.hostCommand h (.lchUnlatch channels)) s

/-- LCH_OFF_TEST (R418). Order that runs the off-state load test at once on named channels. -/
def execLchOffTest (dt : Nat) (h : CmdHead) (channels : Nat) (s : State) : Host.Outcome State Fault Refusal := onDev dt (Dev.hostCommand h (.lchOffTest channels)) s

/-- JURY_MASK_SET (R427). Order that writes the pair and jury group to the smart-power die in one step. -/
def execJuryMaskSet (dt : Nat) (h : CmdHead) (pair : Nat) (mask : Nat) (map : Nat) (s : State) : Host.Outcome State Fault Refusal := onDev dt (Dev.hostCommand h (.juryMaskSet pair mask map)) s

/-- JURY_STATUS (R431). Query that returns jury inputs, the smart-power copy and channels driven. -/
def execJuryStatus (dt : Nat) (h : CmdHead) (s : State) : Host.Outcome State Fault Refusal := onDev dt (Dev.hostCommand h .juryStatus) s

/-- LOAD_DEMAND_CHANGE (R409). A channel's demand changes and it switches on or off. -/
def execLoadDemandChange (dt : Nat) (s : State) : Host.Outcome State Fault Refusal := onDev dt Dev.refreshLoads s

/-- LOAD_TRIP (R411). A channel trips by short, hard short, over-current or temperature. -/
def execLoadTrip (dt : Nat) (channel : Nat) (cause : Nat) (current : Nat) (s : State) : Host.Outcome State Fault Refusal := onDev dt (Dev.loadTrip channel cause current) s

/-- RETRY_PAUSE_END (R414). A channel's retry pause ends and it may restart. -/
def execRetryPauseEnd (dt : Nat) (channel : Nat) (s : State) : Host.Outcome State Fault Refusal := onDev dt (Dev.pauseEnds channel) s

/-- TRY_COUNT_RESET (R412). A channel conducts 1 s without trip and its try count resets. -/
def execTryCountReset (dt : Nat) (channel : Nat) (s : State) : Host.Outcome State Fault Refusal := onDev dt (Dev.triesReset channel) s

/-- THERMAL_CLEAR (R413). The junction falls to 160 °C and the thermal state clears. -/
def execThermalClear (dt : Nat) (channel : Nat) (temp : Int) (s : State) : Host.Outcome State Fault Refusal := onDev dt (Dev.thermalEnds channel temp) s

/-- GROUP_DERATING (R416). Group sum over 16 A for 1 ms lowers, or below 15 A raises, channel limits. -/
def execGroupDerating (dt : Nat) (s : State) : Host.Outcome State Fault Refusal := onDev dt (Dev.whenPower Dev.derate) s

/-- LAMP_DARK (R417). Ten samples below the open level declare a conducting channel dark. -/
def execLampDark (dt : Nat) (channel : Nat) (s : State) : Host.Outcome State Fault Refusal := onDev dt (Dev.whenPower (Dev.lampDark channel)) s

/-- OFF_STATE_TEST (R418). Every LCH_OFF_TEST_PERIOD a 1 ms test pulse checks an off load. -/
def execOffStateTest (dt : Nat) (channel : Nat) (mv : Nat) (s : State) : Host.Outcome State Fault Refusal := onDev dt (Dev.offTest channel mv) s

/-- FREEWHEEL_MISSING (R424). At the end of the 1 ms watch after switch-off a pad went below −1 V. -/
def execFreewheelMissing (dt : Nat) (channel : Nat) (mv : Int) (s : State) : Host.Outcome State Fault Refusal := onDev dt (Dev.whenLive (Dev.freewheelMissing channel mv)) s

/-- JURY_CHANGE (R425). JURY changes and masked channels are taken over or handed back. -/
def execJuryChange (dt : Nat) (level : Bool) (s : State) : Host.Outcome State Fault Refusal := onDev dt (Dev.juryChange level) s

/-- JIN_CHANGE (R425). A filtered JIN change is followed by its masked channels. -/
def execJinChange (dt : Nat) (input : Nat) (level : Bool) (s : State) : Host.Outcome State Fault Refusal := onDev dt (Dev.jinChange input level) s

/-- SENSE_PIN_UPDATE (R423). Every 100 µs SNSA and SNSB are updated. -/
def execSensePinUpdate (dt : Nat) (currents : List Nat) (temps : List Int) (s : State) : Host.Outcome State Fault Refusal := onDev dt (Dev.whenPower (Dev.measureLoads currents temps)) s

end Sys2Proof.Machine
end

