-- ==== Sys2Proof/Machine/LogRows.lean ====
section
/-! DEFINITION. One meaning per row: the commands and events of the Log. Every row first lets its time pass. -/

namespace Sys2Proof.Machine

/-- LOG_STATUS (R573). Query that returns the state of the Log. -/
def execLogStatus (dt : Nat) (h : CmdHead) (s : State) : Host.Outcome State Fault Refusal := onDev dt (Dev.hostCommand h .logStatus) s

/-- LOG_READ (R570). Query that returns cycle records by sequence. -/
def execLogRead (dt : Nat) (h : CmdHead) (first : Nat) (count : Nat) (s : State) : Host.Outcome State Fault Refusal := onDev dt (Dev.hostCommand h (.logRead first count)) s

/-- TRACE_LIST (R571). Query that lists trace slots. -/
def execTraceList (dt : Nat) (h : CmdHead) (first : Nat) (count : Nat) (s : State) : Host.Outcome State Fault Refusal := onDev dt (Dev.hostCommand h (.traceList first count)) s

/-- TRACE_READ (R572). Query that returns bytes of a trace slot. -/
def execTraceRead (dt : Nat) (h : CmdHead) (slot : Nat) (off : Nat) (count : Nat) (s : State) : Host.Outcome State Fault Refusal := onDev dt (Dev.hostCommand h (.traceRead slot off count)) s

/-- TRACE_CAPTURE (R568). Order that triggers a trace capture and replies when it is complete. -/
def execTraceCapture (dt : Nat) (h : CmdHead) (period : Nat) (pre : Nat) (pin : Nat) (s : State) : Host.Outcome State Fault Refusal := onDev dt (Dev.hostCommand h (.traceCapture period pre pin)) s

/-- TRACE_PIN (R565). Order that pins or unpins a trace. -/
def execTracePin (dt : Nat) (h : CmdHead) (slot : Nat) (action : Nat) (s : State) : Host.Outcome State Fault Refusal := onDev dt (Dev.hostCommand h (.tracePin slot action)) s

/-- LOG_ERASE (R569). Order that erases the ring and/or frees trace slots. -/
def execLogErase (dt : Nat) (h : CmdHead) (what : Nat) (s : State) : Host.Outcome State Fault Refusal := onDev dt (Dev.hostCommand h (.logErase what)) s

/-- CYCLE_CAST (R556). A cycle or quiet interval ends and its record is cast into the ring. -/
def execCycleCast (dt : Nat) (steps : Nat) (ok : Bool) (s : State) : Host.Outcome State Fault Refusal := onDev dt (Dev.whenReady (Dev.cycleCast steps ok)) s

/-- LEARNED_TABLES_WRITE (R556). After a cast the learned tables are written to the older copy. -/
def execLearnedTablesWrite (dt : Nat) (ok : Bool) (s : State) : Host.Outcome State Fault Refusal := onDev dt (Dev.whenReady (Dev.tablesWritten ok)) s

/-- DRAFT_WRITE (R558). The running record is written as draft at state changes and every second. -/
def execDraftWrite (dt : Nat) (ok : Bool) (s : State) : Host.Outcome State Fault Refusal := onDev dt (Dev.whenReady (Dev.draftWritten ok)) s

/-- QUIET_MAX_REACHED (R552). A quiet interval lasts LOG_QUIET_MAX and is cast. -/
def execQuietMaxReached (dt : Nat) (s : State) : Host.Outcome State Fault Refusal := onDev dt (Dev.whenReady Dev.quietOver) s

/-- TRACE_TRIGGER (R563). A trigger starts a capture in a free or unpinned slot. -/
def execTraceTrigger (dt : Nat) (ok : Bool) (s : State) : Host.Outcome State Fault Refusal := onDev dt (Dev.whenReady (Dev.triggered ok)) s

/-- TRACE_SAMPLE (R563). A trace sample is taken and written each period. -/
def execTraceSample (dt : Nat) (ok : Bool) (s : State) : Host.Outcome State Fault Refusal := onDev dt (Dev.whenLive (Dev.takeSample ok)) s

/-- TRACE_COMPLETE (R563). 254 samples are written and the trace becomes complete. -/
def execTraceComplete (dt : Nat) (ok : Bool) (s : State) : Host.Outcome State Fault Refusal := onDev dt (Dev.whenLive (Dev.traceFull ok)) s

end Sys2Proof.Machine
end

