-- ==== Sys2Proof/Machine/LoopRows.lean ====
section
/-! DEFINITION. One meaning per row: the samples of Pilot and Sextant and their events. Every row first lets its time pass. -/

namespace Sys2Proof.Machine

/-- CURRENT_SAMPLE (R231). Every 25 µs the currents are sampled and the current loops run. -/
def execCurrentSample (dt : Nat) (seen : CurrentIn) (s : State) : Host.Outcome State Fault Refusal := onDev dt (Dev.whenLive fun d => (d.takeWrites 0).currentSample seen) s

/-- SPEED_SAMPLE (R243). Every 125 µs, with every fifth current sample, the speed loop runs and the force estimate is formed. -/
def execSpeedSample (dt : Nat) (ntc : Nat) (s : State) : Host.Outcome State Fault Refusal := onDev dt (Dev.whenLive fun d => if d.onGrid 5 then (d.speedSample ntc).forceSample else d) s

/-- POSITION_SAMPLE (R231). Every 500 µs, with every twentieth current sample, the position loop runs. -/
def execPositionSample (dt : Nat) (s : State) : Host.Outcome State Fault Refusal := onDev dt (Dev.whenLive fun d => if d.onGrid 20 then d.positionSample else d) s

/-- HALL_EDGE_OVERDUE (R247). No Hall edge within 3 edge intervals of the observer speed; feedback lost. -/
def execHallEdgeOverdue (dt : Nat) (s : State) : Host.Outcome State Fault Refusal := onDev dt (Dev.whenLive Dev.hallOverdue) s

/-- DEAD_RECKONING_END (R250). Dead reckoning ends by end stop, overrun, time or stop request; Faulted cause 4. -/
def execDeadReckoningEnd (dt : Nat) (s : State) : Host.Outcome State Fault Refusal := onDev dt (Dev.whenReady Dev.drEnd) s

/-- TRANSFER_TO_AUTO (R260). At the next position sample the loops are preset and automatic control resumes. -/
def execTransferToAuto (dt : Nat) (axis : Nat) (s : State) : Host.Outcome State Fault Refusal := onDev dt (Dev.whenLive fun d => if d.onGrid 20 then d.transferToAuto axis else d) s

/-- INJECTION_CAPTURE_COMPLETE (R264). The capture of 4,096 samples is full and the signal stops. -/
def execInjectionCaptureComplete (dt : Nat) (s : State) : Host.Outcome State Fault Refusal := onDev dt (Dev.whenLive Dev.injectionDone) s

/-- INJECTION_ABORT (R265). An excursion, obstacle, feedback loss or leaving Maintenance ends the injection. -/
def execInjectionAbort (dt : Nat) (s : State) : Host.Outcome State Fault Refusal := onDev dt (Dev.whenLive Dev.injectionAbort) s

/-- HALL_STATE_CHANGE (R276). A filtered Hall code change is classed, counted and timed. -/
def execHallStateChange (dt : Nat) (code : Nat) (s : State) : Host.Outcome State Fault Refusal := onDev dt (Dev.whenLive (Dev.hallChange code)) s

/-- SPEED_TIMEOUT (R284). SEXT_SPEED_TIMEOUT passes without an edge; the speed becomes 0. -/
def execSpeedTimeout (dt : Nat) (s : State) : Host.Outcome State Fault Refusal := onDev dt (Dev.whenLive Dev.speedTimeout) s

/-- PASS_THROUGH_EDGE (R300). A filtered pass-through code change is counted for the follower. -/
def execPassThroughEdge (dt : Nat) (code : Nat) (s : State) : Host.Outcome State Fault Refusal := onDev dt (Dev.whenLive (Dev.passThrough code)) s

end Sys2Proof.Machine
end

