-- ==== Sys2Proof/Machine/ParamRows.lean ====
section
/-! DEFINITION. One meaning per row: the parameter commands and the boundary of the blocks without a sample of their own. Every row first lets its time pass. -/

namespace Sys2Proof.Machine

/-- PARAM_READ (R121). Query that returns the values in force of up to 64 parameters. -/
def execParamRead (dt : Nat) (h : CmdHead) (ids : List Nat) (s : State) : Host.Outcome State Fault Refusal := onDev dt (Dev.hostCommand h (.paramRead ids)) s

/-- PARAM_WRITE (R121). Order that writes up to 32 parameters all-or-nothing, each taking effect at its block boundary. -/
def execParamWrite (dt : Nat) (h : CmdHead) (pairs : List (Nat × Nat)) (s : State) : Host.Outcome State Fault Refusal := onDev dt (Dev.hostCommand h (.paramWrite pairs)) s

/-- PARAM_GROUP_STAGE (R122). Order that range-checks and stages the values of one parameter group. -/
def execParamGroupStage (dt : Nat) (h : CmdHead) (group : Nat) (values : List Nat) (s : State) : Host.Outcome State Fault Refusal := onDev dt (Dev.hostCommand h (.paramGroupStage group values)) s

/-- PARAM_COMMIT (R123). Order that runs the consistency checks of staged groups of one block and applies them atomically. -/
def execParamCommit (dt : Nat) (h : CmdHead) (groups : List Nat) (s : State) : Host.Outcome State Fault Refusal := onDev dt (Dev.hostCommand h (.paramCommit groups)) s

/-- PARAM_GROUP_DISCARD (R125). Order that discards staged groups. -/
def execParamGroupDiscard (dt : Nat) (h : CmdHead) (groups : List Nat) (s : State) : Host.Outcome State Fault Refusal := onDev dt (Dev.hostCommand h (.paramGroupDiscard groups)) s

/-- PARAM_INFO (R126). Query that returns class, type, range, default, unit and group of a parameter. -/
def execParamInfo (dt : Nat) (h : CmdHead) (id : Nat) (s : State) : Host.Outcome State Fault Refusal := onDev dt (Dev.hostCommand h (.paramInfo id)) s

/-- PARAM_IMAGE_SAVE (R127). Order that stores the working set in flash as the parameter image. -/
def execParamImageSave (dt : Nat) (h : CmdHead) (s : State) : Host.Outcome State Fault Refusal := onDev dt (Dev.hostCommand h .paramImageSave) s

/-- PARAM_IMAGE_READ (R127). Query that returns bytes of the stored parameter image. -/
def execParamImageRead (dt : Nat) (h : CmdHead) (off : Nat) (length : Nat) (s : State) : Host.Outcome State Fault Refusal := onDev dt (Dev.hostCommand h (.paramImageRead off length)) s

/-- PARAM_IMAGE_LOAD (R127). Order that fills a window of the image staging buffer. -/
def execParamImageLoad (dt : Nat) (h : CmdHead) (off : Nat) (bytes : List Byte) (s : State) : Host.Outcome State Fault Refusal := onDev dt (Dev.hostCommand h (.paramImageLoad off bytes)) s

/-- PARAM_IMAGE_INSTALL (R127). Order that checks the staged image and writes it to flash as the stored image. -/
def execParamImageInstall (dt : Nat) (h : CmdHead) (crc : Nat) (s : State) : Host.Outcome State Fault Refusal := onDev dt (Dev.hostCommand h (.paramImageInstall crc)) s

/-- PARAM_FACTORY (R127). Order that writes the factory image to flash. -/
def execParamFactory (dt : Nat) (h : CmdHead) (s : State) : Host.Outcome State Fault Refusal := onDev dt (Dev.hostCommand h .paramFactory) s

/-- PARAM_LIST (R614). Query that lists parameter IDs of a block from a start index. -/
def execParamList (dt : Nat) (h : CmdHead) (block : Nat) (start : Nat) (s : State) : Host.Outcome State Fault Refusal := onDev dt (Dev.hostCommand h (.paramList block start)) s

/-- REGISTER_WRITE (R15). A parameter write without a row of its own takes effect at its block boundary. -/
def execRegisterWrite (dt : Nat) (s : State) : Host.Outcome State Fault Refusal := onDev dt (Dev.takeWrites 4) s

end Sys2Proof.Machine
end

