-- ==== Sys2Proof/Machine/SkinRows.lean ====
section
/-! DEFINITION. One meaning per row: the commands and events of the Sounding Skin, the arbiter and the legacy edges. Every row first lets its time pass. -/

namespace Sys2Proof.Machine

/-- SKIN_PORT_SUSPEND (R367). SKIN_PORT_SET action 0: stops the syncs of a port and keeps its baselines. -/
def execSkinPortSuspend (dt : Nat) (h : CmdHead) (port : Nat) (s : State) : Host.Outcome State Fault Refusal := onDev dt (Dev.hostCommand h (.skinPortSet port 0)) s

/-- SKIN_PORT_RESUME (R367). SKIN_PORT_SET action 1: resumes a suspended port. -/
def execSkinPortResume (dt : Nat) (h : CmdHead) (port : Nat) (s : State) : Host.Outcome State Fault Refusal := onDev dt (Dev.hostCommand h (.skinPortSet port 1)) s

/-- SKIN_PORT_RETRAIN (R344). SKIN_PORT_SET action 2: starts training of a port. -/
def execSkinPortRetrain (dt : Nat) (h : CmdHead) (port : Nat) (s : State) : Host.Outcome State Fault Refusal := onDev dt (Dev.hostCommand h (.skinPortSet port 2)) s

/-- SKIN_PORT_STATUS (R368). Query that returns the state and counts of a skin port. -/
def execSkinPortStatus (dt : Nat) (h : CmdHead) (port : Nat) (s : State) : Host.Outcome State Fault Refusal := onDev dt (Dev.hostCommand h (.skinPortStatus port)) s

/-- SKIN_TILE_LIST (R369). Query that lists the tiles of a port with faults and identities. -/
def execSkinTileList (dt : Nat) (h : CmdHead) (port : Nat) (s : State) : Host.Outcome State Fault Refusal := onDev dt (Dev.hostCommand h (.skinTileList port)) s

/-- SKIN_FRAME_READ (R370). Query that returns a window of a skin map from the last frame. -/
def execSkinFrameRead (dt : Nat) (h : CmdHead) (port : Nat) (map : Nat) (alongFirst : Nat) (alongCount : Nat) (rowFirst : Nat) (rowCount : Nat) (s : State) : Host.Outcome State Fault Refusal := onDev dt (Dev.hostCommand h (.skinFrameRead port map alongFirst alongCount rowFirst rowCount)) s

/-- SKIN_BASELINE_REBUILD (R350). Order that rebuilds the baselines of named ports over 16 frames. -/
def execSkinBaselineRebuild (dt : Nat) (h : CmdHead) (ports : Nat) (s : State) : Host.Outcome State Fault Refusal := onDev dt (Dev.hostCommand h (.skinBaselineRebuild ports)) s

/-- CONTACT_LIST (R401). Query that returns contact or line records of a port with their classes. -/
def execContactList (dt : Nat) (h : CmdHead) (port : Nat) (kind : Nat) (first : Nat) (count : Nat) (s : State) : Host.Outcome State Fault Refusal := onDev dt (Dev.hostCommand h (.contactList port kind first count)) s

/-- OBSTACLE_STATE (R403). Query that returns obstacle, seal, pinch and demand state. -/
def execObstacleState (dt : Nat) (h : CmdHead) (s : State) : Host.Outcome State Fault Refusal := onDev dt (Dev.hostCommand h .obstacleState) s

/-- DRAG_STATE (R404). Query that returns the drag state, tension and pinch-line history. -/
def execDragState (dt : Nat) (h : CmdHead) (s : State) : Host.Outcome State Fault Refusal := onDev dt (Dev.hostCommand h .dragState) s

/-- LEGACY_EDGE_STATUS (R371). Query that returns the excitation and the state of each legacy edge. -/
def execLegacyEdgeStatus (dt : Nat) (h : CmdHead) (s : State) : Host.Outcome State Fault Refusal := onDev dt (Dev.hostCommand h .legacyEdgeStatus) s

/-- SKIN_FRAME_SYNC (R341). Every 10 ms (20 ms binned) a sync is sent on every enabled port. -/
def execSkinFrameSync (dt : Nat) (s : State) : Host.Outcome State Fault Refusal := onDev dt (Dev.whenLive fun d => (d.takeWrites 2).frameSync) s

/-- TILE_PACKET_RECEIVED (R343). A tile packet arrives whole and is kept or discarded. -/
def execTilePacketReceived (dt : Nat) (port : Nat) (bytes : List Byte) (violations : Nat) (s : State) : Host.Outcome State Fault Refusal := onDev dt (Dev.whenLive (Dev.tilePacket port bytes violations)) s

/-- SKIN_FRAME_EVALUATED (R357). At 9.25 ms the frame is labelled, contacts passed on and the pinch-line line driven. -/
def execSkinFrameEvaluated (dt : Nat) (s : State) : Host.Outcome State Fault Refusal := onDev dt (Dev.whenLive Dev.evaluateFrame) s

/-- SKIN_PORT_FAULT (R361). A port loses lock, mismatches its chain or has all tiles faulted. -/
def execSkinPortFault (dt : Nat) (port : Nat) (cause : Nat) (s : State) : Host.Outcome State Fault Refusal := onDev dt (Dev.whenLive (Dev.portFails port cause)) s

/-- PORT_TRAINING (R344). A port trains its link, enumerates its tiles and sets the scan mode. -/
def execPortTraining (dt : Nat) (port : Nat) (found : TrainIn) (s : State) : Host.Outcome State Fault Refusal := onDev dt (Dev.whenLive (Dev.portTrained port found)) s

/-- PORT_RETRAIN_TIMER (R361). A faulted port retries training every 100 ms. -/
def execPortRetrainTimer (dt : Nat) (port : Nat) (s : State) : Host.Outcome State Fault Refusal := onDev dt (Dev.whenLive (Dev.portRetrain port)) s

/-- REBUILD_COMPLETE (R350). After 16 frames the summed values become baselines. -/
def execRebuildComplete (dt : Nat) (s : State) : Host.Outcome State Fault Refusal := onDev dt (Dev.whenLive Dev.rebuildDone) s

/-- EDGE_SAMPLE (R364). Every 100 µs each legacy edge ratio is read and its state confirmed. -/
def execEdgeSample (dt : Nat) (a : Nat) (b : Nat) (c : Nat) (exc : Nat) (s : State) : Host.Outcome State Fault Refusal := onDev dt (Dev.whenLive (Dev.edgeSample a b c exc)) s

/-- EXCITATION_FAULT (R362). EXC out of range for 1 ms; every edge reports excitation fault. -/
def execExcitationFault (dt : Nat) (exc : Nat) (s : State) : Host.Outcome State Fault Refusal := onDev dt (Dev.whenLive (Dev.excitationFault exc)) s

/-- PW_HOLD_EXPIRY (R364). A pressure-wave actuation hold of SKIN_PW_HOLD ends. -/
def execPwHoldExpiry (dt : Nat) (edge : Nat) (s : State) : Host.Outcome State Fault Refusal := onDev dt (Dev.whenLive (Dev.pwHoldEnd edge)) s

end Sys2Proof.Machine
end

