-- ==== Sys2Proof/Machine/SupplyRows.lean ====
section
/-! DEFINITION. One meaning per row: supplies, clocks, resets, start-up and reefing. Every row first lets its time pass. -/

namespace Sys2Proof.Machine

/-- POWER_ON_RESET (R82). VIO or VCORE falls below its threshold; the controller die enters reset. -/
def execPowerOnReset (dt : Nat) (s : State) : Host.Outcome State Fault Refusal := onDev dt Dev.powerLost s

/-- RST_N_LOW (R82). RST_N held low for 10 µs resets the controller die. -/
def execRstNLow (dt : Nat) (width : Nat) (s : State) : Host.Outcome State Fault Refusal := onDev dt (Dev.rstPulse width) s

/-- VKEEP_LOST (R68). VKEEP falls below its threshold; keep registers are lost. -/
def execVkeepLost (dt : Nat) (s : State) : Host.Outcome State Fault Refusal := onDev dt Dev.vkeepLost s

/-- START_UP (R84). Once RST_N, VIO, VCORE and VKEEP are present, the start-up sequence runs to Ready. -/
def execStartUp (dt : Nat) (found : StartUpIn) (s : State) : Host.Outcome State Fault Refusal := onDev dt (Dev.startUp found) s

/-- CLOCK_CHECK_RETRY (R85). A failed clock check or PLL lock is retried every 10 ms. -/
def execClockCheckRetry (dt : Nat) (found : StartUpIn) (s : State) : Host.Outcome State Fault Refusal := onDev dt (Dev.clockRetry found) s

/-- READY (R84). Start-up reaches step 13; the doorway is classified and ready is sent. -/
def execReady (dt : Nat) (s : State) : Host.Outcome State Fault Refusal := onDev dt Dev.becomeReady s

/-- STARTUP_VHV_WAIT_END (R92). VHV rises above the Reef 4 recovery threshold and start-up passes step 10. -/
def execStartupVhvWaitEnd (dt : Nat) (found : StartUpIn) (s : State) : Host.Outcome State Fault Refusal := onDev dt (Dev.vhvWaitEnds found) s

/-- WATCHDOG_EXPIRY (R82). The application watchdog is not serviced in time; reset with cause bit 3. -/
def execWatchdogExpiry (dt : Nat) (s : State) : Host.Outcome State Fault Refusal := onDev dt Dev.watchdog s

/-- AVS_TICK (R72). Every 1 ms the worst slack is judged and VCORE is requested up or down. -/
def execAvsTick (dt : Nat) (slack : Nat) (s : State) : Host.Outcome State Fault Refusal := onDev dt (Dev.avsTick slack) s

/-- VCORE_MARGIN_RESET (R72). Slack below 2 taps for 20 ticks at the limit resets the device with cause bit 5. -/
def execVcoreMarginReset (dt : Nat) (s : State) : Host.Outcome State Fault Refusal := onDev dt Dev.marginReset s

/-- AVS_EXCHANGE_END (R78). An AVS exchange reply is complete and judged; failures are repeated. -/
def execAvsExchangeEnd (dt : Nat) (reply : List Byte) (s : State) : Host.Outcome State Fault Refusal := onDev dt (Dev.avsEnd reply) s

/-- AVS_RETRY (R78). While the interface is failed, an exchange is retried once per second. -/
def execAvsRetry (dt : Nat) (s : State) : Host.Outcome State Fault Refusal := onDev dt Dev.avsRetry s

/-- MAIN_CLOCK_FAULT (R79). The main clock deviates over 3 % for 2 ticks; outputs off and reset with cause bit 4. -/
def execMainClockFault (dt : Nat) (s : State) : Host.Outcome State Fault Refusal := onDev dt (Dev.clockFails 4) s

/-- BINNACLE_RC_FAULT (R79). The Binnacle RC deviates over 3 %; outputs off and reset with cause bit 9. -/
def execBinnacleRcFault (dt : Nat) (s : State) : Host.Outcome State Fault Refusal := onDev dt (Dev.clockFails 9) s

/-- BUS_CLOCK_LOST (R513). No CANCLK edge for 10 µs; both controllers leave the bus. -/
def execBusClockLost (dt : Nat) (s : State) : Host.Outcome State Fault Refusal := onDev dt Dev.busClockLost s

/-- BUS_CLOCK_RESTORED (R513). CANCLK has run in tolerance for 10 ms; controllers integrate again. -/
def execBusClockRestored (dt : Nat) (s : State) : Host.Outcome State Fault Refusal := onDev dt Dev.busClockRestored s

/-- KEEP_CLOCK_LOST (R79). The 32.768 kHz clock fails; keep time is marked invalid. -/
def execKeepClockLost (dt : Nat) (s : State) : Host.Outcome State Fault Refusal := onDev dt Dev.keepClockLost s

/-- WAKE (R88). WAKE high for 100 µs, or supplies returning, wakes from Parked or Dormant. -/
def execWake (dt : Nat) (source : Nat) (s : State) : Host.Outcome State Fault Refusal := onDev dt (Dev.wake source) s

/-- KEEP_ALARM (R88). SYS_PARK_ALARM seconds after entry to Parked, the device wakes. -/
def execKeepAlarm (dt : Nat) (s : State) : Host.Outcome State Fault Refusal := onDev dt Dev.keepAlarm s

/-- VDRV_LOST (R68). VDRV falls below its threshold; gates off and motion orders refused. -/
def execVdrvLost (dt : Nat) (mv : Nat) (s : State) : Host.Outcome State Fault Refusal := onDev dt (Dev.vdrvLost mv) s

/-- VDRV_PRESENT (R68). VDRV rises through its threshold; gate drivers become available. -/
def execVdrvPresent (dt : Nat) (mv : Nat) (s : State) : Host.Outcome State Fault Refusal := onDev dt (Dev.vdrvPresent mv) s

/-- SMART_POWER_LOCKOUT (R68). VHV falls below 12 V; every channel, output and gate is off. -/
def execSmartPowerLockout (dt : Nat) (s : State) : Host.Outcome State Fault Refusal := onDev dt Dev.lockOut s

/-- REEF_ENTER (R91). VHV stays below a stage threshold for its filter time and the stage's actions take effect. -/
def execReefEnter (dt : Nat) (stage : Nat) (vhv : Nat) (s : State) : Host.Outcome State Fault Refusal := onDev dt (Dev.reefEnter stage vhv) s

/-- REEF_LEAVE (R90). VHV stays above a recovery threshold for SYS_REEF_RECOVER_TIME and the stage is left. -/
def execReefLeave (dt : Nat) (vhv : Nat) (s : State) : Host.Outcome State Fault Refusal := onDev dt (Dev.reefLeave vhv) s

/-- REEF4_RESET (R91). In Reef 4, once the leaf is at rest or 250 ms pass, the device resets with cause bit 6. -/
def execReef4Reset (dt : Nat) (s : State) : Host.Outcome State Fault Refusal := onDev dt Dev.reef4Reset s

/-- REEF4_RESTART (R92). VHV stays above the Reef 4 recovery threshold for 100 ms and start-up runs. -/
def execReef4Restart (dt : Nat) (vhv : Nat) (s : State) : Host.Outcome State Fault Refusal := onDev dt (Dev.reef4Restart vhv) s

/-- DIE_TEMPERATURE_TICK (R581). Every 1 ms each die temperature is read and warm and hot states are entered or left. -/
def execDieTemperatureTick (dt : Nat) (controller : Int) (power : Int) (memory : Int) (s : State) : Host.Outcome State Fault Refusal := onDev dt (Dev.dieTemps controller power memory) s

/-- SMART_POWER_LOCKOUT_END (R68). VHV rises through 13.0 V and the smart-power die leaves lock-out, so jury channels, safe outputs and gates become available again. -/
def execSmartPowerLockoutEnd (dt : Nat) (s : State) : Host.Outcome State Fault Refusal := onDev dt Dev.lockOutEnds s

/-- KEEP_CLOCK_RESTORED (R582). The keep clock has counted within 1 % of the main clock for 1 s and the keep-clock-lost condition clears. -/
def execKeepClockRestored (dt : Nat) (s : State) : Host.Outcome State Fault Refusal := onDev dt Dev.keepClockRestored s

/-- DEBUG_RESET (R82). A reset from the enabled debug port resets the controller die with cause bit 7. -/
def execDebugReset (dt : Nat) (s : State) : Host.Outcome State Fault Refusal := onDev dt Dev.debugReset s

end Sys2Proof.Machine
end

