-- ==== Sys2Proof/Machine/SystemRows.lean ====
section
/-! DEFINITION. One meaning per row: the system commands. Every row first lets its time pass. -/

namespace Sys2Proof.Machine

/-- IDENTIFY (R614). Query that returns part number, grade, revision, serial number, bank versions, image CRC and seal state. -/
def execIdentify (dt : Nat) (h : CmdHead) (s : State) : Host.Outcome State Fault Refusal := onDev dt (Dev.hostCommand h .identify) s

/-- STATUS (R614). Query that returns doorway, step and reef state, flags, commands in flight and event queue fill. -/
def execStatus (dt : Nat) (h : CmdHead) (s : State) : Host.Outcome State Fault Refusal := onDev dt (Dev.hostCommand h .status) s

/-- RESET (R131). Order that resets the device and is answered DONE after the restart. -/
def execReset (dt : Nat) (h : CmdHead) (s : State) : Host.Outcome State Fault Refusal := onDev dt (Dev.hostCommand h .reset) s

/-- PARK (R87). Order that, when Locked or Isolated and at rest, de-energises the outputs, seals journal and Log and switches the controller off with the keep oscillator running. -/
def execPark (dt : Nat) (h : CmdHead) (s : State) : Host.Outcome State Fault Refusal := onDev dt (Dev.hostCommand h .park) s

/-- DORMANT (R87). Order that enters Dormant as PARK does, with the 32.768 kHz oscillator stopped. -/
def execDormant (dt : Nat) (h : CmdHead) (s : State) : Host.Outcome State Fault Refusal := onDev dt (Dev.hostCommand h .dormant) s

/-- EVENT_MASK (R135). Order that sets the 192-bit mask of event sources sent to the host. -/
def execEventMask (dt : Nat) (h : CmdHead) (mask : Nat) (s : State) : Host.Outcome State Fault Refusal := onDev dt (Dev.hostCommand h (.eventMask mask)) s

/-- EVENT_COUNTS (R614). Query that returns the masked and lost counts of the 32 sources of one group. -/
def execEventCounts (dt : Nat) (h : CmdHead) (group : Nat) (s : State) : Host.Outcome State Fault Refusal := onDev dt (Dev.hostCommand h (.eventCounts group)) s

/-- JOURNAL_READ (R614). Query that lists tag, opcode, state and accept time of each command in flight. -/
def execJournalRead (dt : Nat) (h : CmdHead) (s : State) : Host.Outcome State Fault Refusal := onDev dt (Dev.hostCommand h .journalRead) s

/-- FW_LOAD_BEGIN (R119). Order that erases the inactive firmware bank for an image of the given length. -/
def execFwLoadBegin (dt : Nat) (h : CmdHead) (bank : Nat) (length : Nat) (s : State) : Host.Outcome State Fault Refusal := onDev dt (Dev.hostCommand h (.fwLoadBegin bank length)) s

/-- FW_LOAD_DATA (R119). Order that writes and reads back a block of firmware bytes at an offset. -/
def execFwLoadData (dt : Nat) (h : CmdHead) (off : Nat) (bytes : List Byte) (s : State) : Host.Outcome State Fault Refusal := onDev dt (Dev.hostCommand h (.fwLoadData off bytes)) s

/-- FW_LOAD_END (R119). Order that verifies the loaded firmware image against its CRC-32C. -/
def execFwLoadEnd (dt : Nat) (h : CmdHead) (crc : Nat) (s : State) : Host.Outcome State Fault Refusal := onDev dt (Dev.hostCommand h (.fwLoadEnd crc)) s

/-- FW_ACTIVATE (R119). Order that activates a firmware bank and restarts the device with cause bit 8. -/
def execFwActivate (dt : Nat) (h : CmdHead) (bank : Nat) (s : State) : Host.Outcome State Fault Refusal := onDev dt (Dev.hostCommand h (.fwActivate bank)) s

/-- CANCEL (R117). Order that ends a cancellable order in flight named by its tag. -/
def execCancel (dt : Nat) (h : CmdHead) (target : Nat) (s : State) : Host.Outcome State Fault Refusal := onDev dt (Dev.hostCommand h (.cancel target)) s

/-- ECHO (R614). Query that returns the bytes it carries. -/
def execEcho (dt : Nat) (h : CmdHead) (bytes : List Byte) (s : State) : Host.Outcome State Fault Refusal := onDev dt (Dev.hostCommand h (.echo bytes)) s

end Sys2Proof.Machine
end

