-- ==== Sys2Proof/Machine/Dispatch.lean ====
section
/-! DEFINITION. Which meaning each command and event has: one direct call per constructor. -/

namespace Sys2Proof.Machine

/-- The effect of a command on everything but the queue. -/
def exec (i : Instr) (s : State) : Host.Outcome State Fault Refusal :=
  match i with
  | .identify dt h => Sys2Proof.Machine.execIdentify dt h s
  | .status dt h => Sys2Proof.Machine.execStatus dt h s
  | .reset dt h => Sys2Proof.Machine.execReset dt h s
  | .park dt h => Sys2Proof.Machine.execPark dt h s
  | .dormant dt h => Sys2Proof.Machine.execDormant dt h s
  | .eventMask dt h mask => Sys2Proof.Machine.execEventMask dt h mask s
  | .eventCounts dt h group => Sys2Proof.Machine.execEventCounts dt h group s
  | .journalRead dt h => Sys2Proof.Machine.execJournalRead dt h s
  | .fwLoadBegin dt h bank length => Sys2Proof.Machine.execFwLoadBegin dt h bank length s
  | .fwLoadData dt h off bytes => Sys2Proof.Machine.execFwLoadData dt h off bytes s
  | .fwLoadEnd dt h crc => Sys2Proof.Machine.execFwLoadEnd dt h crc s
  | .fwActivate dt h bank => Sys2Proof.Machine.execFwActivate dt h bank s
  | .cancel dt h target => Sys2Proof.Machine.execCancel dt h target s
  | .echo dt h bytes => Sys2Proof.Machine.execEcho dt h bytes s
  | .paramRead dt h ids => Sys2Proof.Machine.execParamRead dt h ids s
  | .paramWrite dt h pairs => Sys2Proof.Machine.execParamWrite dt h pairs s
  | .paramGroupStage dt h group values => Sys2Proof.Machine.execParamGroupStage dt h group values s
  | .paramCommit dt h groups => Sys2Proof.Machine.execParamCommit dt h groups s
  | .paramGroupDiscard dt h groups => Sys2Proof.Machine.execParamGroupDiscard dt h groups s
  | .paramInfo dt h id => Sys2Proof.Machine.execParamInfo dt h id s
  | .paramImageSave dt h => Sys2Proof.Machine.execParamImageSave dt h s
  | .paramImageRead dt h off length => Sys2Proof.Machine.execParamImageRead dt h off length s
  | .paramImageLoad dt h off bytes => Sys2Proof.Machine.execParamImageLoad dt h off bytes s
  | .paramImageInstall dt h crc => Sys2Proof.Machine.execParamImageInstall dt h crc s
  | .paramFactory dt h => Sys2Proof.Machine.execParamFactory dt h s
  | .paramList dt h block start => Sys2Proof.Machine.execParamList dt h block start s
  | .doorRelease dt h => Sys2Proof.Machine.execDoorRelease dt h s
  | .doorOpen dt h start => Sys2Proof.Machine.execDoorOpen dt h start s
  | .doorClose dt h start => Sys2Proof.Machine.execDoorClose dt h start s
  | .doorHold dt h time => Sys2Proof.Machine.execDoorHold dt h time s
  | .doorIsolate dt h => Sys2Proof.Machine.execDoorIsolate dt h s
  | .doorRestore dt h => Sys2Proof.Machine.execDoorRestore dt h s
  | .landfallAnnounce dt h side => Sys2Proof.Machine.execLandfallAnnounce dt h side s
  | .landfallWithdraw dt h => Sys2Proof.Machine.execLandfallWithdraw dt h s
  | .stepDeploy dt h => Sys2Proof.Machine.execStepDeploy dt h s
  | .stepRetract dt h => Sys2Proof.Machine.execStepRetract dt h s
  | .maintenanceEnter dt h => Sys2Proof.Machine.execMaintenanceEnter dt h s
  | .maintenanceExit dt h => Sys2Proof.Machine.execMaintenanceExit dt h s
  | .doorFaultClear dt h => Sys2Proof.Machine.execDoorFaultClear dt h s
  | .doorState dt h => Sys2Proof.Machine.execDoorState dt h s
  | .axisHome dt h axis => Sys2Proof.Machine.execAxisHome dt h axis s
  | .axisMove dt h axis target => Sys2Proof.Machine.execAxisMove dt h axis target s
  | .axisStop dt h axis => Sys2Proof.Machine.execAxisStop dt h axis s
  | .axisLink dt h link => Sys2Proof.Machine.execAxisLink dt h link s
  | .loopMode dt h axis mode => Sys2Proof.Machine.execLoopMode dt h axis mode s
  | .loopManual dt h axis point => Sys2Proof.Machine.execLoopManual dt h axis point s
  | .injectStart dt h axis loop point signal amplitude p1 p2 p3 respLoop respPoint decimation => Sys2Proof.Machine.execInjectStart dt h axis loop point signal amplitude p1 p2 p3 respLoop respPoint decimation s
  | .captureRead dt h off count => Sys2Proof.Machine.execCaptureRead dt h off count s
  | .axisState dt h axis => Sys2Proof.Machine.execAxisState dt h axis s
  | .pilotFlags dt h axis => Sys2Proof.Machine.execPilotFlags dt h axis s
  | .pilotFlagsClear dt h axis mask => Sys2Proof.Machine.execPilotFlagsClear dt h axis mask s
  | .tableRead dt h table dir off count => Sys2Proof.Machine.execTableRead dt h table dir off count s
  | .tableWrite dt h table dir off entries => Sys2Proof.Machine.execTableWrite dt h table dir off entries s
  | .latchRead dt h => Sys2Proof.Machine.execLatchRead dt h s
  | .compareArm dt h unit action filter position => Sys2Proof.Machine.execCompareArm dt h unit action filter position s
  | .driveStatus dt h => Sys2Proof.Machine.execDriveStatus dt h s
  | .skinPortSuspend dt h port => Sys2Proof.Machine.execSkinPortSuspend dt h port s
  | .skinPortResume dt h port => Sys2Proof.Machine.execSkinPortResume dt h port s
  | .skinPortRetrain dt h port => Sys2Proof.Machine.execSkinPortRetrain dt h port s
  | .skinPortStatus dt h port => Sys2Proof.Machine.execSkinPortStatus dt h port s
  | .skinTileList dt h port => Sys2Proof.Machine.execSkinTileList dt h port s
  | .skinFrameRead dt h port map alongFirst alongCount rowFirst rowCount => Sys2Proof.Machine.execSkinFrameRead dt h port map alongFirst alongCount rowFirst rowCount s
  | .skinBaselineRebuild dt h ports => Sys2Proof.Machine.execSkinBaselineRebuild dt h ports s
  | .contactList dt h port kind first count => Sys2Proof.Machine.execContactList dt h port kind first count s
  | .obstacleState dt h => Sys2Proof.Machine.execObstacleState dt h s
  | .dragState dt h => Sys2Proof.Machine.execDragState dt h s
  | .legacyEdgeStatus dt h => Sys2Proof.Machine.execLegacyEdgeStatus dt h s
  | .lchSet dt h channels states => Sys2Proof.Machine.execLchSet dt h channels states s
  | .lchStatus dt h => Sys2Proof.Machine.execLchStatus dt h s
  | .lchUnlatch dt h channels => Sys2Proof.Machine.execLchUnlatch dt h channels s
  | .lchOffTest dt h channels => Sys2Proof.Machine.execLchOffTest dt h channels s
  | .juryMaskSet dt h pair mask map => Sys2Proof.Machine.execJuryMaskSet dt h pair mask map s
  | .juryStatus dt h => Sys2Proof.Machine.execJuryStatus dt h s
  | .sealStatus dt h => Sys2Proof.Machine.execSealStatus dt h s
  | .sealConfirm dt h value grade => Sys2Proof.Machine.execSealConfirm dt h value grade s
  | .safeIo dt h => Sys2Proof.Machine.execSafeIo dt h s
  | .safeFunctions dt h => Sys2Proof.Machine.execSafeFunctions dt h s
  | .telegramStatus dt h => Sys2Proof.Machine.execTelegramStatus dt h s
  | .binDiag dt h => Sys2Proof.Machine.execBinDiag dt h s
  | .debugEnable dt h => Sys2Proof.Machine.execDebugEnable dt h s
  | .busStatus dt h bus => Sys2Proof.Machine.execBusStatus dt h bus s
  | .busRecover dt h bus timeout => Sys2Proof.Machine.execBusRecover dt h bus timeout s
  | .busSend dt h bus object ident format sdt vcid sec af length lifetime bytes => Sys2Proof.Machine.execBusSend dt h bus object ident format sdt vcid sec af length lifetime bytes s
  | .busRead dt h bus kind index consume off count => Sys2Proof.Machine.execBusRead dt h bus kind index consume off count s
  | .busTxCancel dt h bus object => Sys2Proof.Machine.execBusTxCancel dt h bus object s
  | .busFilterLoad dt h bus part first bytes => Sys2Proof.Machine.execBusFilterLoad dt h bus part first bytes s
  | .busFilterApply dt h bus => Sys2Proof.Machine.execBusFilterApply dt h bus s
  | .busFilterDiscard dt h bus => Sys2Proof.Machine.execBusFilterDiscard dt h bus s
  | .chronSet dt h time => Sys2Proof.Machine.execChronSet dt h time s
  | .chronRead dt h => Sys2Proof.Machine.execChronRead dt h s
  | .logStatus dt h => Sys2Proof.Machine.execLogStatus dt h s
  | .logRead dt h first count => Sys2Proof.Machine.execLogRead dt h first count s
  | .traceList dt h first count => Sys2Proof.Machine.execTraceList dt h first count s
  | .traceRead dt h slot off count => Sys2Proof.Machine.execTraceRead dt h slot off count s
  | .traceCapture dt h period pre pin => Sys2Proof.Machine.execTraceCapture dt h period pre pin s
  | .tracePin dt h slot action => Sys2Proof.Machine.execTracePin dt h slot action s
  | .logErase dt h what => Sys2Proof.Machine.execLogErase dt h what s
  | .packetReceived dt bytes => Sys2Proof.Machine.execPacketReceived dt bytes s
  | .spiTransactionStart dt bytes => Sys2Proof.Machine.execSpiTransactionStart dt bytes s
  | .spiTransactionEnd dt => Sys2Proof.Machine.execSpiTransactionEnd dt s
  | .spiPacketTimeout dt => Sys2Proof.Machine.execSpiPacketTimeout dt s
  | .hostSegmentReceived dt format bytes => Sys2Proof.Machine.execHostSegmentReceived dt format bytes s
  | .segmentTimeout dt => Sys2Proof.Machine.execSegmentTimeout dt s
  | .replySent dt => Sys2Proof.Machine.execReplySent dt s
  | .orderCompleted dt tag ok => Sys2Proof.Machine.execOrderCompleted dt tag ok s
  | .hostSilent dt => Sys2Proof.Machine.execHostSilent dt s
  | .hostChannelSwitch dt => Sys2Proof.Machine.execHostChannelSwitch dt s
  | .powerOnReset dt => Sys2Proof.Machine.execPowerOnReset dt s
  | .rstNLow dt width => Sys2Proof.Machine.execRstNLow dt width s
  | .vkeepLost dt => Sys2Proof.Machine.execVkeepLost dt s
  | .startUp dt found => Sys2Proof.Machine.execStartUp dt found s
  | .clockCheckRetry dt found => Sys2Proof.Machine.execClockCheckRetry dt found s
  | .ready dt => Sys2Proof.Machine.execReady dt s
  | .startupVhvWaitEnd dt found => Sys2Proof.Machine.execStartupVhvWaitEnd dt found s
  | .watchdogExpiry dt => Sys2Proof.Machine.execWatchdogExpiry dt s
  | .avsTick dt slack => Sys2Proof.Machine.execAvsTick dt slack s
  | .vcoreMarginReset dt => Sys2Proof.Machine.execVcoreMarginReset dt s
  | .avsExchangeEnd dt reply => Sys2Proof.Machine.execAvsExchangeEnd dt reply s
  | .avsRetry dt => Sys2Proof.Machine.execAvsRetry dt s
  | .mainClockFault dt => Sys2Proof.Machine.execMainClockFault dt s
  | .binnacleRcFault dt => Sys2Proof.Machine.execBinnacleRcFault dt s
  | .busClockLost dt => Sys2Proof.Machine.execBusClockLost dt s
  | .busClockRestored dt => Sys2Proof.Machine.execBusClockRestored dt s
  | .keepClockLost dt => Sys2Proof.Machine.execKeepClockLost dt s
  | .wake dt source => Sys2Proof.Machine.execWake dt source s
  | .keepAlarm dt => Sys2Proof.Machine.execKeepAlarm dt s
  | .vdrvLost dt mv => Sys2Proof.Machine.execVdrvLost dt mv s
  | .vdrvPresent dt mv => Sys2Proof.Machine.execVdrvPresent dt mv s
  | .smartPowerLockout dt => Sys2Proof.Machine.execSmartPowerLockout dt s
  | .reefEnter dt stage vhv => Sys2Proof.Machine.execReefEnter dt stage vhv s
  | .reefLeave dt vhv => Sys2Proof.Machine.execReefLeave dt vhv s
  | .reef4Reset dt => Sys2Proof.Machine.execReef4Reset dt s
  | .reef4Restart dt vhv => Sys2Proof.Machine.execReef4Restart dt vhv s
  | .dieTemperatureTick dt controller power memory => Sys2Proof.Machine.execDieTemperatureTick dt controller power memory s
  | .profileUpdate dt => Sys2Proof.Machine.execProfileUpdate dt s
  | .startTimeReached dt => Sys2Proof.Machine.execStartTimeReached dt s
  | .closingWarningFlash dt => Sys2Proof.Machine.execClosingWarningFlash dt s
  | .unlockTimeout dt => Sys2Proof.Machine.execUnlockTimeout dt s
  | .lockPairOpened dt => Sys2Proof.Machine.execLockPairOpened dt s
  | .closedWaitExpiry dt => Sys2Proof.Machine.execClosedWaitExpiry dt s
  | .lockTimeout dt => Sys2Proof.Machine.execLockTimeout dt s
  | .lockRetryPulseEnd dt => Sys2Proof.Machine.execLockRetryPulseEnd dt s
  | .lockPairMade dt => Sys2Proof.Machine.execLockPairMade dt s
  | .lockPairOpenedLocked dt => Sys2Proof.Machine.execLockPairOpenedLocked dt s
  | .reversalEnds dt => Sys2Proof.Machine.execReversalEnds dt s
  | .backoffEnds dt => Sys2Proof.Machine.execBackoffEnds dt s
  | .holdingTimerEnd dt => Sys2Proof.Machine.execHoldingTimerEnd dt s
  | .atTarget dt axis => Sys2Proof.Machine.execAtTarget dt axis s
  | .landfallForceCheck dt => Sys2Proof.Machine.execLandfallForceCheck dt s
  | .landfallArmExpiry dt => Sys2Proof.Machine.execLandfallArmExpiry dt s
  | .landfallMaxExpiry dt => Sys2Proof.Machine.execLandfallMaxExpiry dt s
  | .egressAssistStart dt => Sys2Proof.Machine.execEgressAssistStart dt s
  | .egressAssistEnd dt => Sys2Proof.Machine.execEgressAssistEnd dt s
  | .stepMoveTimeout dt => Sys2Proof.Machine.execStepMoveTimeout dt s
  | .reefResume dt => Sys2Proof.Machine.execReefResume dt s
  | .leaderLost dt reason => Sys2Proof.Machine.execLeaderLost dt reason s
  | .leaderWaitExpiry dt => Sys2Proof.Machine.execLeaderWaitExpiry dt s
  | .stepAdaptTick dt angle => Sys2Proof.Machine.execStepAdaptTick dt angle s
  | .stepSwitchChange dt sw level => Sys2Proof.Machine.execStepSwitchChange dt sw level s
  | .stableAssertion dt sw => Sys2Proof.Machine.execStableAssertion dt sw s
  | .homingStepDone dt => Sys2Proof.Machine.execHomingStepDone dt s
  | .stepHoldDelayEnd dt => Sys2Proof.Machine.execStepHoldDelayEnd dt s
  | .leafHoldReduction dt => Sys2Proof.Machine.execLeafHoldReduction dt s
  | .currentSample dt seen => Sys2Proof.Machine.execCurrentSample dt seen s
  | .speedSample dt ntc => Sys2Proof.Machine.execSpeedSample dt ntc s
  | .positionSample dt => Sys2Proof.Machine.execPositionSample dt s
  | .hallEdgeOverdue dt => Sys2Proof.Machine.execHallEdgeOverdue dt s
  | .deadReckoningEnd dt => Sys2Proof.Machine.execDeadReckoningEnd dt s
  | .transferToAuto dt axis => Sys2Proof.Machine.execTransferToAuto dt axis s
  | .injectionCaptureComplete dt => Sys2Proof.Machine.execInjectionCaptureComplete dt s
  | .injectionAbort dt => Sys2Proof.Machine.execInjectionAbort dt s
  | .hallStateChange dt code => Sys2Proof.Machine.execHallStateChange dt code s
  | .speedTimeout dt => Sys2Proof.Machine.execSpeedTimeout dt s
  | .passThroughEdge dt code => Sys2Proof.Machine.execPassThroughEdge dt code s
  | .vdsTrip dt leg high => Sys2Proof.Machine.execVdsTrip dt leg high s
  | .gateFault dt leg high stuckOn => Sys2Proof.Machine.execGateFault dt leg high stuckOn s
  | .bootstrapLow dt leg mv => Sys2Proof.Machine.execBootstrapLow dt leg mv s
  | .prechargeEnd dt bridge => Sys2Proof.Machine.execPrechargeEnd dt bridge s
  | .senseOffsetMeasure dt offsets => Sys2Proof.Machine.execSenseOffsetMeasure dt offsets s
  | .busOverVoltage dt mv => Sys2Proof.Machine.execBusOverVoltage dt mv s
  | .busOverVoltageEnd dt mv => Sys2Proof.Machine.execBusOverVoltageEnd dt mv s
  | .skinFrameSync dt => Sys2Proof.Machine.execSkinFrameSync dt s
  | .tilePacketReceived dt port bytes violations => Sys2Proof.Machine.execTilePacketReceived dt port bytes violations s
  | .skinFrameEvaluated dt => Sys2Proof.Machine.execSkinFrameEvaluated dt s
  | .skinPortFault dt port cause => Sys2Proof.Machine.execSkinPortFault dt port cause s
  | .portTraining dt port found => Sys2Proof.Machine.execPortTraining dt port found s
  | .portRetrainTimer dt port => Sys2Proof.Machine.execPortRetrainTimer dt port s
  | .rebuildComplete dt => Sys2Proof.Machine.execRebuildComplete dt s
  | .edgeSample dt a b c exc => Sys2Proof.Machine.execEdgeSample dt a b c exc s
  | .excitationFault dt exc => Sys2Proof.Machine.execExcitationFault dt exc s
  | .pwHoldExpiry dt edge => Sys2Proof.Machine.execPwHoldExpiry dt edge s
  | .stepFindContinue dt => Sys2Proof.Machine.execStepFindContinue dt s
  | .loadDemandChange dt => Sys2Proof.Machine.execLoadDemandChange dt s
  | .loadTrip dt channel cause current => Sys2Proof.Machine.execLoadTrip dt channel cause current s
  | .retryPauseEnd dt channel => Sys2Proof.Machine.execRetryPauseEnd dt channel s
  | .tryCountReset dt channel => Sys2Proof.Machine.execTryCountReset dt channel s
  | .thermalClear dt channel temp => Sys2Proof.Machine.execThermalClear dt channel temp s
  | .groupDerating dt => Sys2Proof.Machine.execGroupDerating dt s
  | .lampDark dt channel => Sys2Proof.Machine.execLampDark dt channel s
  | .offStateTest dt channel mv => Sys2Proof.Machine.execOffStateTest dt channel mv s
  | .freewheelMissing dt channel mv => Sys2Proof.Machine.execFreewheelMissing dt channel mv s
  | .juryChange dt level => Sys2Proof.Machine.execJuryChange dt level s
  | .jinChange dt input level => Sys2Proof.Machine.execJinChange dt input level s
  | .sensePinUpdate dt currents temps => Sys2Proof.Machine.execSensePinUpdate dt currents temps s
  | .safetyTick dt seen => Sys2Proof.Machine.execSafetyTick dt seen s
  | .testWindow dt tpo mv reads => Sys2Proof.Machine.execTestWindow dt tpo mv reads s
  | .offPulse dt output current => Sys2Proof.Machine.execOffPulse dt output current s
  | .safeLoopOpen dt output => Sys2Proof.Machine.execSafeLoopOpen dt output s
  | .safeLoopCurrentLimit dt output current => Sys2Proof.Machine.execSafeLoopCurrentLimit dt output current s
  | .dragLatchClear dt => Sys2Proof.Machine.execDragLatchClear dt s
  | .binnacleHallEdge dt code => Sys2Proof.Machine.execBinnacleHallEdge dt code s
  | .edgeSilence500ms dt => Sys2Proof.Machine.execEdgeSilence500ms dt s
  | .speedUnproven dt => Sys2Proof.Machine.execSpeedUnproven dt s
  | .unprovenTooLong dt => Sys2Proof.Machine.execUnprovenTooLong dt s
  | .sequencerReport dt seq ok => Sys2Proof.Machine.execSequencerReport dt seq ok s
  | .binnacleFault dt bit => Sys2Proof.Machine.execBinnacleFault dt bit s
  | .marchTest dt ok => Sys2Proof.Machine.execMarchTest dt ok s
  | .programCrcCheck dt ok => Sys2Proof.Machine.execProgramCrcCheck dt ok s
  | .busFrameReceived dt bus frame => Sys2Proof.Machine.execBusFrameReceived dt bus frame s
  | .frameRouted dt bus => Sys2Proof.Machine.execFrameRouted dt bus s
  | .attemptCommitted dt bus idle => Sys2Proof.Machine.execAttemptCommitted dt bus idle s
  | .attemptEnd dt bus seen => Sys2Proof.Machine.execAttemptEnd dt bus seen s
  | .recoveryComplete dt bus => Sys2Proof.Machine.execRecoveryComplete dt bus s
  | .recoverTimeout dt bus => Sys2Proof.Machine.execRecoverTimeout dt bus s
  | .frameLifetimeExpiry dt bus object => Sys2Proof.Machine.execFrameLifetimeExpiry dt bus object s
  | .timingReconfigured dt bus => Sys2Proof.Machine.execTimingReconfigured dt bus s
  | .telegramSendTimer dt conn => Sys2Proof.Machine.execTelegramSendTimer dt conn s
  | .telegramReceived dt conn frame => Sys2Proof.Machine.execTelegramReceived dt conn frame s
  | .telegramWatchdogExpiry dt conn => Sys2Proof.Machine.execTelegramWatchdogExpiry dt conn s
  | .referenceReceived dt frame => Sys2Proof.Machine.execReferenceReceived dt frame s
  | .referenceSendTimer dt => Sys2Proof.Machine.execReferenceSendTimer dt s
  | .masterTimeout dt => Sys2Proof.Machine.execMasterTimeout dt s
  | .holdoverEntry dt => Sys2Proof.Machine.execHoldoverEntry dt s
  | .holdoverExpiry dt => Sys2Proof.Machine.execHoldoverExpiry dt s
  | .cycleCast dt steps ok => Sys2Proof.Machine.execCycleCast dt steps ok s
  | .learnedTablesWrite dt ok => Sys2Proof.Machine.execLearnedTablesWrite dt ok s
  | .draftWrite dt ok => Sys2Proof.Machine.execDraftWrite dt ok s
  | .quietMaxReached dt => Sys2Proof.Machine.execQuietMaxReached dt s
  | .traceTrigger dt ok => Sys2Proof.Machine.execTraceTrigger dt ok s
  | .traceSample dt ok => Sys2Proof.Machine.execTraceSample dt ok s
  | .traceComplete dt ok => Sys2Proof.Machine.execTraceComplete dt ok s
  | .registerWrite dt => Sys2Proof.Machine.execRegisterWrite dt s
  | .smartPowerLockoutEnd dt => Sys2Proof.Machine.execSmartPowerLockoutEnd dt s
  | .keepClockRestored dt => Sys2Proof.Machine.execKeepClockRestored dt s
  | .debugReset dt => Sys2Proof.Machine.execDebugReset dt s
  | .busReceiveError dt bus error dominant => Sys2Proof.Machine.execBusReceiveError dt bus error dominant s
  | .protocolException dt bus => Sys2Proof.Machine.execProtocolException dt bus s
  | .busIntegrationComplete dt bus => Sys2Proof.Machine.execBusIntegrationComplete dt bus s
  | .stepRetractAgain dt => Sys2Proof.Machine.execStepRetractAgain dt s

end Sys2Proof.Machine
end

