-- ==== Sys2Proof/WellFormed.lean ====
section
/-! DEFINITION. Which commands are well formed: host commands whose fields fit their places in the body tables (R614 and the body tables of the chapters), and events whose channel, port, leg, code and other numbers name something that the part has. -/

namespace Sys2Proof

open Sys2Proof.Machine

/-- A number that `w` bytes hold. -/
def holds (w v : Nat) : Bool := decide (v < 256 ^ w)

/-- A number in a range. -/
def between (lo hi v : Nat) : Bool := decide (lo ≤ v) && decide (v ≤ hi)

/-- The fields of a host command fit its body. -/
def wfCmd : HostCmd → Bool
  | .identify => true
  | .status => true
  | .reset => true
  | .park => true
  | .dormant => true
  | .eventMask mask => holds 24 mask
  | .eventCounts group => holds 1 group
  | .journalRead => true
  | .fwLoadBegin bank length => holds 1 bank && holds 4 length
  | .fwLoadData off bytes => holds 4 off && between 1 1016 bytes.length
  | .fwLoadEnd crc => holds 4 crc
  | .fwActivate bank => holds 1 bank
  | .cancel target => holds 1 target
  | .echo bytes => between 0 1020 bytes.length
  | .paramRead ids => between 1 64 ids.length && ids.all (holds 2)
  | .paramWrite pairs => between 1 32 pairs.length && pairs.all fun p => holds 2 p.1 && holds 4 p.2
  | .paramGroupStage group values => holds 2 group && between 0 255 values.length && values.all (holds 4)
  | .paramCommit groups => between 1 8 groups.length && groups.all (holds 2)
  | .paramGroupDiscard groups => between 1 8 groups.length && groups.all (holds 2)
  | .paramInfo id => holds 2 id
  | .paramImageSave => true
  | .paramImageRead off length => holds 4 off && holds 2 length
  | .paramImageLoad off bytes => holds 4 off && between 1 1016 bytes.length
  | .paramImageInstall crc => holds 4 crc
  | .paramFactory => true
  | .paramList block start => holds 1 block && holds 2 start
  | .doorRelease => true
  | .doorOpen start => holds 8 start
  | .doorClose start => holds 8 start
  | .doorHold time => holds 4 time
  | .doorIsolate => true
  | .doorRestore => true
  | .landfallAnnounce side => holds 1 side
  | .landfallWithdraw => true
  | .stepDeploy => true
  | .stepRetract => true
  | .maintenanceEnter => true
  | .maintenanceExit => true
  | .doorFaultClear => true
  | .doorState => true
  | .axisHome axis => holds 1 axis
  | .axisMove axis target => holds 1 axis && holds 4 target
  | .axisStop axis => holds 1 axis
  | .axisLink link => holds 1 link
  | .loopMode axis mode => holds 1 axis && holds 1 mode
  | .loopManual axis point => holds 1 axis && holds 4 point
  | .injectStart axis loop point signal amplitude p1 p2 p3 respLoop respPoint decimation => holds 1 axis && holds 1 loop && holds 1 point && holds 1 signal && holds 4 amplitude && holds 4 p1 && holds 4 p2 && holds 4 p3 && holds 1 respLoop && holds 1 respPoint && holds 1 decimation
  | .captureRead off count => holds 2 off && holds 2 count
  | .axisState axis => holds 1 axis
  | .pilotFlags axis => holds 1 axis
  | .pilotFlagsClear axis mask => holds 1 axis && holds 4 mask
  | .tableRead table dir off count => holds 1 table && holds 1 dir && holds 2 off && holds 2 count
  | .tableWrite table dir off entries => holds 1 table && holds 1 dir && holds 2 off && between 0 508 entries.length && entries.all (holds 2)
  | .latchRead => true
  | .compareArm unit action filter position => holds 1 unit && holds 1 action && holds 1 filter && holds 4 position
  | .driveStatus => true
  | .skinPortSet port action => holds 1 port && holds 1 action
  | .skinPortStatus port => holds 1 port
  | .skinTileList port => holds 1 port
  | .skinFrameRead port map alongFirst alongCount rowFirst rowCount => holds 1 port && holds 1 map && holds 2 alongFirst && holds 2 alongCount && holds 1 rowFirst && holds 1 rowCount
  | .skinBaselineRebuild ports => between 0 7 ports
  | .contactList port kind first count => holds 1 port && holds 1 kind && holds 1 first && holds 1 count
  | .obstacleState => true
  | .dragState => true
  | .legacyEdgeStatus => true
  | .lchSet channels states => between 0 4095 channels && between 0 4095 states
  | .lchStatus => true
  | .lchUnlatch channels => between 0 4095 channels
  | .lchOffTest channels => between 0 4095 channels
  | .juryMaskSet pair mask map => holds 1 pair && holds 2 mask && holds 3 map
  | .juryStatus => true
  | .sealStatus => true
  | .sealConfirm value grade => holds 4 value && holds 1 grade
  | .safeIo => true
  | .safeFunctions => true
  | .telegramStatus => true
  | .binDiag => true
  | .debugEnable => true
  | .busStatus bus => holds 1 bus
  | .busRecover bus timeout => holds 1 bus && holds 2 timeout
  | .busSend bus object ident format sdt vcid sec af length lifetime bytes => holds 1 bus && holds 2 object && holds 4 ident && holds 1 format && holds 1 sdt && holds 1 vcid && between 0 1 sec && holds 4 af && holds 2 length && holds 2 lifetime && between 0 1004 bytes.length
  | .busRead bus kind index consume off count => holds 1 bus && holds 1 kind && holds 1 index && between 0 1 consume && holds 2 off && holds 2 count
  | .busTxCancel bus object => holds 1 bus && holds 2 object
  | .busFilterLoad bus part first bytes => holds 1 bus && (if part = 0 then decide (first = 0) && decide (bytes.length = 28)
      else between 1 2 part && holds 1 first && between 0 1016 bytes.length && decide (bytes.length % 20 = 0))
  | .busFilterApply bus => holds 1 bus
  | .busFilterDiscard bus => holds 1 bus
  | .chronSet time => holds 8 time
  | .chronRead => true
  | .logStatus => true
  | .logRead first count => holds 4 first && holds 1 count
  | .traceList first count => holds 2 first && holds 1 count
  | .traceRead slot off count => holds 2 slot && holds 2 off && holds 2 count
  | .traceCapture period pre pin => holds 2 period && holds 1 pre && holds 1 pin
  | .tracePin slot action => holds 2 slot && holds 1 action
  | .logErase what => between 1 7 what

/-- The numbers of a command or event name something that the part has. -/
def wellFormed : Instr → Bool
  | .identify _ _ => wfCmd .identify
  | .status _ _ => wfCmd .status
  | .reset _ _ => wfCmd .reset
  | .park _ _ => wfCmd .park
  | .dormant _ _ => wfCmd .dormant
  | .eventMask _ _ mask => wfCmd (.eventMask mask)
  | .eventCounts _ _ group => wfCmd (.eventCounts group)
  | .journalRead _ _ => wfCmd .journalRead
  | .fwLoadBegin _ _ bank length => wfCmd (.fwLoadBegin bank length)
  | .fwLoadData _ _ off bytes => wfCmd (.fwLoadData off bytes)
  | .fwLoadEnd _ _ crc => wfCmd (.fwLoadEnd crc)
  | .fwActivate _ _ bank => wfCmd (.fwActivate bank)
  | .cancel _ _ target => wfCmd (.cancel target)
  | .echo _ _ bytes => wfCmd (.echo bytes)
  | .paramRead _ _ ids => wfCmd (.paramRead ids)
  | .paramWrite _ _ pairs => wfCmd (.paramWrite pairs)
  | .paramGroupStage _ _ group values => wfCmd (.paramGroupStage group values)
  | .paramCommit _ _ groups => wfCmd (.paramCommit groups)
  | .paramGroupDiscard _ _ groups => wfCmd (.paramGroupDiscard groups)
  | .paramInfo _ _ id => wfCmd (.paramInfo id)
  | .paramImageSave _ _ => wfCmd .paramImageSave
  | .paramImageRead _ _ off length => wfCmd (.paramImageRead off length)
  | .paramImageLoad _ _ off bytes => wfCmd (.paramImageLoad off bytes)
  | .paramImageInstall _ _ crc => wfCmd (.paramImageInstall crc)
  | .paramFactory _ _ => wfCmd .paramFactory
  | .paramList _ _ block start => wfCmd (.paramList block start)
  | .doorRelease _ _ => wfCmd .doorRelease
  | .doorOpen _ _ start => wfCmd (.doorOpen start)
  | .doorClose _ _ start => wfCmd (.doorClose start)
  | .doorHold _ _ time => wfCmd (.doorHold time)
  | .doorIsolate _ _ => wfCmd .doorIsolate
  | .doorRestore _ _ => wfCmd .doorRestore
  | .landfallAnnounce _ _ side => wfCmd (.landfallAnnounce side)
  | .landfallWithdraw _ _ => wfCmd .landfallWithdraw
  | .stepDeploy _ _ => wfCmd .stepDeploy
  | .stepRetract _ _ => wfCmd .stepRetract
  | .maintenanceEnter _ _ => wfCmd .maintenanceEnter
  | .maintenanceExit _ _ => wfCmd .maintenanceExit
  | .doorFaultClear _ _ => wfCmd .doorFaultClear
  | .doorState _ _ => wfCmd .doorState
  | .axisHome _ _ axis => wfCmd (.axisHome axis)
  | .axisMove _ _ axis target => wfCmd (.axisMove axis target)
  | .axisStop _ _ axis => wfCmd (.axisStop axis)
  | .axisLink _ _ link => wfCmd (.axisLink link)
  | .loopMode _ _ axis mode => wfCmd (.loopMode axis mode)
  | .loopManual _ _ axis point => wfCmd (.loopManual axis point)
  | .injectStart _ _ axis loop point signal amplitude p1 p2 p3 respLoop respPoint decimation => wfCmd (.injectStart axis loop point signal amplitude p1 p2 p3 respLoop respPoint decimation)
  | .captureRead _ _ off count => wfCmd (.captureRead off count)
  | .axisState _ _ axis => wfCmd (.axisState axis)
  | .pilotFlags _ _ axis => wfCmd (.pilotFlags axis)
  | .pilotFlagsClear _ _ axis mask => wfCmd (.pilotFlagsClear axis mask)
  | .tableRead _ _ table dir off count => wfCmd (.tableRead table dir off count)
  | .tableWrite _ _ table dir off entries => wfCmd (.tableWrite table dir off entries)
  | .latchRead _ _ => wfCmd .latchRead
  | .compareArm _ _ unit action filter position => wfCmd (.compareArm unit action filter position)
  | .driveStatus _ _ => wfCmd .driveStatus
  | .skinPortSuspend _ _ port => wfCmd (.skinPortSet port 0)
  | .skinPortResume _ _ port => wfCmd (.skinPortSet port 1)
  | .skinPortRetrain _ _ port => wfCmd (.skinPortSet port 2)
  | .skinPortStatus _ _ port => wfCmd (.skinPortStatus port)
  | .skinTileList _ _ port => wfCmd (.skinTileList port)
  | .skinFrameRead _ _ port map alongFirst alongCount rowFirst rowCount => wfCmd (.skinFrameRead port map alongFirst alongCount rowFirst rowCount)
  | .skinBaselineRebuild _ _ ports => wfCmd (.skinBaselineRebuild ports)
  | .contactList _ _ port kind first count => wfCmd (.contactList port kind first count)
  | .obstacleState _ _ => wfCmd .obstacleState
  | .dragState _ _ => wfCmd .dragState
  | .legacyEdgeStatus _ _ => wfCmd .legacyEdgeStatus
  | .lchSet _ _ channels states => wfCmd (.lchSet channels states)
  | .lchStatus _ _ => wfCmd .lchStatus
  | .lchUnlatch _ _ channels => wfCmd (.lchUnlatch channels)
  | .lchOffTest _ _ channels => wfCmd (.lchOffTest channels)
  | .juryMaskSet _ _ pair mask map => wfCmd (.juryMaskSet pair mask map)
  | .juryStatus _ _ => wfCmd .juryStatus
  | .sealStatus _ _ => wfCmd .sealStatus
  | .sealConfirm _ _ value grade => wfCmd (.sealConfirm value grade)
  | .safeIo _ _ => wfCmd .safeIo
  | .safeFunctions _ _ => wfCmd .safeFunctions
  | .telegramStatus _ _ => wfCmd .telegramStatus
  | .binDiag _ _ => wfCmd .binDiag
  | .debugEnable _ _ => wfCmd .debugEnable
  | .busStatus _ _ bus => wfCmd (.busStatus bus)
  | .busRecover _ _ bus timeout => wfCmd (.busRecover bus timeout)
  | .busSend _ _ bus object ident format sdt vcid sec af length lifetime bytes => wfCmd (.busSend bus object ident format sdt vcid sec af length lifetime bytes)
  | .busRead _ _ bus kind index consume off count => wfCmd (.busRead bus kind index consume off count)
  | .busTxCancel _ _ bus object => wfCmd (.busTxCancel bus object)
  | .busFilterLoad _ _ bus part first bytes => wfCmd (.busFilterLoad bus part first bytes)
  | .busFilterApply _ _ bus => wfCmd (.busFilterApply bus)
  | .busFilterDiscard _ _ bus => wfCmd (.busFilterDiscard bus)
  | .chronSet _ _ time => wfCmd (.chronSet time)
  | .chronRead _ _ => wfCmd .chronRead
  | .logStatus _ _ => wfCmd .logStatus
  | .logRead _ _ first count => wfCmd (.logRead first count)
  | .traceList _ _ first count => wfCmd (.traceList first count)
  | .traceRead _ _ slot off count => wfCmd (.traceRead slot off count)
  | .traceCapture _ _ period pre pin => wfCmd (.traceCapture period pre pin)
  | .tracePin _ _ slot action => wfCmd (.tracePin slot action)
  | .logErase _ _ what => wfCmd (.logErase what)
  | .packetReceived _ bytes => between 8 65547 bytes.length
  | .spiTransactionStart _ bytes => between 1 4144 bytes.length
  | .spiTransactionEnd _ => true
  | .spiPacketTimeout _ => true
  | .hostSegmentReceived _ format bytes => between 2 4 format && between 0 2048 bytes.length
  | .segmentTimeout _ => true
  | .replySent _ => true
  | .orderCompleted _ _ _ => true
  | .hostSilent _ => true
  | .hostChannelSwitch _ => true
  | .powerOnReset _ => true
  | .rstNLow _ _ => true
  | .vkeepLost _ => true
  | .startUp _ _ => true
  | .clockCheckRetry _ _ => true
  | .ready _ => true
  | .startupVhvWaitEnd _ _ => true
  | .watchdogExpiry _ => true
  | .avsTick _ _ => true
  | .vcoreMarginReset _ => true
  | .avsExchangeEnd _ reply => between 0 4 reply.length
  | .avsRetry _ => true
  | .mainClockFault _ => true
  | .binnacleRcFault _ => true
  | .busClockLost _ => true
  | .busClockRestored _ => true
  | .keepClockLost _ => true
  | .wake _ _ => true
  | .keepAlarm _ => true
  | .vdrvLost _ _ => true
  | .vdrvPresent _ _ => true
  | .smartPowerLockout _ => true
  | .reefEnter _ stage _ => between 1 4 stage
  | .reefLeave _ _ => true
  | .reef4Reset _ => true
  | .reef4Restart _ _ => true
  | .dieTemperatureTick _ _ _ _ => true
  | .profileUpdate _ => true
  | .startTimeReached _ => true
  | .closingWarningFlash _ => true
  | .unlockTimeout _ => true
  | .lockPairOpened _ => true
  | .closedWaitExpiry _ => true
  | .lockTimeout _ => true
  | .lockRetryPulseEnd _ => true
  | .lockPairMade _ => true
  | .lockPairOpenedLocked _ => true
  | .reversalEnds _ => true
  | .backoffEnds _ => true
  | .holdingTimerEnd _ => true
  | .atTarget _ axis => between 0 1 axis
  | .landfallForceCheck _ => true
  | .landfallArmExpiry _ => true
  | .landfallMaxExpiry _ => true
  | .egressAssistStart _ => true
  | .egressAssistEnd _ => true
  | .stepMoveTimeout _ => true
  | .reefResume _ => true
  | .leaderLost _ reason => between 1 3 reason
  | .leaderWaitExpiry _ => true
  | .stepAdaptTick _ angle => between 0 1000 angle
  | .stepSwitchChange _ sw _ => between 0 2 sw
  | .stableAssertion _ sw => between 0 3 sw
  | .homingStepDone _ => true
  | .stepHoldDelayEnd _ => true
  | .leafHoldReduction _ => true
  | .currentSample _ _ => true
  | .speedSample _ _ => true
  | .positionSample _ => true
  | .hallEdgeOverdue _ => true
  | .deadReckoningEnd _ => true
  | .transferToAuto _ axis => between 0 1 axis
  | .injectionCaptureComplete _ => true
  | .injectionAbort _ => true
  | .hallStateChange _ code => between 0 7 code
  | .speedTimeout _ => true
  | .passThroughEdge _ code => between 0 7 code
  | .vdsTrip _ leg _ => between 0 6 leg
  | .gateFault _ leg _ _ => between 0 6 leg
  | .bootstrapLow _ leg _ => between 0 6 leg
  | .prechargeEnd _ bridge => between 0 2 bridge
  | .senseOffsetMeasure _ offsets => decide (offsets.length = 5)
  | .busOverVoltage _ _ => true
  | .busOverVoltageEnd _ _ => true
  | .skinFrameSync _ => true
  | .tilePacketReceived _ port _ _ => between 0 2 port
  | .skinFrameEvaluated _ => true
  | .skinPortFault _ port cause => between 0 2 port && between 1 3 cause
  | .portTraining _ port _ => between 0 2 port
  | .portRetrainTimer _ port => between 0 2 port
  | .rebuildComplete _ => true
  | .edgeSample _ _ _ _ _ => true
  | .excitationFault _ _ => true
  | .pwHoldExpiry _ edge => between 0 2 edge
  | .stepFindContinue _ => true
  | .loadDemandChange _ => true
  | .loadTrip _ channel cause _ => between 0 11 channel && between 1 4 cause
  | .retryPauseEnd _ channel => between 0 11 channel
  | .tryCountReset _ channel => between 0 11 channel
  | .thermalClear _ channel _ => between 0 11 channel
  | .groupDerating _ => true
  | .lampDark _ channel => between 0 11 channel
  | .offStateTest _ channel _ => between 0 11 channel
  | .freewheelMissing _ channel _ => between 0 11 channel
  | .juryChange _ _ => true
  | .jinChange _ input _ => between 0 3 input
  | .sensePinUpdate _ currents temps => decide (currents.length = 12) && decide (temps.length = 12)
  | .safetyTick _ _ => true
  | .testWindow _ tpo _ reads => between 0 3 tpo && between 0 65535 reads
  | .offPulse _ output _ => between 0 1 output
  | .safeLoopOpen _ output => between 0 1 output
  | .safeLoopCurrentLimit _ output _ => between 0 1 output
  | .dragLatchClear _ => true
  | .binnacleHallEdge _ code => between 0 7 code
  | .edgeSilence500ms _ => true
  | .speedUnproven _ => true
  | .unprovenTooLong _ => true
  | .sequencerReport _ seq _ => holds 1 seq
  | .binnacleFault _ bit => between 0 9 bit
  | .marchTest _ _ => true
  | .programCrcCheck _ _ => true
  | .busFrameReceived _ bus _ => between 0 1 bus
  | .frameRouted _ bus => between 0 1 bus
  | .attemptCommitted _ bus _ => between 0 1 bus
  | .attemptEnd _ bus seen => between 0 1 bus && between 0 2 seen.result
  | .recoveryComplete _ bus => between 0 1 bus
  | .recoverTimeout _ bus => between 0 1 bus
  | .frameLifetimeExpiry _ bus object => between 0 1 bus && between 16 127 object
  | .timingReconfigured _ bus => between 0 1 bus
  | .telegramSendTimer _ conn => between 0 11 conn
  | .telegramReceived _ conn _ => between 0 11 conn
  | .telegramWatchdogExpiry _ conn => between 0 11 conn
  | .referenceReceived _ _ => true
  | .referenceSendTimer _ => true
  | .masterTimeout _ => true
  | .holdoverEntry _ => true
  | .holdoverExpiry _ => true
  | .cycleCast _ steps _ => between 0 7 steps
  | .learnedTablesWrite _ _ => true
  | .draftWrite _ _ => true
  | .quietMaxReached _ => true
  | .traceTrigger _ _ => true
  | .traceSample _ _ => true
  | .traceComplete _ _ => true
  | .registerWrite _ => true
  | .smartPowerLockoutEnd _ => true
  | .keepClockRestored _ => true
  | .debugReset _ => true
  | .busReceiveError _ bus error _ => between 0 1 bus && between 1 6 error
  | .protocolException _ bus => between 0 1 bus
  | .busIntegrationComplete _ bus => between 0 1 bus
  | .stepRetractAgain _ => true

end Sys2Proof
end

