-- ==== Sys2Proof/Safety.lean ====
section
/-! DEFINITION. The words in which claims are made: what a command leaves behind, the canonical form of the addressed memory, and a host command that arrives, is admitted and runs. -/

namespace Sys2Proof.Machine

/-- The Log's memory is in its canonical form, and the command journal has the 64 entries of R129. -/
def State.Inv (s : State) : Prop := Memory.wf s.dev.nv.main = true ∧ s.dev.nv.journal.length = 64

/-- The device when a command takes hold that comes `dt` ticks after the one before. -/
def State.later (s : State) (dt : Nat) : Dev := s.dev.advance dt

/-- The command or event completes: it answers a next state with this device and with the queue as it was. -/
def Leaves (i : Instr) (s : State) (after : Dev) : Prop := exec i s = .next { s with dev := after }

/-- The command or event completes, and this holds of the device it leaves. -/
def Ensures (i : Instr) (s : State) (p : Dev → Prop) : Prop := ∃ t : State, exec i s = .next t ∧ t.pending = s.pending ∧ p t.dev

/-- The device at the receipt of a packet, which takes the journal entry `slot` (R129, R130). -/
def Dev.received (p : InPacket) (slot : Nat) (d : Dev) : Dev := (d.heardHost p).putEntry slot (p.entry d.chron.time)

/-- A packet of a command arrives where it is journalled in `slot`: the interface is open, its fields fit and are coded, and the entry is the free one of R130. -/
abbrev Dev.arrives (c : HostCmd) (slot : Nat) (d : Dev) : Prop :=
  d.host.isOpen = true ∧ wfCmd c = true ∧ encodingOk c = true ∧ d.freeEntry = some slot

/-- The checks of R111 that precede a command's own: the device takes its opcode (R120), fewer than 32 commands are in flight (R112) and none bears its tag. -/
abbrev Dev.admits (h : CmdHead) (c : HostCmd) (d : Dev) : Prop :=
  d.openFor (opcodeOf c) = true ∧ d.host.flights.length < 32 ∧ ∀ f ∈ d.host.flights, f.tag ≠ h.tag.toNat

/-- The device with an admitted command in flight, before the command itself acts (R111, R112). -/
def Dev.taken (h : CmdHead) (c : HostCmd) (slot : Nat) (d : Dev) : Dev := (d.received (packetOf h c) slot).entered (packetOf h c) slot

/-- A host command that arrives, is admitted and meets its own condition completes with its effect on the device in which it is in flight, under its journal entry. -/
def Runs (i : Instr) (h : CmdHead) (c : HostCmd) (dt : Nat) (s : State) (ok : Dev → Prop) (effect : Nat → Dev → Dev) : Prop :=
  ∀ slot, (s.later dt).arrives c slot → (s.later dt).admits h c → ok (s.later dt) →
    Leaves i s (effect slot ((s.later dt).taken h c slot))

/-- A query completes with one reply DONE that carries its data, and with nothing else. -/
def Answers (i : Instr) (h : CmdHead) (c : HostCmd) (dt : Nat) (s : State) (ok : Dev → Prop) (data : Dev → List Byte) : Prop :=
  Runs i h c dt s ok fun slot d => d.reply slot 0x00 (data d)

/-- A host command that arrives, is admitted and fails a check of its own completes as refused: one reply with the check's status and data. -/
def Refuses (i : Instr) (h : CmdHead) (c : HostCmd) (dt : Nat) (s : State) (why : Dev → Prop) (status : Nat) (data : List Byte) : Prop :=
  ∀ slot, (s.later dt).arrives c slot → (s.later dt).admits h c → why (s.later dt) →
    Leaves i s (((s.later dt).received (packetOf h c) slot).reply slot status data)

/-- An event that comes where its condition holds has its effect; where it does not, its time passes and nothing else happens. -/
def Acts (i : Instr) (dt : Nat) (s : State) (due : Dev → Prop) (effect : Dev → Dev) : Prop :=
  (due (s.later dt) → Leaves i s (effect (s.later dt))) ∧ (¬ due (s.later dt) → Leaves i s (s.later dt))

end Sys2Proof.Machine
end

