-- ==== Sys2Proof/Certificates/Slice0/Obligations.lean ====
section
/-! DEFINITION. What is claimed of the device. Each statement names in its docstring what it says; `Runs`, `Answers`, `Acts`, `Leaves` and `Ensures` are those of Sys2Proof.Safety. -/

open Sys2Proof Sys2Proof.Machine

/-! ### The step and the state -/

/-- One step takes the command at the front of the queue and runs it on the state with the queue's rest. Where the manual leaves this open or to be read, it states the model's choice: log entry 1. -/
def Obligations.StepRunsFront : Prop :=
  ∀ (i : Instr) (rest : List Instr) (s : State), step { s with pending := i :: rest } = exec i { s with pending := rest }

/-- No command and no event stops the device: each completes, leaves the queue's rest in its order, and the model turns none away. With nothing waiting the block idles: the model's choice (log entry 1). -/
def Obligations.EveryCommandCompletes : Prop :=
  ((∀ (i : Instr) (s : State), ∃ d : Dev, exec i s = .next { s with dev := d })
      ∧ ∀ (i : Instr) (rest : List Instr) (d : Dev), ∃ d' : Dev, step { pending := i :: rest, dev := d } = .next { pending := rest, dev := d' })
  ∧ (∀ d : Dev, step { pending := [], dev := d } = .next { pending := [], dev := d })

/-- The state after reset meets the invariant. -/
def Obligations.ResetMeetsInvariant : Prop := State.reset.Inv

/-- Every step keeps the Log's memory in its canonical form and the journal at the 64 entries of R129. -/
def Obligations.StepKeepsInvariant : Prop := ∀ s t : State, s.Inv → step s = .next t → t.Inv

/-- Every body that the host can pack is read back as the command it was packed from, with every field. -/
def Obligations.BodiesReadBack : Prop := ∀ c : HostCmd, wfCmd c = true → parseBody (opcodeOf c) (encodeBody c) = some c

/-- At reset the device holds what the manual gives it: in reset, the doorway in its first state, the reference unknown, the Chronometer unset, every source enabled, cause bit 0 set, nothing in the copies of the smart-power die. Where the manual leaves this open or to be read, it states the model's choice: log entry 2. -/
def Obligations.ResetState : Prop :=
  let d := State.reset.dev
  State.reset.pending = [] ∧ d.supply.step = 0 ∧ d.host.isOpen = false ∧ d.host.mask = BitVec.allOnes 192 ∧ d.host.txSeq = 0
    ∧ d.sext.counter = 0 ∧ d.sext.ref = 0 ∧ d.chron.state = 0 ∧ d.nv.keep.cause = 1 ∧ d.nv.nominal = none ∧ d.nv.jury = none
    ∧ (∀ c ∈ d.load.channels, c.order = false ∧ c.on = false) ∧ (∀ u ∈ d.sext.units, u.armed = false)
    ∧ d.bin.out0.energised = false ∧ d.bin.out1.energised = false ∧ d.bin.ticks = 0

/-- The Chronometer advances by the ticks that pass, times one plus the rate correction, with the fraction carried; it stands while the controller die is in reset. Nothing else changes by itself. Where the manual leaves this open or to be read, it states the model's choice: log entries 1 and 17. -/
def Obligations.ChronometerAdvances : Prop :=
  (∀ (dt : Nat) (d : Dev), d.supply.step = 0 → d.advance dt = { d with now := d.now + dt })
    ∧ (∀ (dt : Nat) (d : Dev), 0 < d.supply.step →
        let total := d.chron.frac + dt * (1000000000 + d.chron.c).toNat
        d.advance dt = { d with
          now := d.now + dt
          chron := { d.chron with time := (d.chron.time + total / 1000000000) % 2 ^ 64, frac := total % 1000000000 } })
    ∧ (∀ (a b : Nat) (d : Dev), (d.advance a).advance b = d.advance (a + b))

/-! ### Packets, replies and events (chapter 04) -/

/-- A packet is judged in the order of R111: length, whole, body check, reserved fields, opcode, readiness, the in-flight limit, the tag, the command's own checks. The first that fails gives the status of the one reply. A packet that finds no free journal entry is dropped with event 5, and one that reaches a closed interface has no effect (R130). Where the manual leaves this open or to be read, it states the model's choice: log entries 4 and 5. -/
def Obligations.PacketsJudgedInOrder : Prop :=
  (∀ (p : InPacket) (d : Dev) (slot : Nat), d.host.isOpen = true → d.freeEntry = some slot →
      let r := d.received p slot
      (1024 < p.length → d.receive p = r.reply slot 0x01 [])
      ∧ (p.length ≤ 1024 → p.complete = false → d.receive p = r.reply slot 0x03 [])
      ∧ (p.length ≤ 1024 → p.complete = true →
          (p.body ≠ [] ∧ p.check ≠ crc32c p.body → d.receive p = r.reply slot 0x02 [])
          ∧ ((p.body = [] ∨ p.check = crc32c p.body) →
              (p.reserved ≠ 0 ∨ 1 < p.flags → d.receive p = r.reply slot 0x01 [])
              ∧ (p.reserved = 0 → p.flags ≤ 1 → knownOpcode p.opcode = false → d.receive p = r.reply slot 0x04 [])
              ∧ (p.reserved = 0 → p.flags ≤ 1 → knownOpcode p.opcode = true → parseBody p.opcode p.body = none → d.receive p = r.reply slot 0x01 [])
              ∧ ∀ c, p.reserved = 0 → p.flags ≤ 1 → knownOpcode p.opcode = true → parseBody p.opcode p.body = some c →
                  (encodingOk c = false → d.receive p = r.reply slot 0x01 [])
                  ∧ (encodingOk c = true →
                      (d.openFor p.opcode = false → d.receive p = r.reply slot 0x05 [])
                      ∧ (d.openFor p.opcode = true → 32 ≤ d.host.flights.length → d.receive p = r.reply slot 0x06 [])
                      ∧ (d.openFor p.opcode = true → d.host.flights.length < 32 → (∃ f ∈ d.host.flights, f.tag = p.tag) →
                          d.receive p = r.reply slot 0x07 [])
                      ∧ (d.openFor p.opcode = true → d.host.flights.length < 32 → (∀ f ∈ d.host.flights, f.tag ≠ p.tag) →
                          (∀ status data, r.hostGuard c = some (status, data) → d.receive p = r.reply slot status data)
                          ∧ (r.hostGuard c = none → d.receive p = (r.entered p slot).hostRun c slot))))))
  ∧ (∀ (p : InPacket) (d : Dev),
      (d.host.isOpen = false → d.receive p = d)
      ∧ (d.host.isOpen = true → d.freeEntry = none → d.receive p = (d.heardHost p).raise 5 1 0xFF (u16 p.length)))

/-- A reply is queued behind what waits, with the opcode plus 0x80, the command's tag and its status; its journal entry holds the status in state 3; nothing outside the host interface and the journal changes. The front reply leaves: it is taken from the queue, the packet sequence moves on, its journal entry is in state 4 and its command is no longer in flight. Events queued before it leave before it, and the last sequence sent is theirs. Where the manual leaves this open or to be read, it states the model's choice: log entries 5, 21 and 62. -/
def Obligations.ReplyIsQueued : Prop :=
  (∀ (d : Dev) (slot status : Nat) (data : List Byte), slot < d.nv.journal.length →
      let e := d.entry slot
      let t := d.reply slot status data
      t.host.out = d.host.out ++ [{ event := false, key := slot, source := 0, bytes := packet (128 + e.opcode % 128) e.tag 0 (u8 status ++ data) }]
        ∧ (t.entry slot).state = 3 ∧ (t.entry slot).status = status ∧ (t.entry slot).tag = e.tag ∧ (t.entry slot).opcode = e.opcode
        ∧ (∀ k, k ≠ slot → t.entry k = d.entry k)
        ∧ t = { d with
            nv := { d.nv with journal := t.nv.journal, journalWrites := d.nv.journalWrites + 1 }
            host := { d.host with out := t.host.out, flights := d.host.flights.map fun f => if f.slot = slot then { f with replied := true } else f } })
  ∧ (∀ (dt : Nat) (s : State) (p : OutPacket) (rest : List OutPacket),
    let d := s.later dt
    d.host.out = p :: rest →
    (p.event = false →
      let t : Dev := { d with
        nv := (d.putEntry p.key { d.entry p.key with state := 4 }).nv
        host := { d.host with
          out := rest, outPos := 0, txSeq := (d.host.txSeq + 1) % 256, flights := d.host.flights.filter fun f => f.slot ≠ p.key } }
      Leaves (.replySent dt) s t.judgePark)
    ∧ (p.event = true →
        let nv := { d.nv with sentSeq := p.key, keep := if p.source = 0 then { d.nv.keep with cause := 0 } else d.nv.keep }
        d.packetLeft = ({ d with nv := nv, host := { d.host with out := rest, outPos := 0, txSeq := (d.host.txSeq + 1) % 256 } } : Dev).reportLost))

/-- Events while the interface is open: each takes the next sequence number; a masked one is counted; one that finds 256 waiting, or 240 with severity 0 or 1, is lost and counted; every other joins the queue with source, severity, sequence, time, phase and subject. Severity 3, the reset event, "ready" and "events lost" are not masked. -/
def Obligations.EventsQueuedMaskedOrLost : Prop :=
  ∀ (d : Dev) (src sev subject : Nat) (fields : List Byte), d.host.isOpen = true →
    let t := d.raise src sev subject fields
    let open' := sev = 3 ∨ src ≤ 2 ∨ d.host.mask.getLsbD src = true
    let full := 256 ≤ d.host.eventFill ∨ (240 ≤ d.host.eventFill ∧ sev < 2 ∧ src ≠ 2)
    t.nv.eventSeq = (d.nv.eventSeq + 1) % 2 ^ 32
      ∧ (¬ open' → t.host = { d.host with masked := countUp src d.host.masked })
      ∧ (open' → full → t.host = { d.host with
          lost := countUp src d.host.lost
          lostSince := modAt (fun n => satU 16 (n + 1)) (src / 32) d.host.lostSince })
      ∧ (open' → ¬ full → t.host = { d.host with out := d.host.out ++ [{
          event := true, key := d.nv.eventSeq, source := src
          bytes := packet 0x8E 0 4 (u16 src ++ u8 sev ++ u8 0 ++ u32 d.nv.eventSeq ++ u64 d.chron.time ++ (u8 0 ++ u8 subject ++ fields)) }] })
      ∧ t = { d with nv := { d.nv with eventSeq := t.nv.eventSeq }, host := t.host }

/-- A standing condition reports its onset once for a subject; its clearing ends it for that subject and for no other, and a clearing without an onset is silent. -/
def Obligations.StandingConditions : Prop :=
  ∀ (d : Dev) (src sev subject : Nat) (fields : List Byte),
    (d.onset src sev subject fields).host.stands src subject = true
    ∧ ((d.onset src sev subject fields).onset src sev subject fields = d.onset src sev subject fields)
    ∧ (d.host.stands src subject = true → d.onset src sev subject fields = d)
    ∧ (d.clearing src subject fields).host.stands src subject = false
    ∧ (d.host.stands src subject = false → d.clearing src subject fields = d)
    ∧ ∀ src' subject', (src', subject') ≠ (src, subject) →
        (d.clearing src subject fields).host.stands src' subject' = d.host.stands src' subject'
        ∧ (d.onset src sev subject fields).host.stands src' subject' = d.host.stands src' subject'

/-- The bytes of a whole packet and the row of its command do the same: header check, body check and body lead to the one acceptance. Bytes whose header fails its check raise event 4 and nothing else. Where the manual leaves this open or to be read, it states the model's choice: log entry 8. -/
def Obligations.PacketBytesAreTheCommand : Prop :=
  (∀ (dt : Nat) (h : CmdHead) (c : HostCmd) (s : State), wfCmd c = true →
      Leaves (.packetReceived dt (packet (opcodeOf c) h.tag.toNat (bit h.note) (encodeBody c))) s ((s.later dt).hostCommand h c))
    ∧ ∀ (dt : Nat) (bytes : List Byte) (s : State), (s.later dt).host.isOpen = true → 8 ≤ bytes.length → fieldAt 0 1 bytes = 0xA5 →
        crc8 (bytes.take 7) ≠ fieldAt 7 1 bytes → Leaves (.packetReceived dt bytes) s ((s.later dt).raise 4 1 0xFF [])

/-! ### System, firmware and parameter commands (chapters 03 and 04) -/

/-- The system queries each answer DONE at once with what they ask for, and do nothing else. RESET resets at once with cause bit 2; PARK and DORMANT are accepted at rest in Locked or Isolated with the step retracted or not fitted, answer DONE, and leave entry to follow the reply; EVENT_MASK replaces the mask. Where the manual leaves this open or to be read, it states the model's choice: log entries 15 and 26. -/
def Obligations.SystemCommands : Prop :=
  (∀ (h : CmdHead) (dt : Nat) (s : State),
    Answers (.identify dt h) h .identify dt s (fun _ => True) (fun d =>
      partNumber ++ u8 Config.grade ++ u8 Config.revision ++ u64 Config.serial ++ u32 (d.bankVersion 0) ++ u32 (d.bankVersion 1)
        ++ u8 (if d.supply.bootRom then 0xFF else d.supply.bank) ++ u8 (bit d.supply.bootRom) ++ u32 (crc32c (imageBytes (d.nv.image.getD [])))
        ++ u8 (bit d.bin.isSealed) ++ u8 ((d.nv.sealRec.map (·.grade)).getD 0))
    ∧ Answers (.status dt h) h .status dt s (fun _ => True) (fun d =>
        u8 (if 13 ≤ d.supply.step ∧ ¬ d.supply.bootRom then d.door.state else 0xFF)
          ++ u8 (if 13 ≤ d.supply.step ∧ ¬ d.supply.bootRom then d.door.step else 0xFF) ++ u8 d.supply.reef
          ++ u8 (bitsOf [d.bin.isSealed, 13 ≤ d.supply.step, d.timeValid, d.faultN]) ++ u8 d.host.flights.length ++ u16 d.host.eventFill)
    ∧ (∀ group, Answers (.eventCounts dt h group) h (.eventCounts group) dt s (fun _ => group ≤ 5) (fun d =>
        u8 group ++ (List.range 32).flatMap (fun i => u16 (sget 0 (32 * group + i) d.host.masked))
          ++ (List.range 32).flatMap fun i => u16 (sget 0 (32 * group + i) d.host.lost)))
    ∧ Answers (.journalRead dt h) h .journalRead dt s (fun _ => True) (fun d =>
        u8 d.flightEntries.length ++ d.flightEntries.flatMap fun e => u8 e.tag ++ u8 e.opcode ++ u8 e.state ++ u64 e.accept)
    ∧ ∀ bytes, Answers (.echo dt h bytes) h (.echo bytes) dt s (fun _ => True) (fun _ => bytes))
  ∧ (∀ (h : CmdHead) (dt : Nat) (s : State),
    let rest : Dev → Prop := fun d => d.inMotion = false ∧ (d.door.state = 0 ∨ d.door.state = 10) ∧ (d.door.step = 0 ∨ d.door.step = 5)
    Runs (.reset dt h) h .reset dt s (fun _ => True) (fun _ d => d.enterReset [2])
    ∧ Runs (.park dt h) h .park dt s rest (fun slot d =>
        { d.reply slot 0x00 [] with supply := { d.supply with parking := some (1, slot) } })
    ∧ Runs (.dormant dt h) h .dormant dt s rest (fun slot d =>
        { d.reply slot 0x00 [] with supply := { d.supply with parking := some (2, slot) } })
    ∧ ∀ mask, Runs (.eventMask dt h mask) h (.eventMask mask) dt s (fun _ => True) (fun slot d =>
        ({ d with host := { d.host with mask := BitVec.ofNat 192 mask } } : Dev).reply slot 0x00 []))

/-- The firmware orders: the load takes a bank that does not run, its first job erases it; data and verification wait for a load; activation outside the boot ROM wants Locked, Isolated or Maintenance at rest and restarts with cause bit 8. CANCEL answers the order that it names with CANCELLED first and then itself DONE; where the tag names nothing in flight, or an order that is not of the six that can be cancelled, it answers NOT_IN_FLIGHT. Where the manual leaves this open or to be read, it states the model's choice: log entries 9, 10 and 67. -/
def Obligations.FirmwareAndCancel : Prop :=
  (∀ (h : CmdHead) (dt : Nat) (s : State),
    (∀ bank length, Runs (.fwLoadBegin dt h bank length) h (.fwLoadBegin bank length) dt s
      (fun d => length ≤ 4194304 ∧ (d.supply.bootRom = true ∨ bank ≠ d.supply.bank))
      (fun slot d => { d with
        nv := { d.nv with banks := modAt (fun b => { b with valid := false }) bank d.nv.banks }
        fw := some { bank := bank, length := length }
        host := { d.host with jobs := d.host.jobs ++ [{ slot := slot, job := .fwErase bank length }] } }))
    ∧ (∀ off bytes, Runs (.fwLoadData dt h off bytes) h (.fwLoadData off bytes) dt s
        (fun d => ∃ l, d.fw = some l ∧ off + bytes.length ≤ l.length)
        (fun slot d => { d with host := { d.host with jobs := d.host.jobs ++ [{ slot := slot, job := .fwWrite off bytes }] } }))
    ∧ (∀ crc, Runs (.fwLoadEnd dt h crc) h (.fwLoadEnd crc) dt s (fun d => d.fw.isSome = true)
        (fun slot d => { d with host := { d.host with jobs := d.host.jobs ++ [{ slot := slot, job := .fwVerify crc }] } }))
    ∧ ∀ bank, Runs (.fwActivate dt h bank) h (.fwActivate bank) dt s
        (fun d => d.supply.bootRom = true ∨ ((d.door.state = 0 ∨ d.door.state = 10 ∨ d.door.state = 12) ∧ d.inMotion = false))
        (fun _ d => ({ d with nv := { d.nv with active := bank } } : Dev).enterReset [8]))
  ∧ (∀ (h : CmdHead) (dt : Nat) (s : State) (target : Nat),
    Runs (.cancel dt h target) h (.cancel target) dt s
      (fun d => ∃ f, d.host.flightOf target = some f ∧ f.opcode ∈ [0x08, 0x09, 0x36, 0x44, 0x53, 0x7C])
      (fun slot d => match d.host.flightOf target with
        | some f => ((d.undoOrder f).reply f.slot 0x12 []).reply slot 0x00 []
        | none => d)
    ∧ Runs (.cancel dt h target) h (.cancel target) dt s
        (fun d => ∀ f, d.host.flightOf target = some f → f.opcode ∉ [0x08, 0x09, 0x36, 0x44, 0x53, 0x7C])
        (fun slot d => d.reply slot 0x13 []))

/-- The parameter queries answer with the values in force (status 9 for an ID that names none), the register of a parameter, a window of the stored image, and the IDs of a block. PARAM_INFO of an ID that names no parameter is refused with status 9, and a length or a window of PARAM_IMAGE_READ that does not fit with RANGE and the field's index. PARAM_WRITE takes all of its pairs or none. Each names a parameter that is not grouped, with a value in its range, and, where of class S, the doorway at rest: then the pairs of class S take effect at once, the others wait for the boundary of their block, and the reply comes once none is left. The first pair that fails gives the status and its index, and no pair takes effect. Where the manual leaves this open or to be read, it states the model's choice: log entry 24. -/
def Obligations.ParameterReadAndWrite : Prop :=
  (∀ (h : CmdHead) (dt : Nat) (s : State),
    (∀ ids, Answers (.paramRead dt h ids) h (.paramRead ids) dt s (fun _ => True) (fun d => ids.flatMap fun id =>
      if (paramDef? id).isSome then u8 0 ++ i32 (sget (paramDefault id) id d.prm.working) else u8 9 ++ u32 0))
    ∧ (∀ id p, paramDef? id = some p → Answers (.paramInfo dt h id) h (.paramInfo id) dt s (fun _ => True) (fun _ =>
        u16 p.id ++ u8 (p.timing.code + 4 * bit p.sealed + 16 * p.typeCode) ++ i32 p.lo ++ i32 p.hi ++ i32 p.dflt ++ u8 p.unit ++ u16 p.group))
    ∧ (∀ id, paramDef? id = none → Refuses (.paramInfo dt h id) h (.paramInfo id) dt s (fun _ => True) 0x09 [])
    ∧ (∀ off n, Answers (.paramImageRead dt h off n) h (.paramImageRead off n) dt s
        (fun _ => 1 ≤ n ∧ n ≤ 1000 ∧ off + n ≤ 16 + 6 * allParams.length)
        (fun d => u32 off ++ u16 n ++ ((imageBytes (d.nv.image.getD [])).drop off).take n))
    ∧ (∀ off n, Refuses (.paramImageRead dt h off n) h (.paramImageRead off n) dt s (fun _ => n = 0 ∨ 1000 < n) 0x08 (u8 1))
    ∧ (∀ off n, Refuses (.paramImageRead dt h off n) h (.paramImageRead off n) dt s
        (fun _ => 1 ≤ n ∧ n ≤ 1000 ∧ 16 + 6 * allParams.length < off + n) 0x08 (u8 0))
    ∧ ∀ block start, Answers (.paramList dt h block start) h (.paramList block start) dt s (fun _ => True) (fun _ =>
        let all := (blockParams block).map (·.id)
        u8 block ++ u16 start ++ u16 all.length ++ u16 ((all.drop start).take 256).length ++ ((all.drop start).take 256).flatMap u16))
  ∧ (∀ (h : CmdHead) (dt : Nat) (s : State) (pairs : List (Nat × Nat)),
    let good (d : Dev) (w : Nat × Nat) : Prop := ∃ p, paramDef? w.1 = some p ∧ p.timing ≠ .grouped ∧ p.timing ≠ .groupedStandstill
      ∧ p.inRange (p.ofWire w.2) = true ∧ (p.timing = .standstill → d.inMotion = false)
    Runs (.paramWrite dt h pairs) h (.paramWrite pairs) dt s
      (fun d => ∀ w ∈ pairs, good d w)
      (fun slot d =>
        let ws := pairs.map fun w => (w.1, (d.checkPair w).2)
        let now := ws.filter fun w => atOnce w.1
        let rest := ws.filter fun w => !atOnce w.1
        if now = [] then { d with prm := { d.prm with waiting := d.prm.waiting ++ [{ slot := slot, writes := ws }] } }
        else
          let t := (d.takeEffect now).2
          if rest = [] then t.reply slot 0x00 (u8 (bit (d.takeEffect now).1))
          else { t with prm := { t.prm with waiting := t.prm.waiting ++ [{ slot := slot, writes := rest, broke := (d.takeEffect now).1 }] } })
    ∧ ∀ (first last : List (Nat × Nat)) (w : Nat × Nat), pairs = first ++ w :: last →
        let fails (why : Dev → Prop) (status : Nat) : Prop := Refuses (.paramWrite dt h pairs) h (.paramWrite pairs) dt s
          (fun d => (∀ v ∈ first, good d v) ∧ why d) status (u8 first.length)
        (paramDef? w.1 = none → fails (fun _ => True) 0x09)
        ∧ ∀ p, paramDef? w.1 = some p →
            (p.timing = .grouped ∨ p.timing = .groupedStandstill → fails (fun _ => True) 0x0B)
            ∧ (p.timing ≠ .grouped → p.timing ≠ .groupedStandstill →
                (p.inRange (p.ofWire w.2) = false → fails (fun _ => True) 0x08)
                ∧ (p.inRange (p.ofWire w.2) = true → p.timing = .standstill → fails (fun d => d.inMotion = true) 0x0E)))

/-- A group is staged whole, its values in their ranges, in place of an earlier stage of it, at most 16 groups at a time; a discard drops the stages named, or all; a commit of staged groups of one block that pass their checks waits for the block's boundary, or, with the pair and jury group, for the smart-power die. The image orders: a window of the staging buffer is loaded; saving, installing an image that passes its check and the factory image are jobs of the flash; an image that fails its check is answered IMAGE with the entry and the check. Where the manual leaves this open or to be read, it states the model's choice: log entries 23, 24 and 25. -/
def Obligations.GroupsAndImages : Prop :=
  (∀ (h : CmdHead) (dt : Nat) (s : State),
    (∀ group values, Runs (.paramGroupStage dt h group values) h (.paramGroupStage group values) dt s
      (fun d => isGroup group = true ∧ values.length = (groupFields group).length ∧ rangeFails 0 (groupFields group) values = none
        ∧ (d.prm.staged.length < 16 ∨ ∃ g ∈ d.prm.staged, g.group = group))
      (fun slot d => ({ d with prm := { d.prm with
          staged := (d.prm.staged.filter fun g => g.group ≠ group) ++ [{ group := group, values := List.zipWith ParamDef.ofWire (groupFields group) values }] } } : Dev).reply
        slot 0x00 (u16 group ++ u8 0xFF)))
    ∧ (∀ groups, Runs (.paramGroupDiscard dt h groups) h (.paramGroupDiscard groups) dt s
        (fun _ => groups = [0xFFFF] ∨ ∀ g ∈ groups, isGroup g = true)
        (fun slot d => ({ d with prm := { d.prm with
            staged := d.prm.staged.filter fun g => !(groups = [0xFFFF] || groups.contains g.group) } } : Dev).reply slot 0x00 []))
    ∧ ∀ groups, Runs (.paramCommit dt h groups) h (.paramCommit groups) dt s
        (fun d => (∀ g ∈ groups, g / 256 = groups.headD 0 / 256) ∧ (∀ g ∈ groups, ∃ t ∈ d.prm.staged, t.group = g)
          ∧ (P.LCH_PAIR_ENABLE ∈ groups → d.load.jury = false) ∧ (standstillGroups groups = true → d.inMotion = false)
          ∧ firstFailure groups (d.parWith (d.commitWrites groups)) = none)
        (fun slot d => if P.LCH_PAIR_ENABLE ∈ groups then
            { d with host := { d.host with jobs := d.host.jobs ++ [{ slot := slot, job := .juryWrite (d.commitWrites groups) groups }] } }
          else { d with prm := { d.prm with waiting := d.prm.waiting ++ [{ slot := slot, writes := d.commitWrites groups, groups := groups }] } }))
  ∧ (∀ (h : CmdHead) (dt : Nat) (s : State),
    Runs (.paramImageSave dt h) h .paramImageSave dt s (fun _ => True)
      (fun slot d => { d with host := { d.host with jobs := d.host.jobs ++ [{ slot := slot, job := .imageSave }] } })
    ∧ (∀ off bytes, Runs (.paramImageLoad dt h off bytes) h (.paramImageLoad off bytes) dt s (fun _ => off + bytes.length ≤ imageRoom)
        (fun slot d => ({ d with prm := { d.prm with buffer := loadBuffer off bytes d.prm.buffer } } : Dev).reply slot 0x00 []))
    ∧ (∀ crc, Runs (.paramImageInstall dt h crc) h (.paramImageInstall crc) dt s (fun _ => True)
        (fun slot d => match d.checkImage crc with
          | .inl (i, c) => d.reply slot 0x1F (u16 i ++ u16 c)
          | .inr values => { d with host := { d.host with jobs := d.host.jobs ++ [{ slot := slot, job := .imageInstall values }] } }))
    ∧ Runs (.paramFactory dt h) h .paramFactory dt s (fun _ => True)
        (fun slot d => { d with host := { d.host with jobs := d.host.jobs ++ [{ slot := slot, job := .factory }] } }))

/-- Writes waiting for the 1 ms boundary take effect at it in the order of acceptance: of each waiting write the pairs of that boundary enter the working set, the others wait on, and it is replied to once none is left; a commit that R204 turns down is answered with status 16 and takes no effect. Where the manual leaves this open or to be read, it states the model's choice: log entry 24. -/
def Obligations.WritesTakeEffect : Prop :=
  let pick : PendingWrite → Nat → Bool := fun _ id => boundaryOf id = 4
  (∀ (dt : Nat) (s : State) (w : List PendingWrite), (s.later dt).prm.waiting = w →
      let t := (Dev.takeList pick w (s.later dt)).2
      Leaves (.registerWrite dt) s { t with prm := { t.prm with waiting := (Dev.takeList pick w (s.later dt)).1 } })
  ∧ (∀ (dt : Nat) (s : State), (∀ w ∈ (s.later dt).prm.waiting, ∀ x ∈ w.writes, boundaryOf x.1 ≠ 4) → Leaves (.registerWrite dt) s (s.later dt))
  ∧ (∀ (dt : Nat) (s : State) (w : PendingWrite), (s.later dt).prm.waiting = [w] → w.groups = [] → w.writes ≠ [] → (∀ x ∈ w.writes, boundaryOf x.1 = 4) →
      let t := ((s.later dt).takeEffect w.writes).2.reply w.slot 0x00 (u8 (bit (w.broke || ((s.later dt).takeEffect w.writes).1)))
      Leaves (.registerWrite dt) s { t with prm := { t.prm with waiting := [] } })
  ∧ (∀ (w : PendingWrite) (ws : List PendingWrite) (d : Dev), Dev.takeList pick [] d = ([], d)
      ∧ Dev.takeList pick (w :: ws) d =
          ((d.takeOne pick w).1.toList ++ (Dev.takeList pick ws (d.takeOne pick w).2).1, (Dev.takeList pick ws (d.takeOne pick w).2).2))
  ∧ (∀ (w : PendingWrite) (d : Dev),
      let hit := w.writes.filter fun x => boundaryOf x.1 = 4
      let rest := w.writes.filter fun x => boundaryOf x.1 ≠ 4
      let kept := w.groups.contains d.movingGroup = true ∧ d.infeasible (d.parOver hit) = true
      let t := (d.takeEffect hit).2
      let broke := w.broke || (d.takeEffect hit).1
      (hit = [] → d.takeOne pick w = (some w, d))
      ∧ (hit ≠ [] → kept → d.takeOne pick w = (none, d.reply w.slot 0x10 (commitReply d.movingGroup 0 false)))
      ∧ (hit ≠ [] → ¬ kept → rest = [] → w.groups = [] → d.takeOne pick w = (none, t.reply w.slot 0x00 (u8 (bit broke))))
      ∧ (hit ≠ [] → ¬ kept → rest ≠ [] → d.takeOne pick w = (some { w with writes := rest, broke := broke }, t)))
  ∧ ∀ (d : Dev) (id : Nat) (v : Int), (v ≠ paramDefault id ∨ (d.prm.working.map (·.1)).Pairwise (· < ·)) →
      (d.putWrites [(id, v)]).2.par id = v ∧ ∀ other, other ≠ id → (d.putWrites [(id, v)]).2.par other = d.par other

/-! ### The doorway (chapter 05) -/

/-- An accepted doorway order waits for the next profile update (R146, row 5), with progress 1 in its journal entry; each is accepted in the states, and with the permit, supply, time and body, that its rule gives. Where the manual leaves this open or to be read, it states the model's choice: log entries 22 and 32. -/
def Obligations.DoorOrdersWait : Prop := ∀ (h : CmdHead) (dt : Nat) (s : State),
  let waits (op start value : Nat) : Nat → Dev → Dev := fun slot d => (d.progress slot 1).modDoor fun q =>
    { q with inbox := q.inbox ++ [{ opcode := op, slot := some slot, start := start, value := value }] }
  let calm (d : Dev) : Prop := d.door.copies.egress = false ∧ d.door.copies.access = false
  let timed (start : Nat) (d : Dev) : Prop :=
    (start = 0 ∨ d.timeValid = true) ∧ start ≤ d.chron.time + ms (d.parN P.DOOR_START_MAX_AHEAD)
  Runs (.doorRelease dt h) h .doorRelease dt s
    (fun d => (d.door.state = 0 ∨ d.door.state = 9) ∧ d.door.landfall.leaving = false ∧ d.door.copies.permit = true) (waits 0x20 0 0)
  ∧ (∀ start, Runs (.doorOpen dt h start) h (.doorOpen start) dt s
      (fun d => (d.door.state ∈ [0, 2, 5, 6, 9] ∨ (d.door.state = 11 ∧ calm d)) ∧ d.door.landfall.leaving = false
        ∧ d.door.copies.permit = true ∧ d.supply.vdrv = true ∧ timed start d) (waits 0x21 start start))
  ∧ (∀ start, Runs (.doorClose dt h start) h (.doorClose start) dt s
      (fun d => (d.door.state ∈ [2, 3, 4, 5, 6, 9] ∨ (d.door.state = 11 ∧ calm d) ∨ (d.door.state = 0 ∧ d.door.landfall.busy = true)
          ∨ (d.door.state = 13 ∧ d.door.fault = 5)) ∧ (d.door.state = 2 ∨ d.supply.vdrv = true) ∧ timed start d) (waits 0x22 start start))
  ∧ (∀ time, Runs (.doorHold dt h time) h (.doorHold time) dt s
      (fun d => time ≤ 600000 ∧ (d.door.state = 4 ∨ d.door.state = 5
        ∨ (d.door.state = 6 ∧ d.door.copies.permit = true ∧ d.supply.vdrv = true))) (waits 0x23 0 time))
  ∧ Runs (.doorIsolate dt h) h .doorIsolate dt s
      (fun d => d.door.state ∉ [10, 11, 12, 13] ∧ (d.door.state ≤ 2 ∨ d.supply.vdrv = true)) (waits 0x24 0 0)
  ∧ Runs (.doorRestore dt h) h .doorRestore dt s (fun d => d.door.state = 10 ∧ d.door.copies.isolation = false) (waits 0x25 0 0)
  ∧ (∀ side, Runs (.landfallAnnounce dt h side) h (.landfallAnnounce side) dt s
      (fun d => (d.door.state = 0 ∨ d.door.state = 9) ∧ d.par P.DOOR_LANDFALL_ENABLE = 1 ∧ d.timeValid = true ∧ d.supply.reef < 2
        ∧ d.supply.vdrv = true ∧ (d.door.step = 0 ∨ d.door.step = 5) ∧ d.door.landfall.leaving = false) (waits 0x26 0 side))
  ∧ Runs (.landfallWithdraw dt h) h .landfallWithdraw dt s
      (fun d => d.door.state = 9 ∨ (d.door.state = 0 ∧ d.door.landfall ≠ .none)) (waits 0x27 0 0)
  ∧ Runs (.stepDeploy dt h) h .stepDeploy dt s
      (fun d => (d.door.state = 2 ∨ d.door.state = 4 ∨ (d.door.state = 5 ∧ d.door.origin = 1)) ∧ d.door.step ∉ [4, 5]
        ∧ (d.port 2).state ∉ [0, 5] ∧ d.supply.vdrv = true) (waits 0x28 0 0)
  ∧ Runs (.stepRetract dt h) h .stepRetract dt s
      (fun d => d.door.state ∉ [9, 10, 11, 12] ∧ d.door.step ≠ 5
        ∧ (d.door.step = 4 → (d.drive.stepA.latched = true → d.drive.stepA.trips ≤ 3) ∧ (d.drive.stepB.latched = true → d.drive.stepB.trips ≤ 3))
        ∧ (d.door.step = 0 ∨ d.supply.vdrv = true)) (waits 0x29 0 0)
  ∧ Runs (.maintenanceEnter dt h) h .maintenanceEnter dt s
      (fun d => d.door.state ∈ [0, 4, 8, 10, 13] ∧ d.inMotion = false ∧ d.door.copies.view = 0) (waits 0x2A 0 0)
  ∧ Runs (.maintenanceExit dt h) h .maintenanceExit dt s (fun d => d.door.state = 12 ∧ d.inMotion = false) (waits 0x2B 0 0)
  ∧ Runs (.doorFaultClear dt h) h .doorFaultClear dt s
      (fun d => (d.door.state = 8 ∧ (d.atOpenEnd = true ∨ (d.door.copies.permit = true ∧ d.supply.vdrv = true)))
        ∨ (d.door.state = 13 ∧ d.faultPresent = false)) (waits 0x2C 0 0)
  ∧ Answers (.doorState dt h) h .doorState dt s (fun _ => True) (fun d =>
      let q := d.door
      let c := q.copies
      u8 q.state ++ u8 q.step ++ u8 q.cause ++ u8 q.closingCount ++ u8 q.openingCount
        ++ u8 (bitsOf [c.lockMade, c.closedA, c.closedB, c.egress, c.access, c.isolation] + 64 * c.view)
        ++ u8 (bitsOf [c.permit, c.inhibit, q.suspended, (match q.landfall with | .armed _ _ => true | _ => false), q.landfall.leaving,
            decide (d.sext.ref = 1)])
        ++ i32 (satI 32 d.leafPos) ++ i32 (satI 32 d.stepPos) ++ u64 q.changed ++ u8 q.prev ++ leBytes 3 0)

/-- With every tenth current sample, once start-up is past step 10: the copies, the reef stage, the faults and the demands in that order, and what stops an axis, then the links and the parameters that wait for this boundary, then the orders in the order of their acceptance and the axis orders, then the planner and what it reached. Those of the doorway and the axis orders only once the device is ready; orders wait while a write of the pair and jury group is on its way to the smart-power die. Where the manual leaves this open or to be read, it states the model's choice: log entry 52. -/
def Obligations.ProfileUpdate : Prop := ∀ (dt : Nat) (s : State),
  Acts (.profileUpdate dt) dt s (fun d => d.live = true ∧ d.pilot.samples % 10 = 0) (fun d0 =>
    let d := d0.modSext fun s => { s with hallOut := if d0.par P.SYS_DRIVE_ROLE = 2 then none else some s.code }
    let d : Dev := { d with log := { d.log with demandNow := false } }
    let d := if d.ready then d.rowCopies.rowReef.rowFaults.rowDemands.axisStops else d
    let d := (d.takeLinks.reefFallback.enterDr.leaveGearing.takeAtProfile).takeStepTable
    let handled : Dev → Dev := fun d =>
      if d.juryComing then d else d.door.inbox.foldl (fun d o => d.handleOrder o) (d.modDoor fun q => { q with inbox := [] })
    let d := if d.ready then (handled d).doorFollow.axisStarts else d
    let d := d.followLeader.evalLeaf.evalStep.judgeStill
    let homing := decide (d.leaf.mode = 5)
    let d := d.judgeHoming.seekOver homing
    let d := if d.ready then d.stepSequence.judgeAxisStops.arbitrate else d
    let d := if d.ready ∧ d.leafMotion ≠ d0.leafMotion then d.sendKind 5 else d
    d.recUpdate.logUpdate)

/-- The sequencer's timers of the lock, the closing and the start: each acts once its time has come, and in its state. What the lock pair does to the doorway: opened after an unlock it is Released, or Landfall, and an opening goes on; made, it locks a closed doorway if the step allows. A reversal or back-off that has ended leads to Holding or Obstructed. The timers of Landfall, of Emergency-released and of the step. Where the manual leaves this open or to be read, it states the model's choice: log entries 1, 33, 34, 35, 57 and 59. -/
def Obligations.DoorwayTimers : Prop :=
  (∀ (dt : Nat) (s : State),
    let up (d : Dev) : Prop := d.ready = true ∧ d.live = true
    Acts (.startTimeReached dt) dt s (fun d => up d ∧ ∃ o, d.door.waitOrder = some o ∧ d.beginTime o ≤ d.chron.time)
      (fun d => match d.door.waitOrder with
        | some o =>
          if d.juryComing then d.modDoor fun q => { q with waitOrder := none, inbox := q.inbox ++ [o] }
          else (d.modDoor fun q => { q with waitOrder := none }).startDoor o
        | none => d)
    ∧ Acts (.closingWarningFlash dt) dt s (fun d => up d ∧ d.door.flashing = true ∧ d.door.flashNext ≤ d.now)
        (fun d => (d.modDoor fun q => { q with flashOn := !q.flashOn, flashNext := q.flashNext + ms 500 }).refreshLoads)
    ∧ Acts (.unlockTimeout dt) dt s (fun d => up d ∧ d.door.copies.lockMade = true ∧ ∃ t, d.door.unlockBy = some t ∧ t ≤ d.now)
        (fun d => match d.door.landfall with
          | .unlocking _ => d.withdraw 8
          | _ => (d.setLock false).doorFault 1)
    ∧ Acts (.closedWaitExpiry dt) dt s
        (fun d => up d ∧ d.door.state = 6 ∧ ((∃ t, d.door.waitPairs = some t ∧ ms (d.parN P.DOOR_CLOSED_WAIT) ≤ d.now - t)
          ∨ ∃ t, d.door.waitWindow = some t ∧ ms (d.parN P.DOOR_CLOSED_WAIT) ≤ d.now - t))
        (fun d => if ∃ t, d.door.waitPairs = some t ∧ ms (d.parN P.DOOR_CLOSED_WAIT) ≤ d.now - t then
            (d.modDoor fun q => { q with waitPairs := none }).closingObstruction
          else d.doorFault 3)
    ∧ Acts (.lockTimeout dt) dt s (fun d => up d ∧ d.door.copies.lockMade = false ∧ ∃ t, d.door.lockBy = some t ∧ t ≤ d.now)
        (fun d => if d.door.state = 1 ∧ d.door.landfall.leaving = false ∧ d.par P.DOOR_LOCK_RETRY = 1 ∧ d.door.lockRetried = false then
            (d.modDoor fun q => { q with lockRetried := true, lockBy := none, pulseEnd := some (d.now + ms 200) }).setLock true
          else d.doorFault 2)
    ∧ Acts (.lockRetryPulseEnd dt) dt s (fun d => up d ∧ ∃ t, d.door.pulseEnd = some t ∧ t ≤ d.now)
        (fun d => (d.modDoor fun q => { q with pulseEnd := none, lockBy := some (d.now + ms (d.parN P.DOOR_LOCK_TIME)) }).setLock false)
    ∧ Acts (.lockPairOpenedLocked dt) dt s
        (fun d => up d ∧ d.door.state = 0 ∧ d.door.copies.lockMade = false ∧ d.door.unlockBy = none ∧ d.door.landfall.leaving = false)
        (fun d => d.doorFault 10)
    ∧ Acts (.holdingTimerEnd dt) dt s (fun d => up d ∧ d.door.state = 5 ∧ ∃ t, d.door.holdEnd = some t ∧ t ≤ d.now)
        (fun d =>
          let d := d.modDoor fun q => { q with holdEnd := none }
          if d.door.origin = 1 then d.setDoor 4 else if d.door.origin = 2 then d.beginClosing 0 else d.beginOpening)
    ∧ Acts (.reefResume dt) dt s
        (fun d => up d ∧ d.door.suspended = true ∧ d.supply.reef < 3 ∧ ∃ t, d.door.resumeAt = some t ∧ t ≤ d.now)
        (fun d =>
          let d := d.modDoor fun q => { q with suspended := false, resumeAt := none }
          if d.door.state = 3 then (if d.door.copies.permit = true then d.openLeaves else d.abortDoor 4)
          else if d.door.state = 6 then
            ((d.modDoor fun q => { q with warnEnd := some (d.now + ms (d.parN P.DOOR_CLOSE_WARN_TIME)) }).doorProgress 2).startFlash
          else if d.door.state = 7 ∧ d.door.stopping = false then
            if d.door.backingOff = false ∧ d.door.copies.permit = false then (d.manualCurrent 0).obstructed
            else d.goLeaf { target := d.leaf.target, toEnd := decide (d.leaf.target = d.goalOf d.openEnd ∨ d.leaf.target = 0) }
          else d))
  ∧ (∀ (dt : Nat) (s : State),
    let up (d : Dev) : Prop := d.ready = true ∧ d.live = true
    let past (back : Bool) (d : Dev) : Prop := up d ∧ d.door.state = 7 ∧ d.door.backingOff = back ∧ d.door.stopping = false
      ∧ d.leaf.rests = true ∧ d.leaf.next = none ∧ d.door.suspended = false
    Acts (.lockPairOpened dt) dt s (fun d => up d ∧ d.door.copies.lockMade = false ∧ d.door.unlockBy.isSome = true)
      (fun d => match d.door.landfall with
        | .unlocking slot => ((d.modDoor fun q => { q with landfall := .held d.now }).setDoor 9).done slot (u8 0)
        | _ =>
          let t := d.setDoor 2
          let t := if t.par P.DOOR_STEP_DEPLOY_AT = 1 then t.beginDeploy.2 else t
          if ∀ o, d.door.order = some o → o.opcode ≠ 0x21 then t.doneDoor
          else if d.door.openAfterStep = true ∧ t.stepComing = true then (t.modDoor fun q => { q with openAfterStep := true }).doorProgress 6
          else t.beginOpening)
    ∧ Acts (.lockPairMade dt) dt s
        (fun d => up d ∧ d.door.copies.lockMade = true
          ∧ ((d.door.landfall.leaving = true ∧ d.door.lockBy.isSome = true) ∨ (d.door.state = 1 ∧ d.door.pulseEnd = none)))
        (fun d => if d.door.landfall.leaving = true ∧ d.door.lockBy.isSome = true then
            (if d.door.state = 9 ∨ d.door.state = 0 then (d.setDoor 1).modDoor fun q => { q with lockBy := some d.now } else d).tryLock
          else d.tryLock)
    ∧ Acts (.reversalEnds dt) dt s (past false) (fun d =>
        if d.parN P.DOOR_RECLOSE_LIMIT ≤ d.door.closingCount then d.obstructed
        else
          let t := (d.modDoor fun q => { q with origin := 2 }).setDoor 5
          (t.modDoor fun q => { q with holdEnd := some (t.now + ms (t.parN P.DOOR_RECLOSE_DELAY)) }).doorProgress 5)
    ∧ Acts (.backoffEnds dt) dt s (past true) (fun d =>
        if d.parN P.DOOR_RECLOSE_LIMIT ≤ d.door.openingCount then d.obstructed
        else
          let t := (d.modDoor fun q => { q with origin := 3 }).setDoor 5
          (t.modDoor fun q => { q with holdEnd := some (t.now + ms (t.parN P.DOOR_RECLOSE_DELAY)) }).doorProgress 5))
  ∧ (∀ (dt : Nat) (s : State),
    let up (d : Dev) : Prop := d.ready = true ∧ d.live = true
    Acts (.landfallForceCheck dt) dt s (fun d => up d ∧ ∃ slot t, d.door.landfall = .entering slot t ∧ ms 20 ≤ d.now - t)
      (fun d => if 10 * (d.holdForce - d.par P.DOOR_LANDFALL_FORCE).natAbs ≤ (d.par P.DOOR_LANDFALL_FORCE).natAbs then d else d.doorFault 7)
    ∧ Acts (.landfallArmExpiry dt) dt s (fun d => up d ∧ ∃ slot t, d.door.landfall = .armed slot t ∧ t ≤ d.now)
        (fun d => match d.door.landfall with
          | .armed slot _ => (d.modDoor fun q => { q with landfall := .none }).done slot (u8 2)
          | _ => d)
    ∧ Acts (.landfallMaxExpiry dt) dt s (fun d => up d ∧ ∃ t, d.door.landfall = .held t ∧ sec (d.parN P.DOOR_LANDFALL_MAX) ≤ d.now - t)
        (fun d => d.withdraw 4)
    ∧ Acts (.egressAssistStart dt) dt s
        (fun d => up d ∧ d.door.state = 11 ∧ d.door.copies.view = 0 ∧ d.door.copies.permit = true ∧ d.par P.DOOR_EGRESS_ASSIST ≠ 0 ∧ d.door.assist = false
          ∧ d.pilot.gatesOff = true ∧ 10000 ≤ d.umOfSub (d.sext.counter - d.door.nearest))
        (fun d => (((d.modDoor fun q => { q with assist := true, assistStill := none }).modPilot fun p =>
          { p with gatesOff := false, leafMode := { mode := 1 } })).manualCurrent (d.par P.DOOR_EGRESS_ASSIST))
    ∧ Acts (.egressAssistEnd dt) dt s
        (fun d => up d ∧ d.door.state = 11 ∧ d.door.assist = true ∧ ((∃ t, d.door.assistStill = some t ∧ ms 500 ≤ d.now - t) ∨ d.atOpenEnd = true))
        (fun d => d.freeLeaves)
    ∧ Acts (.stepMoveTimeout dt) dt s
        (fun d => up d ∧ (d.door.step = 1 ∨ d.door.step = 3) ∧ ∃ t, d.door.stepSince = some t ∧ sec 3 ≤ d.now - t)
        (fun d => d.stepFault 3)
    ∧ Acts (.stepFindContinue dt) dt s
        (fun d => up d ∧ d.door.step = 1 ∧ d.door.stepSince = none ∧ d.step.phases = [] ∧ d.stepObstacle = false
          ∧ ms (d.parN P.DOOR_RECLOSE_DELAY) ≤ d.now - d.obst.stepClearSince ∧ d.door.stepWaiting = false ∧ d.step.find ≠ 0)
        (fun d => d.modDoor fun q => { q with stepSince := some d.now })
    ∧ Acts (.stepRetractAgain dt) dt s
        (fun d => up d ∧ d.door.step = 2 ∧ d.stepObstacle = false ∧ ms (d.parN P.DOOR_RECLOSE_DELAY) ≤ d.now - d.obst.stepClearSince
          ∧ ∃ t, d.door.stepAgain = some t ∧ t ≤ d.now)
        (fun d => d.beginRetract))

/-- A change of the doorway's state raises event 32 with the old state, the new state and its cause, takes the Chronometer's time, is recorded, and switches the lock channel as R140 gives it: on in states 2 to 9, off in 0, 1, 10 and 11. A new state 0, 10 or 12 zeroes the obstruction counts. Isolated is kept for the next start, through Maintenance and Faulted. A fault of the doorway: Faulted with its cause, no order in flight or waiting, both axes told to stop; a doorway that is Faulted keeps its first cause and nothing else happens. Where the manual leaves this open or to be read, it states the model's choice: log entries 31 and 34. -/
def Obligations.StateChangeAndFault : Prop :=
  ((∀ (d : Dev) (new : Nat), d.door.state ≠ new →
      let t := d.setDoor new
      t.door.state = new ∧ t.door.prev = d.door.state ∧ t.door.changed = d.chron.time
        ∧ (2 ≤ new ∧ new ≤ 9 → t.door.lockOn = true) ∧ (new ∈ [0, 1, 10, 11] → t.door.lockOn = false)
        ∧ (new ∈ [0, 10, 12] → t.door.closingCount = 0 ∧ t.door.openingCount = 0)
        ∧ (new ∉ [0, 10, 12] → t.door.closingCount = d.door.closingCount ∧ t.door.openingCount = d.door.openingCount)
        ∧ t.door.step = d.door.step ∧ t.door.order = d.door.order ∧ t.door.landfall = d.door.landfall
        ∧ t.nv.wasIsolated = (if new = 10 then true else if new = 12 ∨ new = 13 then d.nv.wasIsolated else false)
        ∧ t.sext = d.sext ∧ t.leaf = d.leaf ∧ t.step = d.step ∧ t.pilot = d.pilot ∧ t.skin = d.skin ∧ t.bin = d.bin ∧ t.bus = d.bus
        ∧ t.prm = d.prm ∧ t.supply = d.supply ∧ t.now = d.now ∧ t.chron = d.chron)
    ∧ (∀ d : Dev, d.setDoor d.door.state = d)
    ∧ ∀ (d : Dev) (new : Nat), d.door.state ∉ [new, 8, 10, 13] → new ≠ 10 →
        let t := d.modDoor fun q => { q.clearPhase new with
          state := new, prev := q.state, changed := d.chron.time
          closingCount := if new = 0 ∨ new = 12 then 0 else q.closingCount, openingCount := if new = 0 ∨ new = 12 then 0 else q.openingCount
          isolating := q.isolating && decide (new ∉ [8, 11, 12, 13]) }
        d.setDoor new = (((if new = 12 ∨ new = 13 then t else { t with nv := { t.nv with wasIsolated := false } }).raise 32 0 0xFF
          (u8 d.door.state ++ u8 new ++ u8 (if new = 13 then d.door.fault else if new = 11 then d.door.emerg else if new = 5 then d.door.origin else 0))).recState
          d.door.state new).setLock (d.lockFor new))
  ∧ (∀ (d : Dev) (cause : Nat),
    (d.door.state = 13 → d.door.fault ≠ 0 → d.doorFault cause = d)
    ∧ (d.door.state ≠ 13 ∨ d.door.fault = 0 →
        let t := d.doorFault cause
        t.door.state = 13 ∧ t.door.fault = cause ∧ t.door.order = none ∧ t.door.waitOrder = none ∧ t.door.stepOrder = none
          ∧ t.door.inbox = [] ∧ t.door.landfall = .none ∧ t.door.holdEnd = none ∧ t.door.stepWaiting = false))

/-! ### The host link, the jobs of orders and the host's silence (chapter 04) -/

/-- A whole packet comes over SPI behind the ignored first byte, or in one CAN segment that is First and Last in the negotiated format, and does what the row of its command does. Over SPI the status byte and what waits leave first. The events of the host link: the SPI transaction and its end, its 50 ms and the 20 ms between CAN segments, a CAN frame's segment, a reply that leaves, the host's silence, and a channel that takes over once the reply of its commit has left. Where the manual leaves this open or to be read, it states the model's choice: log entries 20, 21 and 63. -/
def Obligations.HostChannelsAndLink : Prop :=
  (∀ (dt : Nat) (h : CmdHead) (c : HostCmd) (s : State), wfCmd c = true →
    let d := s.later dt
    let bytes := packet (opcodeOf c) h.tag.toNat (bit h.note) (encodeBody c)
    (∀ first : Byte, d.host.isOpen = true → d.host.chan.channel = 0 → d.host.spiIn = [] → d.host.out = [] →
      Leaves (.spiTransactionStart dt (first :: bytes)) s
        (let t : Dev := ({ d with host := { d.host with
            selected := true, spiOut := BitVec.ofNat 8 d.spiStatus :: List.replicate bytes.length 0#8 } } : Dev).hostCommand h c;
          Dev.judgePark { t with host := { t.host with spiIn := [], spiLast := t.now } }))
    ∧ ∀ (format : Nat) (seq : Byte), d.host.isOpen = true → d.host.chan.channel ≠ 0 → d.host.reasm = none →
        (if d.host.chan.format = 1 then format = 4 else format = 2 ∨ format = 3) →
        (∀ p, d.host.prevSeq = some p → seq.toNat = (p + 1) % 256) →
        Leaves (.hostSegmentReceived dt format (0xC0#8 :: seq :: bytes)) s
          (({ d with host := { d.host with prevSeq := some seq.toNat, dropSeq := none, reasm := none } } : Dev).hostCommand h c))
  ∧ (∀ (dt : Nat) (s : State),
    (∀ bytes, Acts (.spiTransactionStart dt bytes) dt s (fun d => d.host.isOpen = true) (fun d =>
      let status := BitVec.ofNat 8 d.spiStatus
      let d : Dev := { d with host := { d.host with selected := true } }
      if d.host.chan.channel ≠ 0 then
        { d with host := { d.host with spiOut := (status :: List.replicate (bytes.length - 1) 0#8).take bytes.length } }
      else
        let d := d.dropSpi
        let (out, d) := Dev.shiftOut d.host.out.length (bytes.length - 1) d
        let d : Dev := { d with host := { d.host with spiOut := (status :: out).take bytes.length } }
        let all := d.host.spiIn ++ bytes.drop 1
        let (rest, d) := Dev.deframe all.length 4144 all { d with host := { d.host with spiIn := [] } }
        ({ d with host := { d.host with spiIn := rest, spiLast := if bytes.drop 1 = [] then d.host.spiLast else d.now } } : Dev).judgePark))
    ∧ Leaves (.spiTransactionEnd dt) s { s.later dt with host := { (s.later dt).host with selected := false } }
    ∧ Acts (.spiPacketTimeout dt) dt s (fun d => d.host.spiIn ≠ [] ∧ ms 50 < d.now - d.host.spiLast) (fun d =>
        let t : Dev := { d with host := { d.host with spiIn := [] } }
        if 8 ≤ d.host.spiIn.length then t.receive (packetAt d.host.spiIn) else t.raise 6 1 0xFF (u8 6))
    ∧ (∀ format bytes, Acts (.hostSegmentReceived dt format bytes) dt s (fun d => d.host.isOpen = true ∧ d.host.chan.channel ≠ 0) (fun d =>
        let d := d.segmentGap
        let fits : Prop := if d.host.chan.format = 1 then format = 4 else format = 2 ∨ format = 3
        if ¬ fits ∨ bytes.length < 2 then d.raise 6 1 0xFF (u8 5)
        else if bitAt (fieldAt 0 1 bytes) 7 then
          d.firstSegment (fieldAt 0 1 bytes % 64) (fieldAt 1 1 bytes) (bitAt (fieldAt 0 1 bytes) 6) (bytes.drop 2)
        else if d.host.dropSeq = some (fieldAt 1 1 bytes) then d
        else d.nextSegment (fieldAt 0 1 bytes % 64) (fieldAt 1 1 bytes) (bitAt (fieldAt 0 1 bytes) 6) (bytes.drop 2)))
    ∧ Acts (.segmentTimeout dt) dt s (fun d => ∃ r, d.host.reasm = some r ∧ ms 20 < d.now - r.last) (fun d => d.dropSegments 4)
    ∧ Acts (.hostSilent dt) dt s
        (fun d => d.host.isOpen = true ∧ 0 < d.parN P.SYS_HOST_TIMEOUT ∧ ms (d.parN P.SYS_HOST_TIMEOUT) ≤ d.now - d.host.lastValid
          ∧ d.host.stands 8 0xFF = false)
        (fun d =>
          let t := d.onset 8 2 0xFF (u32 (d.parN P.SYS_HOST_TIMEOUT))
          if t.ready = true ∧ t.par P.DOOR_HOST_SILENT_ACTION = 1 ∧ (t.door.state = 2 ∨ t.door.state = 4 ∨ t.door.state = 5) then
            t.modDoor fun q => { q with inbox := q.inbox ++ [{ opcode := 0x22, slot := none }] }
          else t)
    ∧ Acts (.hostChannelSwitch dt) dt s (fun d => ∃ c slot, d.host.chanSwitch = some (c, slot) ∧ ∀ f ∈ d.host.flights, f.slot ≠ slot) (fun d =>
        match d.host.chanSwitch with
        | some (c, _) => ((({ d with host := { d.host with chan := c, chanSwitch := none, spiIn := [], reasm := none, outPos := 0 } } : Dev)).busApply 0).busApply 1
        | none => d))

/-- The job of an order ends: its reply is DONE with its data, or the failure of its store. Where no order with that tag waits for a job, nothing happens. Where the manual leaves this open or to be read, it states the model's choice: log entries 9 and 10. -/
def Obligations.JobsEnd : Prop := ∀ (dt : Nat) (tag : Byte) (ok : Bool) (s : State),
  let d := s.later dt
  ((∀ f, d.host.flightOf tag.toNat = some f → ∀ j ∈ d.host.jobs, j.slot ≠ f.slot) → Leaves (.orderCompleted dt tag ok) s d)
  ∧ ∀ (f : Flight) (j : JobOrder), d.host.flightOf tag.toNat = some f → (d.host.jobs.find? fun j => j.slot = f.slot) = some j →
      let t : Dev := { d with host := { d.host with jobs := d.host.jobs.filter fun j => j.slot ≠ f.slot } }
      (∀ bank length, j.job = .fwErase bank length → Leaves (.orderCompleted dt tag ok) s
        (if ok then ({ t with nv := { t.nv with banks := modAt (fun b => { b with bytes := [] }) bank t.nv.banks } } : Dev).reply f.slot 0x00 []
          else ({ t with fw := none } : Dev).reply f.slot 0x1E []))
      ∧ (∀ off bytes l, j.job = .fwWrite off bytes → d.fw = some l → Leaves (.orderCompleted dt tag ok) s
          (if ok then ({ t with nv := { t.nv with banks := modAt (fun b => { b with bytes := memStore b.bytes off bytes }) l.bank t.nv.banks } } : Dev).reply
              f.slot 0x00 []
            else t.reply f.slot 0x1E []))
      ∧ (∀ crc, j.job = .fwVerify crc → Leaves (.orderCompleted dt tag ok) s (if ok then t.verifyImage crc f.slot else t.reply f.slot 0x1E []))
      ∧ (j.job = .imageSave → Leaves (.orderCompleted dt tag ok) s
          (if ok then ({ t with nv := { t.nv with
                image := some t.prm.working, fricRef := t.pilot.fricRef, steps := t.step.table, tableA := t.bus.a.table, tableB := t.bus.b.table } } : Dev).reply
              f.slot 0x00 (u32 (crc32c (imageBytes t.prm.working)))
            else t.reply f.slot 0x1E []))
      ∧ (∀ values, j.job = .imageInstall values → Leaves (.orderCompleted dt tag ok) s
          (if ok then ({ t with nv := { t.nv with image := some values } } : Dev).reply f.slot 0x00 [] else t.reply f.slot 0x1E []))
      ∧ (j.job = .factory → Leaves (.orderCompleted dt tag ok) s (if ok then t.factoryImage.reply f.slot 0x00 [] else t.reply f.slot 0x1E []))
      ∧ (∀ writes groups, j.job = .juryWrite writes groups → Leaves (.orderCompleted dt tag ok) s (t.juryWritten f.slot writes groups ok))
      ∧ (∀ value, j.job = .sealStore value → Leaves (.orderCompleted dt tag ok) s
          (if ok then (t.sealNow value).reply f.slot 0x00 [] else t.reply f.slot 0x1E []))
      ∧ (∀ what, j.job = .logErase what → Leaves (.orderCompleted dt tag ok) s
          (if ok then (t.eraseLog what).reply f.slot 0x00 [] else (t.failLog 0).reply f.slot 0x1B []))
      ∧ (j.job = .bridgeCheck false → Leaves (.orderCompleted dt tag ok) s
          (if ok then (t.clearBridge 0).clearFaulted (some f.slot) else t.reply f.slot 0x0F (u8 10)))
      ∧ (j.job = .bridgeCheck true → Leaves (.orderCompleted dt tag ok) s
          (if ok then
            let t := if t.drive.stepA.latched = true then t.clearBridge 1 else t
            (if t.drive.stepB.latched = true then t.clearBridge 2 else t).beginRetract
          else t.endStepOrder fun slot t => t.reply slot 0x0F (u8 8)))

/-! ### Resets, start-up, supplies and reefing (chapter 03) -/

/-- Entering reset sets the causes given in the cause word, which keeps the others. The controller die starts again from its reset values: host interface, doorway, axes, loops, sensors, skin, Binnacle, buses, Chronometer and Log engine. What the memory die, the flash and the always-on domain hold stays; the channels keep their latches, trips and pauses and lose the host's orders. The causes of a reset: the supplies (bit 0), RST_N low for 10 µs (bit 1), where a pulse of 1 to 10 µs may or may not count, the watchdog (3), the main clock (4), VCORE margin (5), Reef 4 once the leaf rests or after 250 ms (6), debug (7) and the Binnacle RC (9). A clock fault is a class A fault first. In Parked or Dormant RST_N wakes the device. The reset of Reef 4 lasts until VHV has not been seen below the recovery threshold of Reef 4 for 100 ms. Where the manual leaves this open or to be read, it states the model's choice: log entries 7, 11, 12 and 26. -/
def Obligations.Resets : Prop :=
  (∀ (causes : List Nat) (d : Dev),
    let t := d.enterReset causes
    t.supply.step = 0 ∧ t.supply.reef = 0 ∧ t.now = d.now ∧ t.prm = { working := d.prm.working } ∧ t.fw = none
      ∧ t.door = {} ∧ t.leaf = {} ∧ t.step = {} ∧ t.pilot = {} ∧ t.sext = {} ∧ t.drive = {} ∧ t.skin = {} ∧ t.obst = {} ∧ t.bin = {} ∧ t.bus = {}
      ∧ t.chron = {} ∧ t.log = {} ∧ t.host.isOpen = false ∧ t.host.flights = [] ∧ t.host.jobs = []
      ∧ t.nv = { d.nv with keep := { d.nv.keep with cause := setBits causes d.nv.keep.cause }, unsent := satU 16 d.host.eventFill }
      ∧ (∀ n, t.nv.keep.cause.testBit n = (decide (n ∈ causes) || d.nv.keep.cause.testBit n))
      ∧ ∀ n, n < d.load.channels.length → (t.ch n).order = false ∧ (t.ch n).latched = (d.ch n).latched ∧ (t.ch n).tries = (d.ch n).tries
          ∧ (t.ch n).pauseEnd = (d.ch n).pauseEnd ∧ (t.ch n).lastTrip = (d.ch n).lastTrip)
  ∧ (∀ (dt : Nat) (s : State),
    let runs (d : Dev) : Prop := 0 < d.supply.step ∧ d.supply.mode = 0
    let d := s.later dt
    Leaves (.powerOnReset dt) s ((if d.supply.mode = 0 then d.enterReset [0] else d).modSupply fun s => { s with vio := false, vcore := false })
    ∧ (∀ width, us 10 ≤ width → Leaves (.rstNLow dt width) s (if d.supply.mode = 0 then d.enterReset [1] else d.wakeUp [1]))
    ∧ (∀ width, width < us 1 → Leaves (.rstNLow dt width) s d)
    ∧ (∀ width, us 1 ≤ width → width < us 10 → Leaves (.rstNLow dt width) s
        (let (taken, t) := d.drawBit; if taken then (if t.supply.mode = 0 then t.enterReset [1] else t.wakeUp [1]) else t))
    ∧ Leaves (.vkeepLost dt) s { d with nv := { d.nv with keep := { cause := 1 } }, supply := { d.supply with vkeep := false, mode := 0 } }
    ∧ Acts (.watchdogExpiry dt) dt s (fun d => 4 ≤ d.supply.step ∧ d.supply.mode = 0) (fun d => d.enterReset [3])
    ∧ Acts (.vcoreMarginReset dt) dt s (fun d => 20 ≤ d.supply.lowTicks ∧ runs d) (fun d => d.enterReset [5])
    ∧ Acts (.mainClockFault dt) dt s (fun d => 2 ≤ d.supply.step ∧ d.supply.mode = 0)
        (fun d => (if 9 ≤ d.supply.step then d.classAFault 3 else d).resetIfRunning [4])
    ∧ Acts (.binnacleRcFault dt) dt s (fun d => 2 ≤ d.supply.step ∧ d.supply.mode = 0)
        (fun d => (if 9 ≤ d.supply.step then d.classAFault 3 else d).resetIfRunning [9])
    ∧ Acts (.debugReset dt) dt s (fun d => d.bin.debug = true ∧ runs d) (fun d => d.enterReset [7])
    ∧ Acts (.reef4Reset dt) dt s
        (fun d => ∃ t, d.supply.reef4At = some t ∧ ((d.leafSpeed.natAbs : Int) ≤ d.par P.PLAN_STANDSTILL_SPEED ∨ t + ms 250 ≤ d.now))
        (fun d => (d.enterReset [6]).modSupply fun s => { s with reef4Hold := true })
    ∧ ∀ vhv,
        let lasts := reefRecovery d.nominalCode 4 ≤ vhv ∧ d.supply.notAbove.getD 3 0 + ms 100 ≤ d.now
        (d.supply.reef4Hold = false → Leaves (.reef4Restart dt vhv) s d)
        ∧ (d.supply.reef4Hold = true → lasts → Leaves (.reef4Restart dt vhv) s ((d.seeVhv vhv).modSupply fun s => { s with reef4Hold := false }))
        ∧ (d.supply.reef4Hold = true → ¬ lasts → Leaves (.reef4Restart dt vhv) s (d.seeVhv vhv)))

/-- Start-up runs from reset through its steps in order and stops where the clock, the firmware banks, the SRAM or VHV stop it; a clock failure is tried again, a wait for VHV ends; READY classifies the doorway, begins a record, sends "ready" and the first telegrams. Waking from Parked or Dormant: by WAKE, by the supplies that return, or by the alarm of Parked; the cause word gets bit 10 or 11 and start-up may run. Where the manual leaves this open or to be read, it states the model's choice: log entries 6 and 26. -/
def Obligations.StartUpAndWake : Prop :=
  (∀ (dt : Nat) (s : State),
    (∀ found, Acts (.startUp dt found) dt s
      (fun d => d.supply.step = 0 ∧ d.supply.mode = 0 ∧ d.supply.reef4Hold = false ∧ d.supply.bootRom = false) (fun d =>
        let d := d.startStep1.judgeVhv found.vhvMv
        if found.clockOk = true then
          let (go, d) := ((d.modSupply fun s => { s with step := 2 }).startStep3 found).startStep4 found
          if go then d.startFrom5 found else d
        else d))
    ∧ (∀ found, Acts (.clockCheckRetry dt found) dt s (fun d => d.supply.step = 1 ∧ d.supply.mode = 0 ∧ found.clockOk = true) (fun d =>
        let (go, d) := ((d.modSupply fun s => { s with step := 2 }).startStep3 found).startStep4 found
        if go then d.startFrom5 found else d))
    ∧ (∀ found, Acts (.startupVhvWaitEnd dt found) dt s (fun d => d.supply.step = 9 ∧ d.supply.vhvWait = true) (fun d => d.startStep10 found))
    ∧ (∀ (found : StartUpIn) (d : Dev), found.vhvMv < reefRecovery d.nominalCode 4 →
        d.startStep10 found = (d.judgeVhv found.vhvMv).modSupply fun s => { s with vhvWait := true })
    ∧ Acts (.ready dt) dt s (fun d => d.live = true ∧ d.supply.step < 13 ∧ d.skinSettled = true) (fun d =>
        let d := (d.modSupply fun s => { s with step := 13 }).classifyDoor true
        let d := d.beginRecord (if d.door.state = 0 ∨ d.door.state = 10 then 3 else 1)
        let t := if d.supply.reef = 0 then d else d.recReef d.supply.reef
        (t.raise 1 0 0xFF (u32 (d.bankVersion d.supply.bank) ++ u8 t.supply.reef)).firstTelegrams))
  ∧ (∀ (dt : Nat) (s : State),
    let woken (d : Dev) : Dev := { d with
      nv := { d.nv with keep := { d.nv.keep with cause := setBits [if d.supply.mode = 1 then 10 else 11] d.nv.keep.cause } }
      supply := { d.supply with mode := 0 } }
    Acts (.wake dt 0) dt s (fun d => d.supply.mode ≠ 0)
      (fun d => if d.supply.vio = true ∧ d.supply.vcore = true then woken d else { d with nv := { d.nv with keep := { d.nv.keep with wake := true } } })
    ∧ (∀ source, source ≠ 0 → Acts (.wake dt source) dt s (fun d => d.supply.mode ≠ 0 ∧ ¬ (d.supply.vio = true ∧ d.supply.vcore = true))
        (fun d => woken { d with supply := { d.supply with vio := true, vcore := true } }))
    ∧ Acts (.keepAlarm dt) dt s (fun d => d.supply.mode = 1 ∧ 0 < d.parN P.SYS_PARK_ALARM ∧ d.supply.vio = true ∧ d.supply.vcore = true
        ∧ d.nv.keep.entered + sec (d.parN P.SYS_PARK_ALARM) ≤ d.now) woken)

/-- VDRV through its thresholds of 9.9 V and 10.3 V, the lock-out of the smart-power die below 12.0 V, which turns every load, both safe outputs and every gate off, and its end at 13.0 V, the bus clock and the keep clock: lost and restored, each with its event. The reef stages: a stage is entered below its threshold, once VHV has not been seen above it for the entry filter time, and takes every stage between with it; one is left at a time, once VHV has not been seen below its recovery threshold for SYS_REEF_RECOVER_TIME and the stage has been in force that long; Reef 4 is left only by a reset. Each change raises event 9 with the old stage, the new stage and VHV. Where the manual leaves this open or to be read, it states the model's choice: log entries 27 and 64. -/
def Obligations.SuppliesAndReefing : Prop :=
  (∀ (dt : Nat) (s : State),
    (∀ mv, Acts (.vdrvLost dt mv) dt s (fun _ => mv < 9900) (fun d =>
      let t := d.modSupply fun s => { s with vdrv := false, vdrvMv := mv }
      if d.live then (t.onset 17 2 0xFF (u32 mv)).takeBridges else t))
    ∧ (∀ mv, Acts (.vdrvPresent dt mv) dt s (fun _ => 10300 ≤ mv) (fun d =>
        let t := d.modSupply fun s => { s with vdrv := true, vdrvMv := mv }
        if d.live then ({ t with drive := { t.drive with enabled := true } } : Dev).clearing 17 0xFF (u32 mv) else t))
    ∧ Leaves (.smartPowerLockout dt) s
        (((((s.later dt).judgeVhv (min (s.later dt).supply.vhvMv 11999)).refreshLoads.openOut 0).openOut 1).takeBridges)
    ∧ Leaves (.smartPowerLockoutEnd dt) s ((s.later dt).judgeVhv (max (s.later dt).supply.vhvMv 13000)).refreshLoads
    ∧ (∀ (mv : Nat) (d : Dev), let t := d.judgeVhv mv
        (mv < 12000 → t.supply.vhv = false) ∧ (13000 ≤ mv → t.supply.vhv = true) ∧ (12000 ≤ mv → mv < 13000 → t.supply.vhv = d.supply.vhv)
          ∧ t = { d with supply := { d.supply with
              vhvMv := mv, vhv := t.supply.vhv, notBelow := (d.seeVhv mv).supply.notBelow, notAbove := (d.seeVhv mv).supply.notAbove } })
    ∧ Acts (.busClockLost dt) dt s (fun d => 7 ≤ d.supply.step ∧ d.bus.clockLost = false) (fun d =>
        ((((({ d with bus := { d.bus with clockLost := true } } : Dev)).clockLost 0).clockLost 1).onset 181 2 0xFF []).watchMasterBus)
    ∧ Acts (.busClockRestored dt) dt s (fun d => d.bus.clockLost = true) (fun d =>
        let d : Dev := { d with bus := { d.bus with clockLost := false } }
        let d := if (d.busOf 0).state = 6 then d.busIntegrate 0 else d
        let d := if (d.busOf 1).state = 6 then d.busIntegrate 1 else d
        (d.endStanding 181 0xFF).raise 182 0 0xFF [])
    ∧ Acts (.keepClockLost dt) dt s (fun d => 0 < d.supply.step ∧ d.supply.mode = 0)
        (fun d => (d.modSupply fun s => { s with keepLost := true }).onset 12 1 0xFF [])
    ∧ Acts (.keepClockRestored dt) dt s (fun d => 0 < d.supply.step ∧ d.supply.mode = 0)
        (fun d => (d.modSupply fun s => { s with keepLost := false }).clearing 12 0xFF []))
  ∧ (∀ (dt : Nat) (s : State),
    (∀ stage vhv, Acts (.reefEnter dt stage vhv) dt s
      (fun d => d.live = true ∧ d.supply.reef < stage ∧ stage ≤ 4 ∧ vhv < reefThreshold d.nominalCode stage
        ∧ d.supply.notBelow.getD (stage - 1) 0 + (if stage ≤ 2 then ms 1 else if stage = 3 then us 500 else us 100) ≤ d.now)
      (fun d => Dev.enterStages vhv ((List.range (stage - d.supply.reef)).map fun k => d.supply.reef + 1 + k) d))
    ∧ (∀ (vhv k : Nat) (ks : List Nat) (d : Dev), Dev.enterStages vhv (k :: ks) d = Dev.enterStages vhv ks
        (((((d.seeVhv vhv).modSupply fun s => { s with reef := k, reefSince := d.now, reefSeq := d.nv.eventSeq }).raise 9 1 0xFF
          (u8 d.supply.reef ++ u8 k ++ u32 vhv)).recReef k).reefAction k))
    ∧ ∀ vhv, Acts (.reefLeave dt vhv) dt s
        (fun d => d.live = true ∧ 0 < d.supply.reef ∧ d.supply.reef < 4 ∧ reefRecovery d.nominalCode d.supply.reef ≤ vhv
          ∧ d.supply.notAbove.getD (d.supply.reef - 1) 0 + ms (d.parN P.SYS_REEF_RECOVER_TIME) ≤ d.now
          ∧ d.supply.reefSince + ms (d.parN P.SYS_REEF_RECOVER_TIME) ≤ d.now)
        (fun d =>
          let r := d.supply.reef
          let t := (((d.seeVhv vhv).modSupply fun s => { s with reef := r - 1, reefSince := d.now, reefSeq := d.nv.eventSeq }).raise 9 1 0xFF
            (u8 r ++ u8 (r - 1) ++ u32 vhv)).recReef (r - 1)
          if r = 1 then t.refreshLoads else t.takeBridges))

/-- The millisecond's slack reading: a request of 25 mV up below 2 taps, 10 mV up below the margin, 5 mV down above the margin plus 4, inside the limits and within 25 mV of the value last accepted, and none else; the clock halves below 2 taps until the margin is back; the ticks at the limit are counted. An exchange that fails three times fails the interface, which is then tried once per second. Each die's temperature is judged on its own warm and hot limits. A die is warm from its warm limit until it falls to its warm end, and hot from its hot limit until it falls to the warm limit: 115, 125 and 105 °C, on the smart-power die 140, 150 and 130 °C. Where the manual leaves this open or to be read, it states the model's choice: log entry 27. -/
def Obligations.MarginAndTemperatures : Prop :=
  (∀ (dt : Nat) (s : State),
    (∀ slack, Acts (.avsTick dt slack) dt s (fun d => d.live = true) (fun d =>
      let margin := d.parN P.SYS_AVS_MARGIN
      let adaptive := d.par P.SYS_AVS_MODE = 1
      let change : Int := if slack < 2 then 25 else if slack < margin then 10 else if margin + 4 < slack then -5 else 0
      let wish := if adaptive then (clampI (d.par P.SYS_AVS_MIN) (d.par P.SYS_AVS_MAX) (d.supply.vcoreModel + change)).toNat else d.supply.vcoreModel
      let atLimit := ¬ adaptive ∨ d.par P.SYS_AVS_MAX ≤ d.supply.vcoreModel
      let asks := adaptive ∧ change ≠ 0 ∧ d.supply.request = none ∧ d.supply.avsFailed = false ∧ wish ≠ d.supply.vcoreModel
        ∧ ((wish : Int) - d.supply.vcoreMv).natAbs ≤ 25 ∧ (0 < d.supply.requested → d.supply.requested + ms 1 ≤ d.now)
      let asked := d.modSupply fun s => { s with request := some wish, requested := d.now, avsTries := 0, avsSent := avsFrame 0x01 wish }
      let t := (if asks then asked else d).modSupply fun s => { s with
        halved := decide (slack < 2) || (s.halved && decide (slack < margin))
        lowTicks := if slack < 2 ∧ atLimit then s.lowTicks + 1 else 0 }
      (if slack < 2 then t.onset 11 1 0xFF (u8 slack ++ u16 wish) else t).judgeClock))
    ∧ (∀ reply, Acts (.avsExchangeEnd dt reply) dt s (fun d => d.supply.request.isSome = true) (fun d =>
        let v := d.supply.request.getD 0
        let status := fieldAt 0 1 reply
        if avsGood 0x01 reply = true then
          (d.modSupply fun s => { s with
            request := none, vcoreMv := v, vcoreModel := v, avsStatus := status, avsSetting := fieldAt 1 2 reply, avsTries := 0, avsFailed := false }).clearing
            10 0xFF (u8 status ++ u16 v)
        else if d.supply.avsTries < 2 then d.modSupply fun s => { s with avsStatus := status, avsTries := s.avsTries + 1 }
        else (d.modSupply fun s => { s with
            request := none, vcoreModel := v, avsStatus := status, avsTries := 0, avsFailed := true, requested := d.now }).onset 10 2 0xFF
          (u8 status ++ u16 d.supply.vcoreMv)))
    ∧ Acts (.avsRetry dt) dt s
        (fun d => d.live = true ∧ d.supply.avsFailed = true ∧ d.supply.request = none ∧ d.par P.SYS_AVS_MODE = 1 ∧ d.supply.requested + sec 1 ≤ d.now)
        (fun d => d.modSupply fun s => { s with
          request := some s.vcoreModel, requested := d.now, avsTries := 2, avsSent := avsFrame 0x01 s.vcoreModel })
    ∧ (∀ command value, avsFrame command value = u8 command ++ u16 value ++ u8 (crc8 (u8 command ++ u16 value)))
    ∧ ∀ c p m, Acts (.dieTemperatureTick dt c p m) dt s (fun d => d.live = true) (fun d => (((d.dieTemp 0 c).dieTemp 1 p).dieTemp 2 m).judgeClock))
  ∧ (∀ (die : Nat) (t : Int) (d : Dev), die < 3 → d.supply.dieWarm.length = 3 → d.supply.dieHot.length = 3 →
    let after := (d.dieTemp die t).supply
    let (warmAt, hotAt, warmEnd) : Int × Int × Int := if die = 1 then (1400, 1500, 1300) else (1150, 1250, 1050)
    (warmAt ≤ t → after.dieWarm.getD die false = true) ∧ (t ≤ warmEnd → after.dieWarm.getD die false = false)
      ∧ (warmEnd < t → t < warmAt → after.dieWarm.getD die false = d.supply.dieWarm.getD die false)
      ∧ (hotAt ≤ t → after.dieHot.getD die false = true) ∧ (t ≤ warmAt → after.dieHot.getD die false = false)
      ∧ (warmAt < t → t < hotAt → after.dieHot.getD die false = d.supply.dieHot.getD die false)
      ∧ ∀ other, other ≠ die → after.dieWarm.getD other false = d.supply.dieWarm.getD other false
          ∧ after.dieHot.getD other false = d.supply.dieHot.getD other false)

/-! ### Axes, loops and position (chapters 06, 07 and 08) -/

/-- The axis orders of Maintenance wait for the next profile update with progress 1: homing and moves of an axis at rest, with VDRV, outside the reef stages that stop it and inside its travel, and stops; the link waits too. At the profile update a stop supersedes the orders of the axes it names, of both where the axes are linked, and stops them; a homing or a move that is still in flight starts. Where the manual leaves this open or to be read, it states the model's choice: log entries 22 and 24. -/
def Obligations.AxisOrders : Prop := ∀ (h : CmdHead) (dt : Nat) (s : State),
  let may (axis : Nat) (d : Dev) : Prop := d.door.state = 12 ∧ d.axisMoving axis = false
    ∧ (∀ o ∈ d.leaf.orders, o.2.2 = axis → o.1 ≠ 0x30 ∧ o.1 ≠ 0x31) ∧ d.supply.vdrv = true ∧ d.supply.reef < (if axis = 0 then 3 else 2)
  let waits (op axis : Nat) (target : Int) (slot : Nat) (d : Dev) : Dev := (d.progress slot 1).modLeaf fun l =>
    { l with orders := l.orders ++ [(op, slot, axis)], inbox := l.inbox ++ [(op, slot, axis, target)] }
  (∀ axis, Runs (.axisHome dt h axis) h (.axisHome axis) dt s (fun d => may axis d ∧ (axis = 1 → d.par P.SYS_STEP_FITTED ≠ 0))
    (waits 0x30 axis 0))
  ∧ (∀ axis target, Runs (.axisMove dt h axis target) h (.axisMove axis target) dt s
      (fun d => may axis d ∧ (axis = 1 → d.step.unverified = false ∧ d.par P.SYS_STEP_FITTED ≠ 0)
        ∧ (if axis = 0 then d.par P.SEXT_SOFT_LOW ≤ toSigned 32 target ∧ toSigned 32 target ≤ d.par P.SEXT_SOFT_HIGH
          else 0 ≤ toSigned 32 target ∧ toSigned 32 target ≤ d.par P.PLAN_STEP_EXT_MAX))
      (waits 0x31 axis (toSigned 32 target)))
  ∧ (∀ axis, Runs (.axisStop dt h axis) h (.axisStop axis) dt s (fun d => d.door.state = 12) (waits 0x32 axis 0))
  ∧ (∀ link, Runs (.axisLink dt h link) h (.axisLink link) dt s (fun d => d.inMotion = false)
      (fun slot d => d.modLeaf fun l => { l with orders := l.orders ++ [(0x33, slot, link)] }))
  ∧ (∀ (axis : Nat) (d : Dev),
      let named (a : Nat) : Bool := decide (axis = 2) || decide (axis = a) || d.leaf.linked
      let t := d.endAxisOrders (fun o => (decide (o.1 = 0x30) || decide (o.1 = 0x31)) && named o.2.2) fun old t => t.reply old 0x11 []
      d.axisStop axis = (if named 1 = true then t.modStep fun s => { s with home := 0 } else t).stopAxis axis)
  ∧ ∀ (op slot axis : Nat) (um : Int) (d : Dev),
      let inFlight := ∃ e ∈ d.leaf.orders, e.2.1 = slot
      (¬ inFlight → d.axisStart (op, slot, axis, um) = d)
      ∧ (inFlight → d.axisStart (0x30, slot, 0, um) = d.homeLeaf.progress slot 1 ∧ d.axisStart (0x30, slot, 1, um) = d.homeStepAxis
        ∧ d.axisStart (0x31, slot, 0, um)
          = (d.goLeaf { target := d.goalOf um, toEnd := decide (um = d.openEnd) || decide (um = 0) }).progress slot 2
        ∧ d.axisStart (0x31, slot, 1, um) = (d.goStep um (d.parN P.PLAN_STEP_SPEED)).progress slot 2)

/-- The orders of the loops: a loop mode supersedes the one before and, back to automatic, waits for a position sample unless there is nothing to do; a manual set-point within its bound is approached; an injection of signals, loops and points that exist starts with an empty capture; flag clears, table writes and compare units wait for their boundary. The queries of axes, loops, position and drive each answer at once and change nothing else. Where the manual leaves this open or to be read, it states the model's choice: log entries 22 and 39. -/
def Obligations.LoopCommands : Prop :=
  (∀ (h : CmdHead) (dt : Nat) (s : State),
    (∀ axis, Runs (.loopMode dt h axis 0) h (.loopMode axis 0) dt s (fun d => d.door.state = 12 ∧ d.pilot.dr ≠ 1)
      (fun slot d =>
        let m := d.pilot.modeOf axis
        let t := d.replyTo m.modeSlot 0x11 []
        if m.mode = 0 ∧ m.residual = [] then (t.modMode axis fun m => { m with modeSlot := none }).reply slot 0x00 []
        else if m.mode = 0 then t.modMode axis fun m => { m with modeSlot := some slot }
        else t.modMode axis fun m => { m with toAuto := true, modeSlot := some slot }))
    ∧ (∀ axis mode, mode ≠ 0 → Runs (.loopMode dt h axis mode) h (.loopMode axis mode) dt s
        (fun d => d.door.state = 12 ∧ (mode = 2 → d.axisMoving axis = false) ∧ d.pilot.dr ≠ 1)
        (fun slot d =>
          let m := d.pilot.modeOf axis
          let t := d.replyTo m.modeSlot 0x11 []
          (if m.mode = mode then t.modMode axis fun m => { m with toAuto := false } else t.enterManual axis mode).modMode axis fun m =>
            { m with modeSlot := some slot }))
    ∧ (∀ axis point, Runs (.loopManual dt h axis point) h (.loopManual axis point) dt s
        (fun d => d.door.state = 12 ∧ (d.pilot.modeOf axis).mode ≠ 0
          ∧ ((toSigned 32 point).natAbs : Int) ≤ (if (d.pilot.modeOf axis).mode = 1 then d.par P.PILOT_I_MAX else d.drive.vbus))
        (fun slot d => (d.replyTo (d.pilot.modeOf axis).manualSlot 0x11 []).modMode axis fun m =>
          { m with want := toSigned 32 point, manualSlot := some slot }))
    ∧ (∀ axis loop point signal amplitude p1 p2 p3 respLoop respPoint decimation,
        Runs (.injectStart dt h axis loop point signal amplitude p1 p2 p3 respLoop respPoint decimation) h
          (.injectStart axis loop point signal amplitude p1 p2 p3 respLoop respPoint decimation) dt s
          (fun d => loopOfAxis axis loop = true ∧ loopOfAxis axis respLoop = true ∧ d.pointExists loop point = true ∧ d.pointExists respLoop respPoint = true
            ∧ signalFails signal p1 p2 p3 = none ∧ 1 ≤ decimation ∧ decimation ≤ 16 ∧ d.door.state = 12 ∧ d.pilot.inject = none
            ∧ ((d.pilot.modeOf axis).mode = 0 ∨ ((d.pilot.modeOf axis).mode = 1 ∧ 2 ≤ loop)))
          (fun slot d => (d.progress slot 1).modPilot fun p => { p with
            inject := some { axis := axis, loop := loop, point := point, signal := signal, amplitude := toSigned 32 amplitude, p1 := p1, p2 := p2, p3 := p3
                             respLoop := respLoop, respPoint := respPoint, decimation := decimation, slot := slot, lfsr := 2 ^ p1 - 1 }
            capture := [], captureTime := 0, capturePeriod := decimation * us (loopPeriod loop) }))
    ∧ (∀ axis mask, Runs (.pilotFlagsClear dt h axis mask) h (.pilotFlagsClear axis mask) dt s (fun _ => True)
        (fun slot d => d.modPilot fun p => { p with flagClears := p.flagClears ++ [(axis, mask, slot)] }))
    ∧ (∀ table dir off entries, Runs (.tableWrite dt h table dir off entries) h (.tableWrite table dir off entries) dt s
        (fun d => (table = 8 → dir = 0) ∧ 1 ≤ entries.length ∧ entries.length ≤ 500 ∧ off + entries.length ≤ (if table = 8 then 512 else 2048)
          ∧ (∀ v ∈ entries, ((toSigned 16 v).natAbs : Int) ≤ (if table = 8 then 32767 else d.par P.PILOT_FRIC_MAX / 10))
          ∧ d.axisMoving (if table = 8 then 1 else 0) = false ∧ d.axisOrder (if table = 8 then 1 else 0) = false)
        (fun slot d => d.modPilot fun p => { p with tableWrites := p.tableWrites ++ [(table, dir, off, entries.map (toSigned 16), slot)] }))
    ∧ ∀ unit action filter position, Runs (.compareArm dt h unit action filter position) h (.compareArm unit action filter position) dt s
        (fun d => unit ≤ 3 ∧ action ≤ 2 ∧ filter ≤ 2 ∧ d.par P.SEXT_SOFT_LOW ≤ toSigned 32 position ∧ toSigned 32 position ≤ d.par P.SEXT_SOFT_HIGH
          ∧ d.sext.ref ≠ 0)
        (fun slot d => d.modSext fun s => { s with arms := s.arms ++ [(unit, action, filter, toSigned 32 position, slot)] }))
  ∧ (∀ (h : CmdHead) (dt : Nat) (s : State),
    (∀ off count, Answers (.captureRead dt h off count) h (.captureRead off count) dt s
      (fun d => off < d.pilot.capture.length ∧ 1 ≤ count ∧ count ≤ 125)
      (fun d => u16 off ++ u16 (min count (d.pilot.capture.length - off)) ++ u64 d.pilot.captureTime ++ u32 d.pilot.capturePeriod
        ++ ((d.pilot.capture.drop off).take (min count (d.pilot.capture.length - off))).flatMap fun s => i32 s.1 ++ i32 s.2))
    ∧ (∀ axis, Answers (.axisState dt h axis) h (.axisState axis) dt s (fun _ => True) (fun d => d.axisState axis))
    ∧ (∀ axis, Answers (.pilotFlags dt h axis) h (.pilotFlags axis) dt s (fun _ => True) (fun d =>
        let p := d.pilot
        let f := if axis = 0 then p.leafFlags else p.stepFlags
        u8 axis ++ u8 (if axis = 0 then p.leafMode else p.stepMode).mode ++ u8 p.dr ++ u32 f.sticky ++ u32 f.present ++ u64 f.firstSet
          ++ i32 (if axis = 0 then p.force else 0) ++ u8 p.validity ++ u8 (bitsOf p.wFailed) ++ u16 0 ++ i32 p.vObs ++ i16 (satI 16 p.temp) ++ u16 0))
    ∧ (∀ table dir off count, Answers (.tableRead dt h table dir off count) h (.tableRead table dir off count) dt s
        (fun _ => (table = 8 → dir = 0) ∧ 1 ≤ count ∧ count ≤ 500 ∧ off + count ≤ (if table = 8 then 1024 else 2048))
        (fun d =>
          let t := (if table = 0 then d.pilot.fric else if table = 1 then d.pilot.cog else d.pilot.fricRef).getD dir []
          u8 table ++ u8 dir ++ u16 off ++ u16 count
            ++ (List.range count).flatMap fun k => i16 (if table = 8 then d.stepTable (off + k) else sget 0 (off + k) t)))
    ∧ Answers (.latchRead dt h) h .latchRead dt s (fun _ => True) (fun d => d.latchRead)
    ∧ Answers (.driveStatus dt h) h .driveStatus dt s (fun _ => True) (fun d => d.driveStatus))

/-- The planner's events: a target held for 10 ms ends the move, a lost leader, the leader's wait, the step's load angle and switches, homing and the two hold reductions. A filtered switch of the step: it is noted with its time and position; while homing, more than four transitions of the homing switch in 20 ms end it with result 1 and a limit on the way with result 3; otherwise an extend limit, or the retract limit far from it, is a trip, and the next profile update stops the step, and with it a linked leaf, at the emergency ramp and faults it. Where the manual leaves this open or to be read, it states the model's choice: log entries 36, 38 and 60. -/
def Obligations.PlannerEvents : Prop :=
  (∀ (dt : Nat) (s : State),
    let up (d : Dev) : Prop := d.ready = true ∧ d.live = true
    Acts (.atTarget dt 0) dt s (fun d => up d ∧ d.leaf.atTarget = false ∧ ∃ t, d.leaf.inPosSince = some t ∧ ms 10 ≤ d.now - t) (fun d =>
      let d := ((d.learnEnd true).modLeaf fun l => { l with atTarget := true }).endAxisOrders (fun o => o.1 = 0x31 && o.2.2 = 0) fun slot d => d.done slot []
      if d.door.state = 3 ∧ d.leaf.opening = true then d.openReached else d)
    ∧ Acts (.atTarget dt 1) dt s (fun d => up d ∧ d.step.atTarget = false ∧ ∃ t, d.step.inPosSince = some t ∧ ms 10 ≤ d.now - t)
        (fun d => (d.modStep fun s => { s with atTarget := true }).endAxisOrders (fun o => o.1 = 0x31 && o.2.2 = 1) fun slot d => d.done slot [])
    ∧ Acts (.leaderLost dt 1) dt s (fun d => up d ∧ d.leaderOverdue = true) (fun d => d.leaderLost 1)
    ∧ Acts (.leaderLost dt 2) dt s (fun d => up d ∧ d.sext.ptSector = none) (fun d => d.leaderLost 2)
    ∧ Acts (.leaderLost dt 3) dt s up (fun d => d.leaderWaitOver)
    ∧ Acts (.leaderWaitExpiry dt) dt s (fun d => up d ∧ ∃ t mv, d.leaf.leaderWait = some t ∧ d.leaf.next = some mv ∧ t ≤ d.now) (fun d =>
        let mv := d.leaf.next.getD { target := 0, toEnd := false }
        let t := (d.onset 43 2 0xFF (u8 3)).modLeaf fun l => { l with leaderWait := none, next := none, leaderLost := true }
        if t.leaf.sp.p ≤ mv.target then t.abortDoor 2
        else if t.leaf.rests then t.startMove { mv with cap := t.creep } else t.modLeaf fun l => { l with next := some { mv with cap := t.creep } })
    ∧ (∀ angle, Acts (.stepAdaptTick dt angle) dt s up (fun d =>
        let t := d.stepAdapt angle
        if d.step.stalled = true ∨ t.step.stalled = false then t
        else if t.step.home ≠ 0 then t.stepHomed 4 else if t.door.step = 3 then t.modObst fun o => { o with stepStall := true } else t))
    ∧ (∀ sw level, Acts (.stepSwitchChange dt sw level) dt s
        (fun d => d.live = true ∧ sw ≤ 2 ∧ d.par P.SYS_STEP_FITTED ≠ 0
          ∧ (if sw = 0 then d.step.shome.level else if sw = 1 then d.step.slimRet.level else d.step.slimExt.level) ≠ level)
        (fun d => d.stepSwitch sw level))
    ∧ (∀ sw, Acts (.stableAssertion dt sw) dt s
        (fun d => d.live = true ∧ sw ≤ 3 ∧
          let f := if sw = 0 then d.step.shome else if sw = 1 then d.step.slimRet else if sw = 2 then d.step.slimExt else d.step.refsw
          f.level = true ∧ f.stable = false ∧ ms (d.parN P.PLAN_HOME_STABLE) ≤ d.now - f.since)
        (fun d => d.stableNow sw))
    ∧ Acts (.homingStepDone dt) dt s (fun d => up d ∧ d.step.home ≠ 0) (fun d => d.homingStep)
    ∧ Acts (.stepHoldDelayEnd dt) dt s
        (fun d => d.live = true ∧ d.par P.SYS_STEP_FITTED = 1 ∧ d.step.reduced = false ∧ d.step.phases = [] ∧ d.step.stalled = false
          ∧ ms (d.parN P.PLAN_STEP_HOLD_DELAY) ≤ d.now - d.step.stillSince)
        (fun d => d.modStep fun s => { s with reduced := true, amplitude := d.parN P.PLAN_STEP_I_HOLD })
    ∧ Acts (.leafHoldReduction dt) dt s
        (fun d => d.live = true ∧ d.leaf.reduced = false ∧ d.door.state ≠ 2 ∧ d.door.state ≠ 9 ∧ d.pilot.leafMode.mode = 0 ∧ d.pilot.short = false
          ∧ d.door.landfall.busy = false ∧ d.modulating = true ∧ ∃ t, d.leaf.stillSince = some t ∧ ms (d.parN P.PLAN_HOLD_DELAY) ≤ d.now - t)
        (fun d => d.modLeaf fun l => { l with reduced := true, reduceFrom := d.now }))
  ∧ (∀ (d : Dev) (sw : Nat) (level : Bool),
    (if sw = 0 then d.step.shome.level else if sw = 1 then d.step.slimRet.level else d.step.slimExt.level) ≠ level → sw ≤ 2 → d.par P.SYS_STEP_FITTED ≠ 0 →
    let f : SwitchFilter := { level := level, since := d.now, pos := d.step.sp.p, stable := false }
    let t := d.modStep fun s => if sw = 0 then { s with shome := f } else if sw = 1 then { s with slimRet := f } else { s with slimExt := f }
    (d.step.home = 0 → d.stepSwitch sw level =
      if level = true ∧ (sw = 2 ∨ (sw = 1 ∧ (d.par P.PLAN_STEP_RET_ZONE + 1000) * planQ < d.step.sp.p)) then
        t.modStep fun s => { s with tripped := true }
      else t)
    ∧ (d.step.home ≠ 0 → sw = d.homingSwitch →
        let edges := (d.step.homeEdges.filter fun e => d.now - e ≤ ms 20) ++ [d.now]
        let t := t.modStep fun s => { s with homeEdges := edges }
        d.stepSwitch sw level = if 4 < edges.length then (t.rampStep false).stepHomed 1 else t)
    ∧ (d.step.home ≠ 0 → sw ≠ d.homingSwitch → d.stepSwitch sw level =
        if level = true ∧ (sw = 2 ∨ (sw = 1 ∧ d.step.home ≤ 2 ∧ d.step.accepted = false)) then (t.rampStep true).stepHomed 3 else t)
    ∧ (d.leaf.inbox = [] → d.step.tripped = true → d.axisStops =
        let t := ((d.modStep fun s => { s with tripped := false }).stopAxis 1).stepFault 2
        if d.leaf.linked = true then t.endAxisOrders (fun o => o.1 = 0x30 || o.1 = 0x31) fun slot t => t.abort (some slot) 2 else t))

/-- The samples: the speed sample runs with every fifth, the position sample with every twentieth current sample; each takes what waits for its boundary, then measures, controls and judges in a fixed order. The events of the loops: feedback lost for an overdue edge, the end of dead reckoning by its first cause, which faults the doorway, the transfer to automatic control, and an injection that ends. Where the manual leaves this open or to be read, it states the model's choice: log entries 13, 40, 43 and 52. -/
def Obligations.SamplesAndLoopEvents : Prop :=
  (∀ (dt : Nat) (s : State),
    (∀ seen, Acts (.currentSample dt seen) dt s (fun d => d.live = true) (fun d => (d.takeWrites 0).currentSample seen))
    ∧ (∀ ntc, Acts (.speedSample dt ntc) dt s (fun d => d.live = true ∧ d.pilot.samples % 5 = 0) (fun d =>
        let d := (d.motorTemp ntc).leafFlag 0x620000 0
        let d := (d.modPilot fun p => { p with speedHist := (d.leafSpeed :: p.speedHist).take 8, iqMean := meanOf p.iqWindow }).speedLoop.windowSpeed
        let f := satI 32 d.estimate
        let v := if d.pilot.forceFault = true ∨ d.pilot.windowDirty = true then 2 else if d.pilot.dr = 1 then 1 else 0
        let d := (d.modPilot fun p => { p with force := f, validity := v, learnOk := p.learnOk && decide (v = 0) }).learnSample f
        ((d.modPilot fun p => { p with iqWindow := [], uqWindow := [], windowDirty := false }).stepInjection).forceSample))
    ∧ Acts (.positionSample dt) dt s (fun d => d.live = true ∧ d.pilot.samples % 20 = 0) (fun d =>
        (match d.sext.correction with
          | some c => Dev.correctBy c (match d.sext.shift with
              | some n => (d.shiftSamples n c).modSext fun s => { s with shift := none }
              | none => d)
          | none => d).positionLoop.modeDone.stepInjection))
  ∧ (∀ (dt : Nat) (s : State),
    Acts (.hallEdgeOverdue dt) dt s (fun d => d.live = true ∧ d.edgeOverdue = true) (fun d => d.lostFeedback 1)
    ∧ Acts (.deadReckoningEnd dt) dt s
        (fun d => d.ready = true ∧ d.live = true ∧ d.pilot.dr = 1 ∧ d.pilot.drEnding = false ∧ (d.pilot.endStop = true ∨ d.umOfSub (d.pilot.pObs / 16777216) ≤ -20000
          ∨ sec (d.parN P.PILOT_DR_MAX_TIME) ≤ d.now - d.pilot.drStart ∨ d.leaf.stopping = true ∨ d.pilot.short = true))
        (fun d =>
          let um := d.umOfSub (d.pilot.pObs / 16777216)
          let cause := if d.pilot.endStop = true then 1 else if um ≤ -20000 then 2 else if sec (d.parN P.PILOT_DR_MAX_TIME) ≤ d.now - d.pilot.drStart then 3 else 4
          let t := (d.raise 66 2 0xFF (u8 cause ++ i32 (satI 32 um))).doorFault 4
          let halted : Dev := (t.modPilot fun p => { p with dr := 2, short := decide (cause ≠ 1), shortAfterStop := false }).modLeaf fun l =>
            { l with phases := [], move := none, next := none, mode := 0, stopping := false, sp := { l.sp with v := 0, a := 0 } }
          if cause = 4 then t.modPilot fun p => if t.leaf.rests then { p with dr := 2, short := true } else { p with drEnding := true }
          else if cause = 1 then halted.manualCurrent (-(halted.par P.PLAN_LEAF_HOLD_CURRENT)) else halted)
    ∧ (∀ axis, Acts (.transferToAuto dt axis) dt s
        (fun d => d.live = true ∧ d.pilot.samples % 20 = 0 ∧ (d.pilot.modeOf axis).mode ≠ 0 ∧ (d.pilot.modeOf axis).toAuto = true)
        (fun d => d.transferToAuto axis))
    ∧ Acts (.injectionCaptureComplete dt) dt s (fun d => d.live = true ∧ d.pilot.inject.isSome = true ∧ 4096 ≤ d.pilot.capture.length)
        (fun d => d.endInjection 0 0)
    ∧ Acts (.injectionAbort dt) dt s
        (fun d => d.live = true ∧ d.pilot.inject.isSome = true ∧ (d.pilot.feedbackLost = true ∨ d.door.state ≠ 12
          ∨ d.parN P.PILOT_INJECT_WINDOW < (d.leafPos - wholeOf d.leaf.sp.p).natAbs))
        (fun d => if d.pilot.feedbackLost = true then d.endInjection 0x14 5
          else if d.door.state ≠ 12 then d.endInjection 0x14 6 else d.endInjection 0x14 2))

/-- Filtered Hall codes, which the pads HOU, HOV and HOW follow while they are driven: no change, no effect; a code that is no state is counted and makes the speed invalid; the first legal code after it only takes the state; a neighbouring state is a counted edge in the direction of the sense; any other is counted as illegal. Filtered pass-through codes likewise move the leader's counter of a follower; an edge that follows the last of its direction too fast is counted and illegal. Where the manual leaves this open or to be read, it states the model's choice: log entry 44. -/
def Obligations.HallCodes : Prop := ∀ (dt : Nat) (code : Nat) (s : State),
  let d := s.later dt
  let resync (sector : Nat) (d : Dev) : Dev := d.modSext fun s => { s with code := code, sector := some sector, illegal := false, lastDir := none }
  let shown : Dev := d.modSext fun s => { s with hallOut := s.hallOut.map fun _ => code }
  ((d.live = false ∨ code = d.sext.code ∨ 7 < code) → Leaves (.hallStateChange dt code) s d)
  ∧ (d.live = true → code ≠ d.sext.code → code ≤ 7 →
      (hallSector code = none → Leaves (.hallStateChange dt code) s
        ((shown.modSext fun s => { s with code := code, illegal := true, speedValid := false, lastDir := none }).hallIllegal 1 code))
      ∧ ∀ sector, hallSector code = some sector →
          ((d.sext.illegal = true ∨ d.sext.sector = none) → Leaves (.hallStateChange dt code) s (resync sector shown))
          ∧ ∀ old, d.sext.illegal = false → d.sext.sector = some old →
              ((sector + 6 - old) % 6 = 1 → Leaves (.hallStateChange dt code) s (shown.countEdge (decide (d.par P.SEXT_HALL_SENSE = 0)) code sector))
              ∧ ((sector + 6 - old) % 6 = 5 → Leaves (.hallStateChange dt code) s (shown.countEdge (!decide (d.par P.SEXT_HALL_SENSE = 0)) code sector))
              ∧ ((sector + 6 - old) % 6 ≠ 1 → (sector + 6 - old) % 6 ≠ 5 → Leaves (.hallStateChange dt code) s ((resync sector shown).hallIllegal 2 code)))
  ∧ Acts (.passThroughEdge dt code) dt s (fun d => d.live = true ∧ d.par P.SYS_DRIVE_ROLE = 2 ∧ code ≠ d.sext.ptCode ∧ code ≤ 7) (fun d =>
      let noted (t : Dev) : Dev := t.modSext fun s => { s with ptCode := code, ptSector := hallSector code }
      let turned (t : Dev) : Dev := t.modSext fun s => { s with ptDir := none }
      let bad (t : Dev) : Dev := (t.raise 78 1 0xFF (u8 code)).leaderLost 2
      match hallSector code, d.sext.ptSector with
      | none, _ => bad (turned (noted d))
      | some _, none => noted d
      | some sector, some old =>
        let edge (opening : Bool) : Dev :=
          let t := (noted d).modSext fun s => { s with
            ptCounter := satI 32 (s.ptCounter + (if opening then 256 else -256)), ptTime := d.now, ptDir := some opening }
          if d.sext.ptDir = some opening ∧ (d.now - d.sext.ptTime) * d.parN P.SEXT_SPEED_MAX < d.parN P.SEXT_UM_PER_EDGE * 100000000 then bad t else t
        let up := decide (d.par P.SEXT_PT_SENSE = 0)
        if (sector + 6 - old) % 6 = 1 then edge up else if (sector + 6 - old) % 6 = 5 then edge (!up) else bad (turned (noted d)))
  ∧ Acts (.speedTimeout dt) dt s
      (fun d => d.live = true ∧ d.sext.illegal = false ∧ d.sext.edgeTimes ≠ [] ∧ ms (d.parN P.SEXT_SPEED_TIMEOUT) ≤ d.now - d.sext.edgeKnown)
      (fun d => d.modSext fun s => { s with speed := 0, timedOut := true })

/-- A counted edge moves the position counter by exactly 256 sub-edges in its direction; its Chronometer time is that of the first sample at the new level. While the soft limits hold it, it stops at the limit and the edges beyond are counted as overrun; with an overrun, only the overrun moves. Where the manual leaves this open or to be read, it states the model's choice: log entries 44 and 61. -/
def Obligations.CountedEdges : Prop := ∀ (d : Dev) (opening : Bool) (code sector : Nat),
  let t := d.countEdge opening code sector
  let step : Int := if opening then 1 else -1
  let next := d.sext.counter + 256 * step
  t.sext.code = code ∧ t.sext.sector = some sector ∧ t.sext.lastDir = some opening ∧ t.sext.opening = opening
    ∧ t.sext.edgeTimes = ((d.chron.time - 10 * (d.parN P.SEXT_HALL_FILTER_N - 1)) :: d.sext.edgeTimes).take 7
    ∧ t.sext.latch.counter = t.sext.counter ∧ t.sext.latch.time = d.chron.time - 10 * (d.parN P.SEXT_HALL_FILTER_N - 1)
    ∧ (d.softHeld = false → t.sext.counter = satI 32 next ∧ t.sext.overrun = d.sext.overrun)
    ∧ (d.softHeld = true → d.sext.overrun ≠ 0 → t.sext.counter = d.sext.counter ∧ t.sext.overrun = satI 16 (d.sext.overrun + step))
    ∧ (d.softHeld = true → d.sext.overrun = 0 →
        (d.softHigh < next → t.sext.counter = d.softHigh ∧ t.sext.overrun = 1)
        ∧ (next ≤ d.softHigh → next < d.softLow → t.sext.counter = d.softLow ∧ t.sext.overrun = -1)
        ∧ (next ≤ d.softHigh → d.softLow ≤ next → t.sext.counter = next ∧ t.sext.overrun = 0))
    ∧ t.sext.units = d.sext.units ∧ t.door = d.door ∧ t.drive = d.drive ∧ t.bin = d.bin ∧ t.prm = d.prm ∧ t.skin = d.skin

/-- Every compare unit is idle after a reset. A correction, a saturation at a soft limit and a change of reference state never fire a unit: each stays armed or idle, and what its last firing left stays. -/
def Obligations.CompareUnitsIdle : Prop :=
  (∀ u ∈ State.reset.dev.sext.units, u.armed = false ∧ u.fired = false)
  ∧ (∀ (causes : List Nat) (d : Dev), ∀ u ∈ (d.enterReset causes).sext.units, u.armed = false ∧ u.fired = false)
  ∧ (∀ (c : Int) (d : Dev) (n : Nat),
      let before := d.sext.units.getD n {}
      let after := (d.correctBy c).sext.units.getD n {}
      after.armed = before.armed ∧ after.fired = before.fired ∧ after.latched = before.latched ∧ after.fireTime = before.fireTime
        ∧ after.firePos = before.firePos ∧ after.position = before.position)
  ∧ (∀ (opening : Bool) (d : Dev), (d.moveCounter opening).sext.units = d.sext.units)
  ∧ (∀ d : Dev, d.softChanged.sext.units = d.sext.units)
  ∧ (∀ (cause : Nat) (um : Int) (d : Dev), (d.refLost cause um).sext.units = d.sext.units)
  ∧ ∀ (p : Int) (d : Dev), (d.indexEdge p).sext.units = d.sext.units

/-- The events of the bridges: a tripped monitor, which in a high-side short of the leaf only limits that short, and not from 155 V on, a gate that does not follow, a low bootstrap, the end of a precharge, the offsets measured on channels whose bridge has been off for 10 ms, and over-voltage with its hysteresis. Where the manual leaves this open or to be read, it states the model's choice: log entry 45. -/
def Obligations.DriveEvents : Prop := ∀ (dt : Nat) (s : State),
  (∀ leg high, Acts (.vdsTrip dt leg high) dt s
    (fun d => d.live = true ∧ leg ≤ 6 ∧ (d.drive.bridge (bridgeOf leg)).mode ≠ 0
      ∧ (if high then (d.drive.leg leg).suspectLow else (d.drive.leg leg).suspectHigh) = false)
    (fun d =>
      if high = true ∧ (d.drive.bridge (bridgeOf leg)).mode = 4 then
        (if 155000 ≤ d.drive.vbus then d else d.modDrive fun p => { p with leaf := { p.leaf with limited := true } })
      else (d.modLeg leg fun l => if high then { l with suspectLow := true } else { l with suspectHigh := true }).latchBridge (bridgeOf leg)))
  ∧ (∀ leg high, Acts (.gateFault dt leg high true) dt s
      (fun d => d.live = true ∧ leg ≤ 6 ∧ (d.drive.bridge (bridgeOf leg)).mode ≠ 0
        ∧ (if high then (d.drive.leg leg).suspectHigh else (d.drive.leg leg).suspectLow) = false)
      (fun d => (d.modLeg leg fun l => if high then { l with suspectHigh := true } else { l with suspectLow := true }).latchBridge (bridgeOf leg)))
  ∧ (∀ leg high, Acts (.gateFault dt leg high false) dt s
      (fun d => d.live = true ∧ leg ≤ 6 ∧ (d.drive.bridge (bridgeOf leg)).mode ≠ 0 ∧ (d.drive.leg leg).gateFault = false)
      (fun d => (d.modLeg leg fun l => { l with gateFault := true }).latchBridge (bridgeOf leg)))
  ∧ (∀ leg mv, Acts (.bootstrapLow dt leg mv) dt s (fun d => d.live = true ∧ leg ≤ 6 ∧ mv < 8000)
      (fun d => (d.modLeg leg fun l => { l with boot := mv, bootLow := max 8 l.bootLow, bootGood := false }).onset 80 1 leg (u16 (satU 16 mv))))
  ∧ (∀ bridge, Acts (.prechargeEnd dt bridge) dt s
      (fun d => d.live = true ∧ bridge ≤ 2 ∧ ∃ t, (d.drive.bridge bridge).precharge = some t ∧ t ≤ d.now)
      (fun d => d.modBridge bridge fun b => { b with mode := 2, precharge := none }))
  ∧ (∀ offsets, Acts (.senseOffsetMeasure dt offsets) dt s (fun d => d.live = true) (fun d => Dev.measureOffsets false 0 offsets d))
  ∧ (∀ mv, Acts (.busOverVoltage dt mv) dt s (fun d => d.parN P.DRV_VBUS_OV ≤ mv ∧ d.drive.overVoltage = false ∧ d.live = true)
      (fun d => (d.modDrive fun p => { p with vbus := mv, overVoltage := true }).onset 83 2 0xFF (u32 mv)))
  ∧ ∀ mv, Acts (.busOverVoltageEnd dt mv) dt s
      (fun d => d.live = true ∧ d.drive.overVoltage = true ∧ mv + d.parN P.DRV_VBUS_HYST < d.parN P.DRV_VBUS_OV)
      (fun d => (d.modDrive fun p => { p with vbus := mv, overVoltage := false }).clearing 83 0xFF (u32 mv))

/-- A latched fault of a bridge: every gate of it off, latched, one more trip up to 15, a bridge of the step unverified; the other bridges, the legs and everything outside the drive, the step's position, the host queue and the trace triggers stay. Where the manual leaves this open or to be read, it states the model's choice: log entry 45. -/
def Obligations.BridgeLatch : Prop := ∀ (n : Nat) (d : Dev), n < 3 →
  let b := d.drive.bridge n
  let t := d.latchBridge n
  let a := t.drive.bridge n
  a.mode = 0 ∧ a.latched = true ∧ a.trips = min 15 (b.trips + 1) ∧ a.precharge = none ∧ a.offSince = d.now
    ∧ (∀ other, other < 3 → other ≠ n → t.drive.bridge other = d.drive.bridge other) ∧ t.drive.legs = d.drive.legs ∧ t.drive.vbus = d.drive.vbus
    ∧ t.step = (if n = 0 then d.step else { d.step with unverified := true })
    ∧ t.host.stands 82 n = true
    ∧ t.door = d.door ∧ t.leaf = d.leaf ∧ t.pilot = d.pilot ∧ t.sext = d.sext ∧ t.skin = d.skin ∧ t.load = d.load ∧ t.bin = d.bin ∧ t.bus = d.bus
    ∧ t.chron = d.chron ∧ t.prm = d.prm ∧ t.supply = d.supply

/-! ### Skin and obstacles (chapters 10 and 11) -/

/-- The orders on the skin: a port with a link is suspended in Maintenance or Isolated, resumed, or trained again at rest; the baselines of running ports are rebuilt at rest, one order at a time. Orders of a port that the new one replaces are superseded. The queries of the skin, the contacts, the obstacle and drag states and the legacy edges answer at once; a window of a map and of a contact list inside what is there. Where the manual leaves this open or to be read, it states the model's choice: log entries 22 and 46. -/
def Obligations.SkinCommands : Prop :=
  (∀ (h : CmdHead) (dt : Nat) (s : State),
    (∀ port, Runs (.skinPortSuspend dt h port) h (.skinPortSet port 0) dt s (fun d => d.portLink port ≠ 0 ∧ (d.door.state = 12 ∨ d.door.state = 10))
      (fun slot d =>
        let t := d.modPort port fun q => { q with
          suspended := true, trainStart := none, retryAt := none, rebuild := none, contacts := [], lines := [], candidates := [] }
        (((t.endPortOrders port (fun a => a ≠ 0) fun old t => t.reply old 0x11 []).loseRebuild port fun old t => t.reply old 0x11 []).portState port 6 0).reply
          slot 0x00 []))
    ∧ (∀ port, Runs (.skinPortResume dt h port) h (.skinPortSet port 1) dt s (fun d => d.portLink port ≠ 0)
        (fun slot d =>
          let q := d.port port
          let t := d.modSkin fun s => { s with setOrders := s.setOrders ++ [(port, 1, slot)] }
          if q.state = 3 ∨ q.state = 4 then d.reply slot 0x00 []
          else if q.state ≠ 6 then t
          else if q.tiles = [] ∨ q.baselines = 0 then t.startTraining port
          else (t.modPort port fun q => { q with suspended := false, goodFrames := 0 }).portState port 1 0))
    ∧ (∀ port, Runs (.skinPortRetrain dt h port) h (.skinPortSet port 2) dt s (fun d => d.portLink port ≠ 0 ∧ d.inMotion = false)
        (fun slot d =>
          ((d.modSkin fun s => { s with setOrders := s.setOrders ++ [(port, 2, slot)] }).loseRebuild port fun old t => t.reply old 0x11 []).startTraining port))
    ∧ ∀ ports, Runs (.skinBaselineRebuild dt h ports) h (.skinBaselineRebuild ports) dt s
        (fun d => d.inMotion = false ∧ d.skin.rebuildOrder = none ∧ ∀ p ∈ portsOf ports, (d.port p).state = 3 ∨ (d.port p).state = 4)
        (fun slot d => if portsOf ports = [] then d.reply slot 0x00 (u16 0 ++ u16 0 ++ u16 0)
          else (portsOf ports).foldl (fun t p => t.startRebuild p) (d.modSkin fun s => { s with rebuildOrder := some (ports, slot) })))
  ∧ (∀ (h : CmdHead) (dt : Nat) (s : State),
    (∀ port, Answers (.skinPortStatus dt h port) h (.skinPortStatus port) dt s (fun _ => True) (fun d =>
      let q := d.port port
      u8 port ++ u8 q.state ++ u8 q.scan ++ u8 (d.portTiles port) ++ u8 q.tiles.length ++ u16 (bitsOf (q.tiles.map fun t => t.faults ≠ 0)) ++ u8 q.cause
        ++ u8 q.baselines ++ u16 q.load ++ u32 q.frameNo ++ u64 q.frameTime ++ u16 q.codeCount ++ u16 q.checkCount ++ u16 q.lostCount ++ u16 q.trainCount))
    ∧ (∀ port, Answers (.skinTileList dt h port) h (.skinTileList port) dt s (fun _ => True) (fun d => d.tileList port))
    ∧ (∀ port map a0 an r0 rn, Answers (.skinFrameRead dt h port map a0 an r0 rn) h (.skinFrameRead port map a0 an r0 rn) dt s
        (fun d => 1 ≤ an ∧ an ≤ 256 ∧ a0 + an ≤ 256 * (d.port port).tiles.length ∧ 1 ≤ rn ∧ r0 + rn ≤ 32 ∧ an * rn ≤ 480)
        (fun d => u8 port ++ u8 map ++ u8 0 ++ u32 (d.port port).frameNo ++ u64 (d.port port).frameTime
          ++ (List.range rn).flatMap fun r => (List.range an).flatMap fun a => d.mapEntry port map (a0 + a) (r0 + r)))
    ∧ (∀ port kind first count, Answers (.contactList dt h port kind first count) h (.contactList port kind first count) dt s
        (fun d => port ≤ 2 ∧ kind ≤ 1 ∧ first ≤ 64 ∧ 1 ≤ count ∧ count ≤ (if kind = 0 then 24 else 8)
          ∧ ((d.port port).state = 0 ∨ first < (if kind = 0 then (d.port port).contacts.length else (d.port port).lineRecords.length)))
        (fun d =>
          let q := d.port port
          let cs := if q.state = 0 ∨ kind = 1 then [] else (q.contacts.drop first).take count
          let ls := if q.state = 0 ∨ kind = 0 then [] else (q.lineRecords.drop first).take count
          u8 port ++ u8 q.state ++ u8 (if q.state = 0 then 0 else q.contacts.length) ++ u8 (if q.state = 0 then 0 else q.lineRecords.length) ++ u8 first
            ++ u8 (cs.length + ls.length) ++ u8 0 ++ u32 q.frameNo ++ u64 q.frameTime
            ++ (cs.flatMap (fun c => d.contactEntry port c) ++ ls.flatMap fun l => d.lineEntry port l)))
    ∧ Answers (.obstacleState dt h) h .obstacleState dt s (fun _ => True) (fun d => d.obstacleState)
    ∧ Answers (.dragState dt h) h .dragState dt s (fun _ => True) (fun d => d.dragState)
    ∧ Answers (.legacyEdgeStatus dt h) h .legacyEdgeStatus dt s (fun _ => True) (fun d =>
        u8 (if d.skin.excFault then 2 else if d.excOn then 1 else 0) ++ u16 (satU 16 d.skin.excMv) ++ (List.range 3).flatMap fun e =>
          u8 (d.edgeMode e) ++ u8 (d.edge e).state ++ u16 (satU 16 (d.edge e).ratio) ++ u32 (d.edge e).actuations ++ u64 (d.edge e).changed))

/-- The skin's events: a sync starts a frame on every port that takes part, a packet is taken or counted against its port, a frame is evaluated port by port up to the line to Binnacle, a port faults, trains and tries again, a rebuild ends, and the legacy edges are read. Where the manual leaves this open or to be read, it states the model's choice: log entries 46 and 47. -/
def Obligations.SkinEvents : Prop := ∀ (dt : Nat) (s : State),
  Acts (.skinFrameSync dt) dt s (fun d => d.live = true) (fun d =>
    let d := d.takeWrites 2
    let binned := decide (2 ≤ d.supply.reef)
    let d := d.modSkin fun s => { s with frame := s.frame + 1, frameTime := d.chron.time, running := true, binned := binned }
    ((d.syncPort binned 0).syncPort binned 1).syncPort binned 2)
  ∧ (∀ port bytes violations, Acts (.tilePacketReceived dt port bytes violations) dt s
      (fun d => d.live = true ∧ d.skin.running = true ∧ (d.port port).framed = true) (fun d => d.tilePacket port bytes violations))
  ∧ Acts (.skinFrameEvaluated dt) dt s (fun d => d.live = true ∧ d.skin.running = true) (fun d =>
      let d := (((d.framePort 0).framePort 1).framePort 2).leaveTouch
      let d := d.leafPorts.foldl (fun d p => d.formCoverage p) d
      let d := d.leafPorts.foldl (fun d p => d.confirmSeal p) d
      let d := d.leafPorts.foldl (fun d p => d.frameLines p) d
      let d := (((d.classify 0).classify 1).classify 2).judgeBlindLine.judgeDrag
      let still := d.pinchAt.isSome || (d.obst.blind && decide (d.par P.OBST_PINCH_BLIND = 1))
      (d.modSkin fun s => { s with running := false, line := if still then s.line else !s.line }).rebuildDone)
  ∧ (∀ port cause, cause = 1 ∨ cause = 2 → Acts (.skinPortFault dt port cause) dt s
      (fun d => d.live = true ∧ port ≤ 2 ∧ d.portLink port ≠ 0 ∧ (d.port port).state ≠ 0) (fun d => d.portFault port cause))
  ∧ (∀ port, Acts (.skinPortFault dt port 3) dt s
      (fun d => d.live = true ∧ port ≤ 2 ∧ d.portLink port ≠ 0 ∧ (d.port port).state ≠ 0 ∧ (d.port port).state ≠ 5 ∧ (d.port port).tiles ≠ []
        ∧ ∀ t ∈ (d.port port).tiles, t.faults ≠ 0) (fun d => d.portState port 5 3))
  ∧ (∀ port found, Acts (.portTraining dt port found) dt s
      (fun d => d.live = true ∧ port ≤ 2 ∧ d.portLink port ≠ 0 ∧ (d.port port).trainStart.isSome = true) (fun d => d.endTraining port found))
  ∧ (∀ port, Acts (.portRetrainTimer dt port) dt s
      (fun d => d.live = true ∧ d.portLink port ≠ 0 ∧ ∃ t, (d.port port).retryAt = some t ∧ t ≤ d.now) (fun d => d.startTraining port))
  ∧ Acts (.rebuildComplete dt) dt s (fun d => d.live = true ∧ ∃ p, p < 3 ∧ (d.port p).rebuild = some 16) (fun d => d.rebuildDone)
  ∧ (∀ a b c exc, Acts (.edgeSample dt a b c exc) dt s (fun d => d.live = true) (fun d =>
      let ok := 9500 ≤ exc ∧ exc ≤ 10500
      let d := d.modSkin fun s => { s with
        excMv := exc
        excBad := if ok ∨ ¬ d.excOn then none else some (s.excBad.getD d.now)
        excGood := if ok then some (s.excGood.getD d.now) else none }
      let d := if d.skin.excFault = true ∧ (∃ t, d.skin.excGood = some t ∧ ms 10 ≤ d.now - t) then d.excState false else d
      let d := if d.skin.excFault = false ∧ (∃ t, d.skin.excBad = some t ∧ ms 1 ≤ d.now - t) then d.excState true else d
      ((d.edgeRead 0 a exc).edgeRead 1 b exc).edgeRead 2 c exc))
  ∧ (∀ exc, Acts (.excitationFault dt exc) dt s (fun d => d.live = true ∧ d.excOn = true ∧ (exc < 9500 ∨ 10500 < exc) ∧ d.skin.excFault = false)
      (fun d => (d.modSkin fun s => { s with excMv := exc }).excState true))
  ∧ ∀ edge, Acts (.pwHoldExpiry dt edge) dt s (fun d => d.live = true ∧ ∃ t, (d.edge edge).hold = some t ∧ t ≤ d.now) (fun d =>
      let t := d.modEdge edge fun l => { l with hold := none }
      if (d.edge edge).state = 2 ∧ (d.edge edge).candidate = 1 ∧ 20 ≤ (d.edge edge).samples then t.edgeState edge 1 else t)

/-- A tile packet of a running frame that came whole: eight violations in a frame fault the port; with a violation, a wrong length or a wrong check it is only counted; one that does not fit the frame, the chain or the scan is ignored; a status packet goes to its tile and a row packet to its row, and nothing else of the port changes. Where the manual leaves this open or to be read, it states the model's choice: log entry 46. -/
def Obligations.TilePackets : Prop := ∀ (d : Dev) (p : Nat) (bytes : List Byte) (violations : Nat),
  d.skin.running = true → (d.port p).framed = true → p < d.skin.ports.length →
  let q := d.port p
  let t := d.modPort p fun q => { q with
    chars := q.chars + bytes.length + 2, codeCount := satU 16 (q.codeCount + violations), frameCodes := q.frameCodes + violations }
  let n := fieldAt 4 2 bytes
  let type := fieldAt 0 1 bytes
  let tile := fieldAt 1 1 bytes % 16
  let row := fieldAt 3 1 bytes
  let payload := (bytes.drop 6).take n
  let fits := tileLength type payload = n ∧ fieldAt 2 1 bytes = d.skin.frame % 256 ∧ tile < q.tiles.length
  (8 ≤ q.frameCodes + violations → d.tilePacket p bytes violations = t.portFault p 1)
  ∧ (q.frameCodes + violations < 8 → violations ≠ 0 → d.tilePacket p bytes violations = t)
  ∧ (q.frameCodes < 8 → violations = 0 →
      ((bytes.length ≠ n + 10 ∨ crc32c (bytes.take (6 + n)) ≠ fieldAt (6 + n) 4 bytes) →
        d.tilePacket p bytes 0 = t.modPort p fun q => { q with checkCount := satU 16 (q.checkCount + 1) })
      ∧ (bytes.length = n + 10 → crc32c (bytes.take (6 + n)) = fieldAt (6 + n) 4 bytes →
          (¬ fits → d.tilePacket p bytes 0 = t)
          ∧ (fits → type = 0x10 →
              d.tilePacket p bytes 0 = t.modPort p fun q => { q with tiles := modAt (Tile.takeHeader payload) tile q.tiles })
          ∧ (fits → type ∈ [0x11, 0x12, 0x13] →
              (row < 32 ∧ (type = 0x13 ↔ q.scan = 2) →
                d.tilePacket p bytes 0 = t.modPort p fun q => { q with rows := modAt (TaxelRow.take type payload) (32 * tile + row) q.rows })
              ∧ (¬ (row < 32 ∧ (type = 0x13 ↔ q.scan = 2)) → d.tilePacket p bytes 0 = t))))

/-! ### Load channels, lamp pairs and the jury (chapter 12) -/

/-- The orders on the loads: LCH_SET where no named channel stands in the way, unlatching, an off-state test of enabled channels, and the jury's copy, written to the smart-power die as a job. The load queries: the inputs and the record of each channel, with the state that R414 reports first, and the jury's copy in force. Where the manual leaves this open or to be read, it states the model's choice: log entries 24 and 48. -/
def Obligations.LoadCommands : Prop :=
  (∀ (h : CmdHead) (dt : Nat) (s : State),
    (∀ channels states, Runs (.lchSet dt h channels states) h (.lchSet channels states) dt s
      (fun d => ∀ n, n < 12 → bitAt channels n = true → (bitAt states n = true → d.chKind n ≠ 0) ∧ (∀ p, d.pairOfCh n ≠ some (p, false)) ∧ d.isLock n = false)
      (fun slot d =>
        let chans := (numbered d.load.channels).map fun (n, c) => if bitAt channels n then { c with order := bitAt states n } else c
        (({ d with load := { d.load with channels := chans } } : Dev).refreshLoads).reply slot 0x00 []))
    ∧ (∀ channels, Runs (.lchUnlatch dt h channels) h (.lchUnlatch channels) dt s (fun _ => True)
        (fun slot d => ((Dev.unlatch channels (List.range 12) d).2.refreshLoads).reply slot 0x00 (u16 (Dev.unlatch channels (List.range 12) d).1)))
    ∧ (∀ channels, Runs (.lchOffTest dt h channels) h (.lchOffTest channels) dt s
        (fun d => d.load.testOrder = none ∧ ∀ n, n < 12 → bitAt channels n = true → d.chKind n ≠ 0)
        (fun slot d => ({ d with load := { d.load with testOrder := some (slot, channels, List.replicate 12 0) } } : Dev).judgeTests))
    ∧ ∀ pair mask map, Runs (.juryMaskSet dt h pair mask map) h (.juryMaskSet pair mask map) dt s
        (fun d => juryRange pair mask map = none ∧ d.load.jury = false ∧ d.inMotion = false
          ∧ firstFailure [P.LCH_PAIR_ENABLE] (d.parWith (juryWrites pair mask map)) = none)
        (fun slot d => { d with host := { d.host with jobs := d.host.jobs ++ [{ slot := slot, job := .juryWrite (juryWrites pair mask map) [] }] } }))
  ∧ (∀ (h : CmdHead) (dt : Nat) (s : State),
    Answers (.lchStatus dt h) h .lchStatus dt s (fun _ => True) (fun d =>
      u8 (bitsOf ([d.load.jury] ++ d.load.jin ++ [d.load.derating])) ++ u16 (satU 16 d.load.group) ++ u32 0
        ++ (List.range 12).flatMap fun n =>
          let c := d.ch n
          let row := (d.demandRow n).1
          u8 (d.chState n) ++ u8 (bitsOf [c.demand, c.order, d.juryDriven n, row = 6, row = 7, c.limit < chLimit n, c.darkOn, c.darkOff])
            ++ u16 (satU 16 c.current) ++ i16 (satI 16 c.temp) ++ u8 (min 15 c.tries + 16 * c.lastTrip) ++ u8 (bitsOf [c.freewheel, c.lit])
            ++ u16 (match c.pauseEnd with | some t => satU 16 ((t - d.now) / 100000) | none => 0) ++ u8 c.test ++ u8 0)
    ∧ Answers (.juryStatus dt h) h .juryStatus dt s (fun _ => True) (fun d =>
        u8 (bitsOf ([d.load.jury] ++ d.load.jin)) ++ u16 d.juryCopy.2.1 ++ leBytes 3 d.juryCopy.2.2 ++ u8 d.juryCopy.1
          ++ u8 (bit (decide (d.juryCopy = (d.parN P.LCH_PAIR_ENABLE, d.parN P.LCH_JURY_MASK, d.parN P.LCH_JURY_MAP)))) ++ u8 0
          ++ u16 (bitsOf ((List.range 12).map fun n => d.juryDriven n)) ++ u32 d.load.assertions ++ u64 d.load.juryAt))

/-- The events of the loads: a change of a demand, a trip, the ends of pause, tries and thermal state, derating, a dark lamp, an off-state test, a missing freewheel path, JURY, JIN and the 100 µs measurement. Where the manual leaves this open or to be read, it states the model's choice: log entry 48. -/
def Obligations.LoadEvents : Prop := ∀ (dt : Nat) (s : State),
  Leaves (.loadDemandChange dt) s (s.later dt).refreshLoads
  ∧ (∀ n cause current, Acts (.loadTrip dt n cause current) dt s
      (fun d => (d.ch n).on = true ∧ ((cause = 3 ∧ d.now < (d.ch n).inrushEnd) ∨ ((cause = 1 ∨ cause = 2) ∧ (d.ch n).inrushEnd ≤ d.now) ∨ cause = 4))
      (fun d =>
        let t := d.modCh n fun c => c.trip cause d.now (d.parN (P.loadField n 3)) (d.parN P.LCH_RETRY_PAUSE) (d.parN (P.loadField n 4))
        let t' := t.raise 128 1 n (u8 cause ++ u8 (t.ch n).tries ++ u16 (satU 16 current))
        ((if (t.ch n).latched = true then t'.onset 129 2 n (u8 cause) else t').failPrimary n 2).refreshLoads))
  ∧ (∀ n, Acts (.retryPauseEnd dt n) dt s (fun d => ∃ t, (d.ch n).pauseEnd = some t ∧ t ≤ d.now)
      (fun d => (d.modCh n fun c => { c with pauseEnd := none }).refreshLoads))
  ∧ (∀ n, Acts (.tryCountReset dt n) dt s (fun d => (d.ch n).on = true ∧ sec 1 ≤ d.now - (d.ch n).onSince)
      (fun d => d.modCh n fun c => { c with tries := 0 }))
  ∧ (∀ n temp, Acts (.thermalClear dt n temp) dt s (fun d => (d.ch n).thermal = true ∧ temp ≤ 1600)
      (fun d => (d.modCh n fun c => { c with thermal := false, temp := temp }).refreshLoads))
  ∧ Acts (.groupDerating dt) dt s (fun d => d.supply.vhv = true) (fun d => d.derate)
  ∧ (∀ n, Acts (.lampDark dt n) dt s
      (fun d => d.supply.vhv = true ∧ (d.ch n).on = true ∧ (10 ≤ (d.ch n).below ∨ (10 ≤ (d.ch n).above ∧ (d.ch n).darkOn = true)))
      (fun d =>
        if 10 ≤ (d.ch n).below then
          ((if (d.ch n).darkOn then d else (d.modCh n fun c => { c with darkOn := true }).darkEvent n 1).failPrimary n 1).refreshLoads
        else ((d.modCh n fun c => { c with darkOn := false }).darkEvent n 1).refreshLoads))
  ∧ (∀ n mv, Acts (.offStateTest dt n mv) dt s
      (fun d => d.chKind n ≠ 0 ∧ (d.ch n).demand = false ∧ d.supply.vhv = true
        ∧ ((∃ slot mask results, d.load.testOrder = some (slot, mask, results) ∧ bitAt mask n = true)
          ∨ (d.parN (P.loadField n 6) = 1 ∧ ms 50 ≤ d.now - (d.ch n).demandOff ∧ ms (d.parN P.LCH_OFF_TEST_PERIOD) ≤ d.now - (d.ch n).testAt)))
      (fun d => d.offTest n mv))
  ∧ (∀ n mv, Acts (.freewheelMissing dt n mv) dt s
      (fun d => d.live = true ∧ (d.ch n).freewheel = false ∧ (d.ch n).on = false ∧ mv < -1000 ∧ ms 1 ≤ d.now - (d.ch n).offAt ∧ (d.ch n).offAt ≠ 0)
      (fun d => (d.modCh n fun c => { c with freewheel := true }).onset 133 2 n (i16 (satI 16 mv))))
  ∧ (∀ level, Acts (.juryChange dt level) dt s (fun d => d.load.jury ≠ level ∧ d.supply.vhv = true) (fun d =>
      let d : Dev := { d with load := { d.load with
        jury := level, juryAt := d.chron.time, assertions := if level then d.load.assertions + 1 else d.load.assertions } }
      Dev.refreshLoads (
        if d.live = false then d
        else if level then d.onset 134 1 0xFF (u16 d.juryCopy.2.1 ++ u8 (bitsOf d.load.jin))
        else (d.endStanding 134 0xFF).raise 135 0 0xFF [])))
  ∧ (∀ i level, Acts (.jinChange dt i level) dt s (fun d => i ≤ 3 ∧ d.load.jin.getD i false ≠ level ∧ d.supply.vhv = true) (fun d =>
      let t : Dev := { d with load := { d.load with jin := setAt i level d.load.jin, jinAt := setAt i d.now d.load.jinAt } }
      (if level = true ∧ sec 1 ≤ d.now - d.load.jinAt.getD i 0 then Dev.jinClear i (List.range 12) t else t).refreshLoads))
  ∧ ∀ currents temps, Acts (.sensePinUpdate dt currents temps) dt s (fun d => d.supply.vhv = true) (fun d => d.measureLoads currents temps)

/-- The demand of a channel is decided by the first row of R409 that applies. Row 3 takes the primary's demand without row 8 of the primary itself, which is the model's reading, and R422 keeps the demand with a lit secondary. Where the manual leaves this open or to be read, it states the model's choice: log entry 30. -/
def Obligations.DemandTable : Prop := ∀ (d : Dev) (n : Nat),
  let p := primaryOf ((n - 8) / 2)
  let secondary : Prop := ∃ q, d.pairOfCh n = some (q, false)
  let primary : Prop := ∃ q, d.pairOfCh n = some (q, true)
  let carried : Prop := secondary ∧ ((d.ch p).failed = true ∨ (d.ch n).lit = true)
  let handed : Prop := primary ∧ ((d.ch n).failed = true ∨ (d.ch (n + 1)).lit = true)
  let own (n : Nat) : Nat × Bool := if d.supply.vhv = true ∧ d.chKind n ≠ 0 ∧ d.load.jury = true ∧ bitAt d.juryCopy.2.1 n = true then
      (2, d.load.jin.getD (d.jinOf n) false)
    else if d.live = false then (4, false)
    else if d.parN P.DOOR_LOCK_CHANNEL = n ∧ d.door.state ≠ 12 then (5, d.door.lockOn)
    else if bitAt (d.parN P.SYS_REEF1_SHED) n = true ∧ (1 ≤ d.supply.reef ∨ d.supply.dieHot.getD 1 false = true) ∧ d.parN P.DOOR_LOCK_CHANNEL ≠ n then (6, false)
    else if d.door.flashing = true ∧ bitAt (d.parN P.DOOR_WARN_MASK) n = true ∧ d.parN P.DOOR_LOCK_CHANNEL ≠ n then (7, d.door.flashOn)
    else (9, (d.ch n).order)
  (d.supply.vhv = false ∨ d.chKind n = 0 → d.demandRow n = (1, false))
  ∧ (d.supply.vhv = true → d.chKind n ≠ 0 →
      ((own n).1 = 2 → d.demandRow n = own n)
      ∧ ((own n).1 ≠ 2 → carried → d.demandRow n = (3, (own p).2))
      ∧ ((own n).1 ≠ 9 → ¬ carried → d.demandRow n = own n)
      ∧ ((own n).1 = 9 → ¬ carried → handed → d.demandRow n = (8, false))
      ∧ ((own n).1 = 9 → ¬ carried → ¬ handed → d.demandRow n = (9, (d.ch n).order)))

/-- The device keeps one host order per channel, which is off after every reset. LCH_SET replaces the stored orders of the channels it names. The stored order is kept while rows 1 to 8 of R409 override it, and it governs the channel again as soon as none of them applies. -/
def Obligations.HostOrdersKept : Prop :=
  (∀ n, (State.reset.dev.ch n).order = false)
  ∧ (∀ (causes : List Nat) (d : Dev) (n : Nat), ((d.enterReset causes).ch n).order = false)
  ∧ (∀ (channels states : Nat) (d : Dev) (n : Nat), n < d.load.channels.length →
      ((d.lchSet channels states).ch n).order = if bitAt channels n then bitAt states n else (d.ch n).order)
  ∧ (∀ (d : Dev) (n : Nat), (d.refreshLoads.ch n).order = (d.ch n).order)
  ∧ ∀ (d : Dev) (n : Nat), n < d.load.channels.length → n < 12 → (d.demandRow n).1 = 9 →
      (d.demandRow n).2 = (d.ch n).order ∧ ((d.applyDemand n).ch n).demand = (d.ch n).order

/-- Each channel keeps a try count k. A trip counts as one try, a thermal one only within 10 ms of the switch-on; a try latches the channel from LCH_n_RETRY_MAX on, and otherwise starts a pause of LCH_RETRY_PAUSE · 2^(k − 1) from the moment it goes off. A trip turns the channel off, and only a channel that conducts can trip, so that a switch-on counts once. After 1 s of conduction without a trip the count is 0. -/
def Obligations.TriesAndPauses : Prop :=
  (∀ (d : Dev) (n cause : Nat), d.tripHolds n cause = true → (d.ch n).on = true)
  ∧ (∀ (c : Channel) (cause now retryMax pause mode : Nat),
      let t := c.trip cause now retryMax pause mode
      let tried := cause ≠ 4 ∨ now - c.onSince ≤ ms 10
      t.on = false ∧ t.offAt = now ∧ t.lastTrip = cause
        ∧ (tried → t.tries = c.tries + 1) ∧ (¬ tried → t.tries = c.tries)
        ∧ (tried → retryMax ≤ c.tries + 1 → t.latched = true)
        ∧ (tried → c.tries + 1 < retryMax → (cause ≠ 4 ∨ mode ≠ 1) → t.latched = c.latched ∧ t.pauseEnd = some (now + ms (pause * 2 ^ c.tries)))
        ∧ (¬ tried → mode ≠ 1 → t.latched = c.latched ∧ t.pauseEnd = c.pauseEnd))
  ∧ ∀ (dt n : Nat) (s : State), (s.later dt).load.channels.length = 12 → n < 12 →
      ((s.later dt).ch n).on = true → sec 1 ≤ (s.later dt).now - ((s.later dt).ch n).onSince →
      Ensures (.tryCountReset dt n) s fun t => (t.ch n).tries = 0 ∧ (t.ch n).on = true ∧ ∀ other, other ≠ n → t.ch other = (s.later dt).ch other

/-- A channel restarts only with its demand on, no latch, no pause running and its thermal state clear. The pause keeps running during a thermal off, and a thermal off keeps its own condition during a pause. A latch holds the channel off whatever the other states say. The state reported is the first that applies of latched, thermal off, retry pause. -/
def Obligations.RestartConditions : Prop := ∀ (d : Dev) (n : Nat), n < d.load.channels.length →
  let t := d.applyDemand n
  (((t.ch n).on = true ↔ (d.demandRow n).2 = true ∧ (d.ch n).latched = false ∧ (d.ch n).pauseEnd = none ∧ (d.ch n).thermal = false)
    ∧ (t.ch n).latched = (d.ch n).latched ∧ (t.ch n).pauseEnd = (d.ch n).pauseEnd ∧ (t.ch n).thermal = (d.ch n).thermal ∧ (t.ch n).tries = (d.ch n).tries)
  ∧ (∀ now retryMax pause mode, (now - (d.ch n).onSince > ms 10 → ((d.ch n).trip 4 now retryMax pause mode).pauseEnd = (d.ch n).pauseEnd))
  ∧ (∀ temp, ((d.thermalEnds n temp).ch n).pauseEnd = (d.ch n).pauseEnd ∧ ((d.pauseEnds n).ch n).thermal = (d.ch n).thermal)
  ∧ (d.chKind n ≠ 0 →
      ((d.ch n).latched = true → d.chState n = 6) ∧ ((d.ch n).latched = false → (d.ch n).thermal = true → d.chState n = 5)
      ∧ ((d.ch n).latched = false → (d.ch n).thermal = false → (d.ch n).pauseEnd.isSome = true → d.chState n = 4))

/-! ### Binnacle (chapter 13) -/

/-- The commands on Binnacle: the queries answer at once with the seal, the safe inputs and outputs, the functions, the connections and the diagnostics; SEAL_CONFIRM at rest, with its checks passed, the image stored, no class A fault, the device's own grade and value, writes the record as a job; DEBUG_ENABLE outside Sealed opens the port. Where the manual leaves this open or to be read, it states the model's choice: log entries 15 and 68. -/
def Obligations.BinnacleCommands : Prop := ∀ (h : CmdHead) (dt : Nat) (s : State),
  Answers (.sealStatus dt h) h .sealStatus dt s (fun _ => True) (fun d =>
    let r := d.nv.sealRec.getD { value := 0, grade := 0, build := 0, time := 0 }
    u8 (bit d.bin.isSealed) ++ u8 d.bin.sealReason ++ u8 Config.grade ++ u32 (d.sealOver d.prm.working) ++ u32 r.value ++ u8 r.grade
      ++ u8 (bitsOf [d.imageAgrees, d.bin.debug]) ++ u16 (allParams.filter (·.sealed)).length ++ u32 d.runningBuild ++ u32 r.build ++ u64 r.time)
  ∧ (∀ value grade, Runs (.sealConfirm dt h value grade) h (.sealConfirm value grade) dt s
      (fun d => d.inMotion = false ∧ d.sealChecks = none ∧ d.imageAgrees = true ∧ d.bin.classA = false ∧ d.bin.selfTest = true
        ∧ grade = Config.grade % 256 ∧ value = d.sealOver d.storedValues)
      (fun slot d => { d with host := { d.host with jobs := d.host.jobs ++ [{ slot := slot, job := .sealStore value }] } }))
  ∧ Answers (.safeIo dt h) h .safeIo dt s (fun _ => True) (fun d =>
      u16 (bitsOf ((List.range 16).map fun c => d.sinLevel c)) ++ u16 (bitsOf (d.bin.channels.map fun c => c.testFault)) ++ u8 (bitsOf d.bin.tpoFault) ++ u16 0
        ++ ((List.range 8).flatMap fun p =>
          u8 (d.parN (P.pairFunc p)) ++ u8 (d.pairState p) ++ u16 (d.parN (P.pairDisc p))
            ++ u32 (satU 32 ((d.now - (d.bin.pairs.getD p {}).changed) / sec 1)))
        ++ d.outRecord 0 ++ d.outRecord 1)
  ∧ Answers (.safeFunctions dt h) h .safeFunctions dt s (fun _ => True) (fun d =>
      let b := d.bin
      u8 (bitsOf [b.isSealed, b.selfTest, b.classA, b.inhibit, b.permit, b.unproven, d.sext.ref ≠ 1]) ++ u8 b.view ++ u8 b.conds
        ++ u8 (bitsOf [b.byPinch, b.byDirection]) ++ u8 b.causes ++ u8 b.reading ++ u8 (bit b.lineMode) ++ i32 (satI 32 d.binSpeed)
        ++ u32 d.speedLimit ++ i32 (satI 32 b.net) ++ u8 (satU 8 b.prove) ++ u8 (bitsOf [d.telegramRelease, d.made 9]) ++ u16 0
        ++ u64 b.out0.changed ++ u64 b.out1.changed)
  ∧ Answers (.telegramStatus dt h) h .telegramStatus dt s (fun _ => True)
      (fun d => u8 12 ++ leBytes 6 0 ++ (List.range 12).flatMap fun c => d.connStatus c)
  ∧ Answers (.binDiag dt h) h .binDiag dt s (fun _ => True) (fun d =>
      let b := d.bin
      u16 b.faults ++ u8 0 ++ u32 b.ecc ++ u32 b.march ++ u32 b.crcPasses ++ i16 (satI 16 b.rcDeviation) ++ u16 (satU 16 b.regulator)
        ++ u16 b.reportErrors ++ u16 b.lineFaults ++ u32 d.runningBuild ++ u32 b.ticks)
  ∧ Runs (.debugEnable dt h) h .debugEnable dt s (fun d => d.bin.isSealed = false)
      (fun slot d => ({ d with bin := { d.bin with debug := true } } : Dev).reply slot 0x00 [])

/-- Binnacle's events, each from start-up step 9 on: the tick with its functions in order, with REFSW, whose transition may end a homing or a seeking close, and VHV; a test window of a TPO, an off-pulse and the loop of an output, the drag latch, Hall edges and their silence, the unproven speed, the sequencer's report, and the diagnostics of class A. A clock fault of bit 3 resets with cause 4 or 9 by a free bit, since the row does not say which clock failed. Where the manual leaves this open or to be read, it states the model's choice: log entries 12 and 49. -/
def Obligations.BinnacleEvents : Prop := ∀ (dt : Nat) (s : State),
  (∀ seen, Acts (.safetyTick dt seen) dt s (fun d => d.binRuns = true)
    (fun d =>
      let b := (d.takeWrites 3).safetyTick seen
      let t := b.tickRefsw
      (if t.step.refsw.level = b.step.refsw.level then t else t.refswMoved.seekOver (decide (t.leaf.mode = 5))).seeVhv seen.vhvMv))
  ∧ (∀ (seen : TickIn) (d : Dev), d.binRuns = true → d.safetyTick seen = (
      let mismatch := d.bin.inhibit ≠ seen.inhibitBack ∧ bitAt d.bin.faults 7 = false
      let d := if mismatch then d.classAFault 7 else d
      let d := d.modBin fun b => { b with
        ticks := (b.ticks + 1) % 2 ^ 32, regulator := seen.regulator, rcDeviation := seen.rcDeviation, ecc := (b.ecc + seen.ecc) % 2 ^ 32 }
      let d := Dev.tickPairs (List.range 8) ((Dev.tickTpo seen.tpo seen.vhvMv (List.range 4) d).tickSamples seen.levels)
      let d := (((d.tickLoop 0 seen.loop0).tickLoop 1 seen.loop1).tickConns).tickSeal.tickReport.tickLine.tickUnproven
      let d := (((d.modBin fun b => { b with permit := d.openPermit }).judgeDirection d.openPermit).tickProved).tickDrag.tickTraction
      let news := d.telegramKey ≠ d.bin.lastBits
      let d := d.modBin fun b => { b with lastBits := d.telegramKey }
      let d := if news ∧ d.ready = true then d.sendKind 1 else d
      let d : Dev := { d with door := { d.door with copies := d.copiesNow } }
      if seen.regulator < 1140 ∨ 1260 < seen.regulator then d.diagnosticFails 4 else d))
  ∧ (∀ tpo mv reads, Acts (.testWindow dt tpo mv reads) dt s (fun d => d.binRuns = true) (fun d =>
      let passes := d.bin.tpoPasses.getD tpo 0 + 1
      let clears := d.bin.tpoFault.getD tpo false = true ∧ 10 ≤ passes
      let afterCheck : Dev := if 2000 ≤ mv then d.tpoFails tpo mv
        else
          let t := d.modBin fun b => { b with tpoPasses := setAt tpo passes b.tpoPasses, tpoFault := if clears then setAt tpo false b.tpoFault else b.tpoFault }
          if clears then t.clearing 160 tpo (u16 (satU 16 mv)) else t
      let judged (c : Nat) (w : SafeChannel) : SafeChannel :=
        if afterCheck.tpoOf c ≠ tpo then w
        else if bitAt reads c = true then { w with testFault := true, passes := 0 }
        else if w.testFault = true then { w with passes := w.passes + 1 } else w
      afterCheck.modBin fun b => { b with channels := (numbered b.channels).map fun (c, w) => judged c w }))
  ∧ (∀ o current, Acts (.offPulse dt o current) dt s
      (fun d => d.binRuns = true ∧ o ≤ 1 ∧ (d.bin.out o).energised = true ∧ 2000 ≤ (d.bin.out o).current ∧ ms 100 ≤ d.now - (d.bin.out o).pulsed)
      (fun d =>
        let b := (d.bin.out o).turnB
        if 1000 ≤ current then
          let t := (d.modOut o fun w => { w with stuckA := w.stuckA || !w.turnB, stuckB := w.stuckB || w.turnB, fault := true, pulsed := d.now }).openOut o
          (t.modBin fun n => { n with faults := setBit n.faults (5 + o) }).onset 163 3 o (u8 (bit b))
        else d.modOut o fun w => { w with pulses := satU 32 (w.pulses + 1), turnB := !w.turnB, pulsed := d.now }))
  ∧ (∀ o, Acts (.safeLoopOpen dt o) dt s
      (fun d => d.binRuns = true ∧ (∃ t, (d.bin.out o).lowSince = some t ∧ sec 1 ≤ d.now - t) ∧ (d.bin.out o).energised = true ∧ (d.bin.out o).loopOpen = false)
      (fun d => (d.modOut o fun w => { w with loopOpen := true }).onset 164 1 o (u16 (satU 16 (d.bin.out o).current))))
  ∧ (∀ o current, Acts (.safeLoopCurrentLimit dt o current) dt s (fun d => d.binRuns = true ∧ o ≤ 1 ∧ (d.bin.out o).energised = true)
      (fun d => ((d.openOut o).modOut o fun w => { w with holdUntil := some (d.now + sec 1), proved := 0 }).onset 164 1 o (u16 (satU 16 current))))
  ∧ Acts (.dragLatchClear dt) dt s (fun d => d.binRuns = true ∧ ∃ t, d.bin.dragStill = some t ∧ sec 1 ≤ d.now - t)
      (fun d => ((d.modBin fun b => { b with drag := false, byPinch := false, byDirection := false, dragStill := none }).clearing 167 0xFF (u8 0)).sendKind 2)
  ∧ (∀ code, Acts (.binnacleHallEdge dt code) dt s (fun d => d.binRuns = true ∧ d.bin.hallCode ≠ code) (fun d =>
      let b := d.bin
      let d := d.modBin fun b => { b with hallCode := code }
      match hallSector code with
      | none => (d.modBin fun b => { b with illegalProved := b.illegalProved || b.out0.energised, interval := none }).speedUnproven
      | some n =>
        let d := d.modBin fun b => { b with sector := some n }
        match b.sector with
        | none => d
        | some old =>
          if (n + 6 - old) % 6 = 1 then d.binEdge (d.par P.BIN_HALL_SENSE = 0)
          else if (n + 6 - old) % 6 = 5 then d.binEdge (d.par P.BIN_HALL_SENSE ≠ 0)
          else if (n + 6 - old) % 6 = 0 then d
          else d.modBin fun b => { b with lastEdge := d.now, anyEdge := true, interval := none, legalEdges := 0 }))
  ∧ Acts (.edgeSilence500ms dt) dt s (fun d => d.binRuns = true ∧ ms 500 ≤ d.now - d.bin.lastEdge) (fun d =>
      let d := if d.bin.violation = true then
          (d.modBin fun b => { b with net := 0, violation := false }).clearing 168 0xFF (i32 (satI 32 d.bin.net))
        else d
      if d.bin.overspeed = true then (d.modBin fun b => { b with overspeed := false }).clearing 169 0xFF (u32 0) else d)
  ∧ Acts (.speedUnproven dt) dt s
      (fun d => d.binRuns = true ∧ d.bin.unproven = false
        ∧ ∃ t, d.bin.demandSince = some t ∧ ms 100 ≤ d.now - (if d.bin.anyEdge = true then max t d.bin.lastEdge else t))
      (fun d => d.modBin fun b => { b with unproven := true, legalEdges := 0, unprovenSince := if b.unproven = true then b.unprovenSince else d.now })
  ∧ Acts (.unprovenTooLong dt) dt s
      (fun d => d.binRuns = true ∧ d.bin.unproven = true ∧ d.bin.unprovenInhibit = false ∧ sec (d.parN P.BIN_UNPROVEN_MAX) ≤ d.now - d.bin.unprovenSince)
      (fun d => d.modBin fun b => { b with unprovenInhibit := true })
  ∧ (∀ seq ok, Acts (.sequencerReport dt seq ok) dt s (fun d => d.binRuns = true) (fun d =>
      let r := d.bin.report
      if ok = true ∧ (∀ q, r.seq = some q → seq % 256 = (q + 1) % 256) then
        let t : Dev := { d with
          door := { d.door with withdrawFlag := none }
          bin := { d.bin with report := { r with
            seq := some (seq % 256), fresh := true, door := d.door.state, step := d.door.step, leafMotion := d.leafMotion, stepMotion := d.stepMotion } } }
        match d.door.withdrawFlag with
        | some cause => t.modBin fun b => { b with withdrawals := b.withdrawals + 1, withdrawCause := cause }
        | none => t
      else d.modBin fun b => { b with report := { r with seq := some (seq % 256) }, reportErrors := satU 16 (b.reportErrors + 1) }))
  ∧ (∀ n, Acts (.binnacleFault dt n) dt s (fun d => n ≤ 9 ∧ n ≠ 5 ∧ n ≠ 6 ∧ 0 < d.supply.step ∧ d.supply.mode = 0) (fun d =>
      let t := d.classAFault n
      if n = 0 ∨ n = 1 ∨ n = 2 ∨ n = 4 then t.enterReset [9]
      else if n = 3 then t.drawBit.2.enterReset [if t.drawBit.1 = true then 9 else 4]
      else t))
  ∧ (∀ ok, Acts (.marchTest dt ok) dt s (fun d => d.binRuns = true) (fun d =>
      if ok = true then d.modBin fun b => { b with march := (b.march + 1) % 2 ^ 32 } else (d.classAFault 1).enterReset [9]))
  ∧ ∀ ok, Acts (.programCrcCheck dt ok) dt s (fun d => d.binRuns = true) (fun d =>
      if ok = true then d.modBin fun b => { b with crcPasses := (b.crcPasses + 1) % 2 ^ 32 } else (d.classAFault 2).enterReset [9])

/-- A class A fault opens both safe outputs, asserts the drive inhibit at once, sets its bit, stands as source 170 and drives FAULT_N low; the doorway, the axes, the loads, the buses and the time stay as they are. -/
def Obligations.ClassAFault : Prop := ∀ (n : Nat) (d : Dev),
  let t := d.classAFault n
  (t.bin.out 0).energised = false ∧ (t.bin.out 1).energised = false ∧ t.bin.inhibit = true ∧ t.bin.classA = true
    ∧ bitAt t.bin.faults n = true ∧ t.host.stands 170 0xFF = true ∧ (d.supply.mode = 0 → t.faultN = true)
    ∧ t.door = d.door ∧ t.leaf = d.leaf ∧ t.step = d.step ∧ t.drive = d.drive ∧ t.load = d.load ∧ t.bus = d.bus ∧ t.chron = d.chron

/-- FAULT_N is driven low while the start-up has not reached step 13, which takes in the reset state of the pad and the boot ROM, while a class A fault stands, or while a standing condition of severity 2 or 3 holds, masked or not. In every other case, and in Parked and Dormant, it is released. A one-shot event does not move it; the onset of a condition of severity 2 or 3 asserts it whether its event was sent, masked or lost. -/
def Obligations.FaultPin : Prop :=
  (∀ d : Dev, d.faultN = true ↔ d.supply.mode = 0 ∧ (d.supply.step < 13 ∨ d.bin.classA = true ∨ ∃ c ∈ d.host.standing, 2 ≤ c.severity))
  ∧ State.reset.dev.faultN = true ∧ (∀ (causes : List Nat) (d : Dev), (d.enterReset causes).faultN = true)
  ∧ (∀ (found : StartUpIn) (d : Dev), d.supply.step < 13 → d.supply.mode = 0 → (d.startStep4 found).1 = false →
      (d.startStep4 found).2.supply.bootRom = true ∧ (d.startStep4 found).2.faultN = true)
  ∧ (∀ (src sev subject : Nat) (fields : List Byte) (d : Dev), (d.raise src sev subject fields).faultN = d.faultN)
  ∧ ∀ (src sev subject : Nat) (fields : List Byte) (d : Dev), d.supply.mode = 0 → 2 ≤ sev → d.host.stands src subject = false →
      (d.onset src sev subject fields).faultN = true

/-- SOUT0 is energised at a tick only with all of D1 to D7, and from open only once they have held for BIN_PROVE_TIME ticks; with any of them failing it is open and the count starts again. SOUT1 follows its conditions, and with BIN_SOUT1_ENABLE at 0 it stays open and is neither pulsed nor reported. Neither is energised while VHV is locked out or in Reef 4. A pinch line or a direction violation with the vehicle not at standstill sets the drag latch and opens SOUT1. Where the manual leaves this open or to be read, it states the model's choice: log entry 49. -/
def Obligations.SafeOutputs : Prop :=
  (∀ d : Dev,
    let t := d.tickProved
    let all := d.proveConds.all id
    let time := d.parN P.BIN_PROVE_TIME
    let power := d.supply.vhv = true ∧ d.supply.reef < 4
    (t.bin.out0.energised = true → all = true ∧ power ∧ (d.bin.out0.energised = true ∨ time ≤ d.bin.prove + 1))
      ∧ (all = false ∨ ¬ power → t.bin.out0.energised = false ∧ t.bin.prove = 0)
      ∧ (all = true → power → t.bin.prove = d.bin.prove + 1 ∧ (d.bin.out0.energised = true → t.bin.out0.energised = true)
        ∧ (d.bin.out0.holdUntil = none → time ≤ d.bin.prove + 1 → t.bin.out0.energised = true))
      ∧ t.bin.out1 = d.bin.out1)
  ∧ (∀ d : Dev,
      let t := d.tickTraction
      let conds := d.bin.isSealed = true ∧ 13 ≤ d.supply.step ∧ d.bin.classA = false ∧ d.bin.out1.fault = false ∧ d.par P.BIN_SOUT1_ENABLE = 1 ∧ d.bin.drag = false
      let power := d.supply.vhv = true ∧ d.supply.reef < 4
      (t.bin.out1.energised = true → conds ∧ power) ∧ (conds → power → d.bin.out1.holdUntil = none → t.bin.out1.energised = true)
        ∧ (d.par P.BIN_SOUT1_ENABLE = 0 → ∀ current, t.pulseOut 1 current = t ∧ t.loopOpen 1 = t ∧ t.loopLimit 1 current = t)
        ∧ t.bin.out0 = d.bin.out0 ∧ t.bin.drag = d.bin.drag)
  ∧ ∀ d : Dev,
      let t := d.tickDrag
      (d.bin.view ≠ 0 → d.bin.pinchStands = true ∨ d.bin.violation = true →
        t.bin.drag = true ∧ (d.bin.drag = false → t.bin.out1.energised = false ∧ t.bin.dragOnsets = d.bin.dragOnsets + 1))
        ∧ (d.bin.view = 0 ∨ (d.bin.pinchStands = false ∧ d.bin.violation = false) →
          t.bin.drag = d.bin.drag ∧ t.bin.out1 = d.bin.out1 ∧ t.bin.dragOnsets = d.bin.dragOnsets)

/-- The seal is gained by writing its record, with the value, this grade and build and the time, and the debug port goes off; it is lost at the tick after a write that changed a sealed parameter, with both safe outputs open and the loss standing as source 172. At start-up it holds for a record of this grade and build whose value is that of the loaded image, and not over a factory image, a void record or an image that was rewritten. Where the manual leaves this open or to be read, it states the model's choice: log entry 24. -/
def Obligations.SealGainedAndLost : Prop :=
  (∀ (value : Nat) (d : Dev),
    let t := d.sealNow value
    t.bin.isSealed = true ∧ t.bin.debug = false ∧ t.bin.sealBroken = none
      ∧ t.nv.sealRec = some { value := value, grade := Config.grade % 256, build := d.runningBuild, time := d.chron.time }
      ∧ t.nv.image = d.nv.image ∧ t.prm = d.prm ∧ t.door = d.door)
  ∧ (∀ (id : Nat) (d : Dev), d.bin.sealBroken = some id →
      let t := d.tickSeal
      t.bin.isSealed = false ∧ t.bin.sealBroken = none ∧ t.bin.sealLost = id ∧ (t.bin.out 0).energised = false ∧ (t.bin.out 1).energised = false
        ∧ t.host.stands 172 0xFF = true ∧ t.openPermit = false ∧ t.door = d.door ∧ t.prm = d.prm ∧ t.nv.sealRec = d.nv.sealRec)
  ∧ (∀ d : Dev, d.bin.sealBroken = none → d.tickSeal = d)
  ∧ ∀ (rewritten : Bool) (d : Dev),
      let t := d.evaluateSeal rewritten
      (t.bin.isSealed = true ↔ d.supply.factoryImage = false ∧ rewritten = false
        ∧ ∃ r, d.nv.sealRec = some r ∧ r.void = false ∧ r.grade = Config.grade % 256 ∧ r.build = d.runningBuild ∧ r.value = d.sealOver d.prm.working)
        ∧ t.nv = d.nv ∧ t.prm = d.prm

/-! ### The bus controllers (chapter 14) -/

/-- The commands on the bus controllers: the status with its counts; recovery out of bus-off only, with progress 1; a frame for a free send object of a running controller, with progress 1 and 2; a copy of a buffer inside its frame, where a consumed copy clears the new-data and overrun bits; a cancel, which removes a frame that is not committed at once, waits on a committed one and answers NOT_IN_FLIGHT with none; and the sections of the shadow table, its apply and its discard. Where the manual leaves this open or to be read, it states the model's choice: log entries 22 and 50. -/
def Obligations.BusCommands : Prop := ∀ (h : CmdHead) (dt : Nat) (s : State) (bus : Nat),
  Answers (.busStatus dt h bus) h (.busStatus bus) dt s (fun _ => True) (fun d =>
    let b := d.busOf bus
    let c := b.counts
    u8 bus ++ u8 b.mode ++ u8 b.state ++ u8 (satU 8 b.txErr) ++ u8 (satU 8 b.rxErr)
      ++ u8 (bitsOf [b.warning, b.listen, d.isHostBus bus, b.raised, d.par (P.busField bus 9) = 1]) ++ u8 b.lastError
      ++ u32 c.received ++ u32 c.sent ++ u16 b.fifo.length ++ u16 c.most ++ u16 c.overflows ++ u16 c.unmatched ++ u16 c.overruns
      ++ u16 c.bitErrors ++ u16 c.stuff ++ u16 c.crc ++ u16 c.form ++ u16 c.ack ++ u16 c.collisions ++ u16 c.busOffs
      ++ u16 c.exceptions ++ u16 b.sends.length ++ u16 b.delay ++ u16 0 ++ u64 b.changed)
  ∧ (∀ timeout, Runs (.busRecover dt h bus timeout) h (.busRecover bus timeout) dt s
      (fun d => 100 ≤ timeout ∧ timeout ≤ 60000 ∧ (d.busOf bus).state = 4)
      (fun slot d => ((d.setBus bus { d.busOf bus with recover := some (slot, d.now + ms timeout) }).progress slot 1).busState bus 5))
  ∧ (∀ object ident format sdt vcid sec af length lifetime bytes,
      Runs (.busSend dt h bus object ident format sdt vcid sec af length lifetime bytes) h
        (.busSend bus object ident format sdt vcid sec af length lifetime bytes) dt s
        (fun d => 16 ≤ object ∧ object ≤ 127 ∧ bitAt (d.busOf bus).table.dirs (object - 16) = true ∧ (d.busOf bus).sendOf object = none
          ∧ (d.busOf bus).running = true ∧ carries (d.busOf bus).mode format = true ∧ (d.busOf bus).listen = false)
        (fun slot d =>
          let frame : Frame := { ident := ident, format := format, sdt := sdt, vcid := vcid, sec := decide (sec = 1), af := af, length := length, data := bytes }
          let new : SendObject := { object := object, frame := frame, slot := slot, deadline := if lifetime = 0 then none else some (d.now + ms lifetime) }
          ((d.setBus bus { d.busOf bus with sends := (d.busOf bus).sends ++ [new] }).progress slot 1).progress slot 2))
  ∧ (∀ kind index consume off count,
      Runs (.busRead dt h bus kind index consume off count) h (.busRead bus kind index consume off count) dt s
        (fun d => bus ≤ 1 ∧ count ≤ 960
          ∧ ((kind = 0 ∧ 16 ≤ index ∧ index ≤ 127 ∧ bitAt (d.busOf bus).table.dirs (index - 16) = false) ∨ (kind = 1 ∧ index ≤ 7))
          ∧ let r := sget ({} : RxBuffer) index (if kind = 0 then (d.busOf bus).buffers else (d.busOf bus).prioBuffers)
            off + count ≤ (r.entry.getD ({}, 0, false)).1.data.length)
        (fun slot d =>
          let b := d.busOf bus
          let table := if kind = 0 then b.buffers else b.prioBuffers
          let r := sget ({} : RxBuffer) index table
          let e := r.entry.getD ({}, 0, false)
          let table := sset {} index (if consume = 1 then { r with newData := false, overrun := false } else r) table
          let t := d.setBus bus (if kind = 0 then { b with buffers := table } else { b with prioBuffers := table })
          t.reply slot 0x00 (u8 bus ++ u8 kind ++ u8 index ++ u8 (bitsOf [r.newData, r.newData, r.overrun, true, r.entry.isNone]) ++ u8 1
            ++ u16 r.updates ++ u16 r.updates ++ u8 e.1.format ++ u8 (bitsOf [e.1.esi, e.2.2, e.1.sec]) ++ u32 e.1.ident ++ u8 e.1.sdt
            ++ u8 e.1.vcid ++ u16 e.1.length ++ u32 e.1.af ++ u64 e.2.1 ++ (e.1.data.drop off).take count)))
  ∧ (∀ object, Runs (.busTxCancel dt h bus object) h (.busTxCancel bus object) dt s
      (fun d => 16 ≤ object ∧ object ≤ 127 ∧ bitAt (d.busOf bus).table.dirs (object - 16) = true)
      (fun slot d => match (d.busOf bus).sendOf object with
        | none => d.reply slot 0x13 []
        | some w =>
          if (d.busOf bus).committed = some object then
            let d := d.replyTo w.cancel 0x11 []
            let marked := (d.busOf bus).sends.map fun e => if e.object = object then { e with cancel := some slot } else e
            d.setBus bus { d.busOf bus with sends := marked }
          else ((d.setBus bus { d.busOf bus with sends := (d.busOf bus).sends.filter fun e => e.object ≠ w.object }).reply w.slot 0x12 []).reply slot 0x00 []))
  ∧ (∀ part first bytes, Runs (.busFilterLoad dt h bus part first bytes) h (.busFilterLoad bus part first bytes) dt s
      (fun _ => guardFilter part first bytes = none)
      (fun slot d =>
        let t := (d.busOf bus).shadow.getD (d.busOf bus).table
        let entries := pieces20 (bytes.length / 20) bytes
        let t : BusTable :=
          if part = 0 then { t with dirs := leNat (bytes.take 14), events := leNat ((bytes.drop 14).take 14) }
          else if part = 1 then { t with prios := putEntries first entries t.prios }
          else { t with rules := putEntries first entries t.rules }
        (d.setBus bus { d.busOf bus with shadow := some t }).reply slot 0x00 []))
  ∧ Runs (.busFilterApply dt h bus) h (.busFilterApply bus) dt s
      (fun d =>
        let b := d.busOf bus
        let t := b.shadow.getD b.table
        (∀ r ∈ t.rules, r.2.action = 1 → bitAt t.dirs (r.2.object - 16) = false)
          ∧ ∀ w ∈ b.sends, bitAt t.dirs (w.object - 16) = bitAt b.table.dirs (w.object - 16))
      (fun slot d =>
        let b := d.busOf bus
        let t := b.shadow.getD b.table
        let kept := b.buffers.filter fun e => bitAt t.dirs (e.1 - 16) = bitAt b.table.dirs (e.1 - 16)
        let old := if b.fifo = [] then [] else b.oldTables ++ [(b.tableNo, b.table)]
        (d.setBus bus { b with table := t, shadow := none, tableNo := b.tableNo + 1, oldTables := old, buffers := kept }).reply slot 0x00 [])
  ∧ Runs (.busFilterDiscard dt h bus) h (.busFilterDiscard bus) dt s (fun _ => True)
      (fun slot d => (d.setBus bus { d.busOf bus with shadow := none }).reply slot 0x00 [])

/-- The events of a controller, which runs from start-up step 7 on: a frame enters the FIFO of 64 or is counted as lost (one of a format above the mode ends in an error frame in mode 1 and in a protocol exception in mode 2), and is routed to its layer or its buffer; an attempt is committed on a running controller with a frame pending, and ends; recovery ends with result 0 or, at its timeout, result 1; a lifetime ends a frame that is not committed; new timing, integration and the protocol exception change the state. After a good frame a receive error counter above 127 takes a free value between 119 and 127, which the model leaves open. Where the manual leaves this open or to be read, it states the model's choice: log entries 14 and 50. -/
def Obligations.BusEvents : Prop := ∀ (dt : Nat) (s : State) (bus : Nat),
  let here : Dev → Prop := fun d => bus ≤ 1 ∧ 7 ≤ d.supply.step
  (∀ frame, Leaves (.busFrameReceived dt bus frame) s (
      let d := s.later dt
      let b := d.busOf bus
      let off : Bool := b.state = 4 || b.state = 5
      let kept : Bus := if 64 ≤ b.fifo.length then
          { b with
            counts := { b.counts with overflows := satU 16 (b.counts.overflows + 1) }
            lost := satU 16 (b.lost + 1), lostAt := if b.lost = 0 then d.chron.time else b.lostAt }
        else
          { b with
            fifo := b.fifo ++ [{ frame := frame.frame, stamp := d.chron.time - frame.age, inBusOff := off, table := b.tableNo }]
            counts := { b.counts with received := (b.counts.received + 1) % 2 ^ 32, most := max b.counts.most (b.fifo.length + 1) } }
      if ¬ (bus ≤ 1 ∧ 7 ≤ d.supply.step) then d
      else if carries b.mode frame.format = true then
        if off = true then d.setBus bus kept else if b.running = true then (d.setBus bus kept).busGoodReceive bus else d
      else if b.running = false then d
      else if b.mode = 1 then
        (d.setBus bus { b with rxErr := min 255 (b.rxErr + 1), lastError := 2, counts := b.counts.error 2 }).busJudge bus
      else if b.mode = 2 then
        (d.setBus bus { b with committed := none, counts := { b.counts with exceptions := satU 16 (b.counts.exceptions + 1) } }).busState bus 1
      else d))
  ∧ Leaves (.frameRouted dt bus) s (
      let d := s.later dt
      if bus ≤ 1 ∧ 7 ≤ d.supply.step then
        match d.takeFrame bus with
        | none => d
        | some (e, t) => match d.routeOf bus e with
          | .host => t.segmentIn e.frame.format e.frame.data
          | .hostBadFormat => t.segmentIn e.frame.format e.frame.data
          | .reference => t.reference e.frame.data e.stamp
          | .connection c => t.receiveTelegram c (e.frameIn t.chron.time)
          | r => t.routeHost bus r e
      else d)
  ∧ (∀ idle, Acts (.attemptCommitted dt bus idle) dt s
      (fun d => here d ∧ (d.busOf bus).running = true ∧ (d.busOf bus).listen = false ∧ (d.busOf bus).committed = none ∧ (chooseFrame (d.pendingFrames bus)).isSome = true)
      (fun d => d.setBus bus { d.busOf bus with
        committed := (chooseFrame (d.pendingFrames bus)).map fun e => e.1
        sofAt := if idle = true then d.now else d.now + d.parN (P.busField bus 1) * d.parN (P.busField bus 3) * 5 / 2 }))
  ∧ (∀ seen, Leaves (.attemptEnd dt bus seen) s (
      let d := s.later dt
      if bus ≤ 1 ∧ 7 ≤ d.supply.step then
        match (d.busOf bus).committed with
        | none => d
        | some obj =>
          let t := d.endAttempt bus seen
          (if seen.result = 0 then t.noteSent obj (d.chron.time - seen.age) else t).watchMasterBus.judgePark
      else d))
  ∧ Acts (.recoveryComplete dt bus) dt s (fun d => here d ∧ (d.busOf bus).state = 5) (fun d =>
      (((d.setBus bus { d.busOf bus with txErr := 0, rxErr := 0, warning := false }).busState bus 2).endRecover bus 0).listenAgain bus)
  ∧ Acts (.recoverTimeout dt bus) dt s (fun d => here d ∧ ∃ r, (d.busOf bus).recover = some r ∧ r.2 ≤ d.now)
      (fun d => (if (d.busOf bus).state = 5 then d.busState bus 4 else d).endRecover bus 1)
  ∧ (∀ object, Acts (.frameLifetimeExpiry dt bus object) dt s
      (fun d => here d ∧ (d.busOf bus).committed ≠ some object ∧ ∃ w t, (d.busOf bus).sendOf object = some w ∧ w.deadline = some t ∧ t ≤ d.now)
      (fun d => match (d.busOf bus).sendOf object with
        | some w => d.endSend bus w 1 3 d.chron.time
        | none => d))
  ∧ Acts (.timingReconfigured dt bus) dt s (fun d => here d ∧ (d.busOf bus).state = 7 ∧ (d.busOf bus).committed = none) (fun d =>
      let b := d.busOf bus
      if b.mode = 0 then (d.setBus bus { b with heldBusOff := false }).busState bus 0
      else if b.heldBusOff = true then (d.setBus bus { b with heldBusOff := false }).busState bus 4
      else d.busState bus 1)
  ∧ (∀ error dominant, Acts (.busReceiveError dt bus error dominant) dt s (fun d => here d ∧ (d.busOf bus).running = true) (fun d =>
      let b := d.busOf bus
      let up := if dominant = true then 8 else 1
      (d.setBus bus { b with rxErr := min 255 (b.rxErr + up), lastError := error, counts := b.counts.error error }).busJudge bus))
  ∧ Acts (.protocolException dt bus) dt s (fun d => here d ∧ (d.busOf bus).mode = 2 ∧ (d.busOf bus).running = true) (fun d =>
      let b := d.busOf bus
      (d.setBus bus { b with committed := none, counts := { b.counts with exceptions := satU 16 (b.counts.exceptions + 1) } }).busState bus 1)
  ∧ Acts (.busIntegrationComplete dt bus) dt s (fun d => here d ∧ (d.busOf bus).state = 1)
      (fun d => ((d.busState bus (if 128 ≤ max (d.busOf bus).txErr (d.busOf bus).rxErr then 3 else 2)).busJudge bus).listenAgain bus)

/-- A controller that enters bus-off keeps no frame of the host and none of the device: each host frame ends failed with cause 2, or cancelled where a cancel waits for it, no attempt is committed and the entries are counted. In bus-off a frame that comes whole still enters the FIFO, marked, no error is counted, and no attempt is committed. Where the manual leaves this open or to be read, it states the model's choice: log entry 50. -/
def Obligations.BusOffSilent : Prop :=
  (∀ (bus : Nat) (d : Dev), bus ≤ 1 →
    let t := d.busOff bus
    (t.busOf bus).state = 4 ∧ (t.busOf bus).sends = [] ∧ (t.busOf bus).device = [] ∧ (t.busOf bus).committed = none
      ∧ (t.busOf bus).counts.busOffs = satU 16 ((d.busOf bus).counts.busOffs + 1) ∧ (t.busOf bus).fifo = (d.busOf bus).fifo
      ∧ t.busOf (1 - bus) = d.busOf (1 - bus) ∧ t.bin = d.bin ∧ t.door = d.door)
  ∧ ∀ (dt bus : Nat) (s : State), bus ≤ 1 → ((s.later dt).busOf bus).state = 4 →
      (∀ error dominant, Leaves (.busReceiveError dt bus error dominant) s (s.later dt))
      ∧ (∀ idle, Leaves (.attemptCommitted dt bus idle) s (s.later dt))
      ∧ Leaves (.recoveryComplete dt bus) s (s.later dt) ∧ Leaves (.timingReconfigured dt bus) s (s.later dt)
      ∧ Leaves (.busIntegrationComplete dt bus) s (s.later dt) ∧ Leaves (.protocolException dt bus) s (s.later dt)
      ∧ ∀ frame, Ensures (.busFrameReceived dt bus frame) s fun t => (t.busOf bus).state = 4 ∧ (t.busOf bus).rxErr = ((s.later dt).busOf bus).rxErr
          ∧ ((t.busOf bus).fifo = ((s.later dt).busOf bus).fifo ∨ ∃ e, e.inBusOff = true ∧ (t.busOf bus).fifo = ((s.later dt).busOf bus).fifo ++ [e])

/-! ### The Chronometer and the safe telegrams (chapter 15) -/

/-- The commands and events of the Chronometer. A step moves the time and the device's own stamps, is counted and reported, and as master marks the next 3 messages; a change of state or of master is reported. CHRON_SET steps the time and answers the step; while the device is a slave of a master heard in the last three periods it is refused with STATE, reason 1. CHRON_READ answers the state. A reference message is counted; to a master only one of a lower rank with valid time matters, and it ends that role; one with valid time names the master; it disciplines the time where the device holds its stamp of the message before it from the same rank. A master sends a message each period, a potential master takes over after S with valid time, and holdover begins and ends by its times. The events of the telegrams: a send connection builds the next of its sequence, with its layout, payload and check, once 10 ticks, or 10 ms for kind 5, have passed; a frame that is routed to a receive connection is checked there, and one that is accepted makes the connection valid, and of kind 3 gives the view and the releases; a receive connection without a new telegram for 30 ticks, or 30 ms for kind 4, since its last acceptance starts again, and without the vehicle telegram the view is unknown and no release is given. Where the manual leaves this open or to be read, it states the model's choice: log entries 18, 19, 51 and 66. -/
def Obligations.ChronometerAndTelegramRows : Prop :=
  (∀ (dt : Nat) (s : State),
    (∀ h time,
      let heard (d : Dev) : Prop := d.par P.CHRON_ROLE ≠ 0 ∧ d.chron.state ≠ 5 ∧ ∃ t, d.chron.heard = some t ∧ d.now - t < 3 * ms (d.parN P.CHRON_REF_PERIOD)
      Runs (.chronSet dt h time) h (.chronSet time) dt s (fun d => ¬ heard d)
        (fun slot d =>
          let t := d.chronStep ((time : Int) - d.chron.time)
          (if t.par P.CHRON_ROLE = 2 ∧ t.chron.state = 5 then t
            else ({ t with chron := { t.chron with trim := 0, slew := 0, c := 0, good := 0 } } : Dev).chronState 1).reply slot 0x00 (i64 ((time : Int) - d.chron.time)))
      ∧ Refuses (.chronSet dt h time) h (.chronSet time) dt s heard 0x0F (u8 1))
    ∧ (∀ h, Answers (.chronRead dt h) h .chronRead dt s (fun _ => True) (fun d =>
        let t := d.chron
        u8 t.state ++ u8 (d.parN P.CHRON_ROLE) ++ u8 (t.rank.getD 0xFF) ++ u64 t.time ++ i32 t.offset ++ i32 t.c ++ u32 t.references
          ++ u16 t.steps ++ u16 t.masterChanges ++ u64 t.lastRef ++ u64 t.lastStep ++ u8 (bit t.keepValid) ++ leBytes 3 0))
    ∧ (∀ frame : FrameIn, Acts (.referenceReceived dt frame) dt s
        (fun d => d.live = true ∧ d.deviceRoute (d.parN P.CHRON_REF_BUS) frame.frame = some .reference)
        (fun d => d.reference frame.data (d.chron.time - frame.age)))
    ∧ Acts (.referenceSendTimer dt) dt s (fun d => d.live = true ∧ d.chron.state = 5 ∧ ms (d.parN P.CHRON_REF_PERIOD) ≤ d.now - d.chron.sentAt) (fun d =>
        let message := u8 (d.parN P.CHRON_RANK) ++ u8 (bitsOf [d.timeValid, d.chron.prevStamp.isSome, 0 < d.chron.discontinuity])
          ++ u16 (d.chron.sent % 65536) ++ u64 (d.chron.prevStamp.getD 0)
        let frame : Frame := { ident := d.parN P.CHRON_REF_ID + d.parN P.CHRON_RANK, format := 2, length := 12, data := message }
        let t := d.chron
        ({ d with chron := { t with sent := (t.sent + 1) % 65536, prevStamp := none, discontinuity := t.discontinuity - 1, sentAt := d.now } } : Dev).handOver
          (d.parN P.CHRON_REF_BUS) { object := 3, frame := frame, built := d.chron.time } false)
    ∧ Acts (.masterTimeout dt) dt s
        (fun d => d.live = true ∧ d.par P.CHRON_ROLE = 2 ∧ d.chron.state ≠ 5 ∧ d.timeValid = true ∧ (d.busOf (d.parN P.CHRON_REF_BUS)).running = true
          ∧ 3 * ms (d.parN P.CHRON_REF_PERIOD) + d.parN P.CHRON_RANK * ms (d.parN P.CHRON_REF_PERIOD) / 8 ≤ d.now - d.chron.refSeen)
        (fun d =>
          let t := d.chronMaster (some (d.parN P.CHRON_RANK))
          (({ t with chron := { t.chron with prevStamp := none, c := 0, trim := 0, slew := 0 } } : Dev).chronState 5).sendReference)
    ∧ Acts (.holdoverEntry dt) dt s (fun d => d.live = true ∧ d.chron.state = 3 ∧ 3 * ms (d.parN P.CHRON_REF_PERIOD) ≤ d.now - d.chron.usable)
        (fun d => ({ d with chron := { d.chron with slew := 0, c := d.chron.trim } } : Dev).chronState 4)
    ∧ Acts (.holdoverExpiry dt) dt s (fun d => d.live = true ∧ d.chron.state = 4 ∧ sec (d.parN P.CHRON_HOLDOVER) ≤ d.now - d.chron.heldAt)
        (fun d => d.chronState 0)
    ∧ (∀ (e : Int) (d : Dev),
        let move (t : Nat) : Nat := ((t : Int) + e).toNat % 2 ^ 64
        let t := d.chron
        d.chronStep e = ({ d with chron := { t with
          time := move t.time, lastStep := move t.time, steps := satU 16 (t.steps + 1), prev := t.prev.map fun (r, n, own) => (r, n, move own)
          prevStamp := t.prevStamp.map move, discontinuity := if t.state = 5 then 3 else t.discontinuity } } : Dev).raise 183 1 0xFF (i64 e))
    ∧ (∀ (new : Nat) (d : Dev),
        let t : Dev := { d with chron := { d.chron with state := new, heldAt := if new = 4 then d.now else d.chron.heldAt } }
        (t.timeValid = true → d.chronState new = t.clearing 185 0xFF (u8 d.chron.state))
        ∧ (t.timeValid = false → d.chronState new = if d.timeValid = true then t.onset 185 1 0xFF (u8 d.chron.state) else t))
    ∧ (∀ (rank : Option Nat) (d : Dev), (d.chron.rank = rank → d.chronMaster rank = d)
        ∧ (d.chron.rank ≠ rank → d.chronMaster rank
          = ({ d with chron := { d.chron with rank := rank, masterChanges := satU 16 (d.chron.masterChanges + 1) } } : Dev).raise 184 1 0xFF
            (u8 (d.chron.rank.getD 0xFF) ++ u8 (rank.getD 0xFF))))
    ∧ ∀ (data : List Byte) (stamp : Nat) (d : Dev),
        let rank := fieldAt 0 1 data
        let flags := fieldAt 1 1 data
        let count := fieldAt 2 2 data
        let valid := bitAt flags 0 = true
        let lower := rank < d.parN P.CHRON_RANK ∧ valid
        let t : Dev := { d with chron := { d.chron with references := satU 32 (d.chron.references + 1), lastRef := stamp, heard := some d.now } }
        (d.par P.CHRON_ROLE = 0 ∨ data.length ≠ 12 → d.reference data stamp = d)
        ∧ (d.par P.CHRON_ROLE ≠ 0 → data.length = 12 → d.chron.state = 5 → ¬ lower → d.reference data stamp = t)
        ∧ (d.par P.CHRON_ROLE ≠ 0 → data.length = 12 → (d.chron.state = 5 → lower) →
            let t := if d.chron.state = 5 then t.yieldMaster 1 else t
            let t := if valid then ({ t with chron := { t.chron with refSeen := d.now } } : Dev).chronMaster (some rank) else t
            let kept : Dev := { t with chron := { t.chron with prev := some (rank, count, stamp) } }
            (∀ n own, t.chron.prev = some (rank, n, own) → (n + 1) % 65536 = count → valid → bitAt flags 1 = true →
              d.reference data stamp = kept.discipline ((fieldAt 4 8 data : Int) - own) (bitAt flags 2))
            ∧ ((∀ n own, t.chron.prev = some (rank, n, own) → (n + 1) % 65536 = count → valid → bitAt flags 1 = false) →
              d.reference data stamp = kept)))
  ∧ (∀ (dt : Nat) (s : State) (c : Nat),
    Acts (.telegramSendTimer dt c) dt s
      (fun d => d.ready = true ∧ d.live = true ∧ c < 12 ∧ (if d.connKind c = 5 then ms 10 ≤ d.now - (d.conn c).builtAt else 10 ≤ (d.conn c).sinceBuilt))
      (fun d =>
        let kind := d.connKind c
        if kind = 1 ∨ kind = 2 ∨ kind = 5 then
          let seq := (d.conn c).next
          let data := telegramBytes (d.parN (P.connField c 3)) seq kind d.chron.time (d.payloadOf kind)
          let frame : Frame := { ident := d.parN (P.connField c 2), format := connFormat (d.parN (P.connField c 4)), length := data.length, data := data }
          let t := d.modConn c fun k => { k with next := (seq + 1) % 65536, sent := seq, sinceBuilt := 0, builtAt := d.now }
          t.handOver (t.parN (P.connField c 1)) { object := 4 + c, frame := frame, built := t.chron.time } (kind = 2)
        else d)
    ∧ (∀ frame : FrameIn, Acts (.telegramReceived dt c frame) dt s
        (fun d => d.live = true ∧ d.deviceRoute (d.parN (P.connField c 1)) frame.frame = some (.connection c)) (fun d => d.receiveTelegram c frame))
    ∧ Acts (.telegramWatchdogExpiry dt c) dt s
        (fun d => d.live = true ∧ c < 12 ∧ (d.connKind c = 3 ∨ d.connKind c = 4) ∧ ((d.conn c).valid = true ∨ ((d.conn c).last.isSome = true ∧ (d.conn c).expired = false))
          ∧ (if d.connKind c = 4 then ms 30 ≤ d.now - (d.conn c).last.getD d.now else 30 ≤ (d.conn c).ticks))
        (fun d =>
          let t := d.modConn c fun k => { k with valid := false, expired := true, candidate := none, expiries := satU 16 (k.expiries + 1) }
          let t : Dev := if t.connKind c = 3 then { t with bin := { t.bin with view := 2, releaseLeft := false, releaseRight := false } } else t
          t.onset 173 2 c (u32 (satU 32 ((d.now - (d.conn c).last.getD (d.conn c).arrival) / 100000))))
    ∧ (∀ (identity seq kind time : Nat) (payload : List Byte),
        let body := u32 identity ++ u16 seq ++ u8 kind ++ u8 payload.length ++ u32 (time / 100000) ++ payload
        telegramBytes identity seq kind time payload = body ++ u32 (telegramCheck identity body))
    ∧ (∀ d : Dev,
        let b := d.bin
        d.payloadOf 1 = u8 (bitsOf [b.out0.energised, b.out1.energised, b.drag, b.reading = 1 || b.reading = 2, b.permit, b.isSealed, b.classA])
            ++ u8 b.report.door ++ u8 b.report.step ++ u8 (b.withdrawals % 256) ++ u8 b.withdrawCause ++ u8 b.report.leafMotion ++ u16 0
            ++ i32 (satI 32 d.binSpeed) ++ u32 0
        ∧ d.payloadOf 2 = u8 (bit b.drag) ++ u8 (bitsOf [b.byPinch, b.byDirection]) ++ u16 (b.dragOnsets % 65536) ++ u32 0
        ∧ d.payloadOf 5 = u64 ((d.door.order.map (·.start)).getD 0) ++ u8 d.leafMotion ++ u8 d.door.state ++ u16 0 ++ i32 (satI 32 d.leafPos))
    ∧ ∀ (seq stamp : Nat) (payload : List Byte) (d : Dev),
        let t := d.modConn c fun k => { k with
          valid := true, expired := false, seq := seq, stamp := stamp, arrival := d.now, candidate := none, ticks := 0, last := some d.now, payload := payload }
        let bits := fieldAt 4 1 payload
        let t : Dev := if t.connKind c = 3 then { t with bin := { t.bin with
            view := if bitAt bits 0 = true ∧ fieldAt 0 4 payload < 1000 then 0 else 1, releaseLeft := bitAt bits 1, releaseRight := bitAt bits 2 } }
          else t
        d.acceptTelegram c seq stamp payload = if (d.conn c).valid = true then t else (t.endStanding 173 c).raise 174 0 c [])

/-- A usable reference message with offset e: with the time invalid, a discontinuity or an offset beyond the limit the time steps by e and both terms are 0; otherwise the time is left to the correction, whose trim stays within ±200,000 ppb and whose slew within ±300,000 ppb, with c their sum. Before any reference message the correction is 0. Where the manual leaves this open or to be read, it states the model's choice: log entry 18. -/
def Obligations.ReferenceDiscipline : Prop :=
  State.reset.dev.chron.c = 0
  ∧ ∀ (e : Int) (discontinuity : Bool) (d : Dev),
      let t := (d.discipline e discontinuity).chron
      let p : Int := ms (d.parN P.CHRON_REF_PERIOD)
      let step := d.chron.state = 0 ∨ discontinuity = true ∨ (us (d.parN P.CHRON_STEP_LIMIT) : Int) < e.natAbs
      (step → t.time = ((d.chron.time : Int) + e).toNat % 2 ^ 64 ∧ t.trim = 0 ∧ t.slew = 0 ∧ t.c = 0 ∧ t.state = 2 ∧ t.steps = satU 16 (d.chron.steps + 1))
        ∧ (¬ step → t.time = d.chron.time ∧ t.trim = clampI (-200000) 200000 (d.chron.trim + truncDiv (e * 1000000000) (8 * p))
          ∧ t.slew = clampI (-300000) 300000 (truncDiv (e * 1000000000) p) ∧ t.c = t.trim + t.slew ∧ t.c.natAbs ≤ 500000 ∧ t.steps = d.chron.steps)

/-- A frame changes what Binnacle knows, or a connection's payload, only when it is accepted: its check value, identity, kind, length and reserved fields are right, it is no duplicate, and where the receiver shares the sender's time its age lies in the window. A frame with a wrong check value adds a check error and nothing else. -/
def Obligations.TelegramsChecked : Prop := ∀ (c : Nat) (frame : FrameIn) (d : Dev), c < d.chron.conns.length →
  let data := frame.data
  let kind := d.connKind c
  let identity := d.parN (P.connField c 3)
  let t := d.receiveTelegram c frame
  let checks := 4 ≤ data.length ∧ telegramCheck identity (data.take (data.length - 4)) = fieldAt (data.length - 4) 4 data
  let age := toSigned 32 (((d.chron.time - frame.age) / 100000 + 2 ^ 32 - fieldAt 8 4 data) % 2 ^ 32)
  (t.bin ≠ d.bin ∨ (t.conn c).payload ≠ (d.conn c).payload ∨ ((t.conn c).valid = true ∧ (d.conn c).valid = false) →
    (kind = 3 ∨ kind = 4) ∧ d.live = true ∧ checks ∧ fieldAt 0 4 data = identity ∧ fieldAt 6 1 data = kind ∧ fieldAt 7 1 data = payloadLength kind
      ∧ data.length = 16 + payloadLength kind ∧ reservedClear kind ((data.drop 12).take (payloadLength kind)) = true
      ∧ ((d.conn c).last.isSome = true → (fieldAt 4 2 data + 65536 - (d.conn c).seq) % 65536 ≠ 0)
      ∧ ((d.chron.state = 3 ∨ d.chron.state = 4 ∨ d.chron.state = 5) → -2 ≤ age ∧ age ≤ d.parN (P.connField c 5))
      ∧ (t.conn c).seq = fieldAt 4 2 data ∧ (t.conn c).payload = (data.drop 12).take (payloadLength kind))
  ∧ ((kind = 3 ∨ kind = 4) → d.live = true → ¬ checks →
      t = d.modConn c fun k => { k with checkErrors := satU 16 (k.checkErrors + 1) })

/-! ### The Log (chapter 16) -/

/-- The commands on the Log. The queries answer, while the Log has not failed, with records, trace entries and trace bytes inside what is there; LOG_STATUS answers always. A capture is started outside the reef stages with none running, a trace that is not free is pinned, within LOG_PIN_MAX, or unpinned, and an erase at rest, outside Sealed or with the Log failed, is a job. Each is refused otherwise: with LOG_FAILED, RANGE and its field, STATE and its reason, MOVING or SEALED. The events of the Log: the oldest ended record is cast, behind its learning update for a cycle, and the learned tables follow it; the draft; the end of a quiet interval; a trigger, which starts a capture or counts as a further or a missed one; a trace sample, at the period in force into the rolling buffer and at its own into a running capture; and the end of a full trace. A write that the memory does not take fails the Log, which ends the capture. Where the manual leaves this open or to be read, it states the model's choice: log entries 28 and 29. -/
def Obligations.LogCommandsAndEvents : Prop :=
  (∀ (h : CmdHead) (dt : Nat) (s : State),
    Answers (.logStatus dt h) h .logStatus dt s (fun _ => True) (fun d =>
      let l := d.header
      let used := (d.nv.traceOrder.filter fun n => (traceHdr d.nv.main n).state ≠ 0).length
      u8 (bit d.logFailed) ++ u8 (if d.log.capture.isSome then 1 else if d.captureStopped then 2 else 0) ++ u8 d.log.run.record.kind ++ u16 l.epoch
        ++ u16 (match d.log.capture with | some c => c.slot | none => 65535) ++ u32 l.next ++ u32 l.oldest ++ u32 l.nextTrace
        ++ u16 (512 - used) ++ u16 l.pinned ++ u16 l.torn ++ u16 d.log.missed ++ u64 d.log.lastCast ++ u64 l.eraseTime)
    ∧ (∀ first count,
        let start : Dev → Nat := fun d => if first = 0xFFFFFFFF then max d.header.oldest (d.header.next - count) else first
        let n : Dev → Nat := fun d => if first = 0xFFFFFFFF then min count (d.header.next - start d) else count
        Answers (.logRead dt h first count) h (.logRead first count) dt s
          (fun d => d.logFailed = false ∧ 1 ≤ count ∧ count ≤ 20 ∧ d.header.oldest ≤ start d ∧ start d + n d ≤ d.header.next)
          (fun d =>
            let seqs := (List.range (n d)).map fun i => start d + i
            u32 (start d) ++ u8 (n d) ++ u16 0 ++ u32 (bitsOf (seqs.map fun q => d.recordValid q))
              ++ seqs.flatMap fun q => memLoad d.nv.main (48 * (q % 262144)) 48))
    ∧ (∀ first count, Answers (.traceList dt h first count) h (.traceList first count) dt s
        (fun d => d.logFailed = false ∧ first ≤ 511 ∧ 1 ≤ count ∧ count ≤ 48 ∧ first + count ≤ 512)
        (fun d => u16 first ++ u8 count ++ ((List.range count).map fun i => first + i).flatMap fun n =>
          let t := if d.nv.traceOrder.contains n then traceHdr d.nv.main n else {}
          u16 n ++ u8 t.state ++ u8 t.trigger ++ u8 (bitsOf [t.pinned, t.byHost, t.anomaly]) ++ u8 0 ++ u16 t.samples ++ u32 t.seq ++ u64 t.time))
    ∧ (∀ slot off count, Answers (.traceRead dt h slot off count) h (.traceRead slot off count) dt s
        (fun d => d.logFailed = false ∧ slot ≤ 511 ∧ off + count ≤ 8192 ∧ 1 ≤ count ∧ count ≤ 960)
        (fun d => u16 slot ++ u32 (traceHdr d.nv.main slot).seq ++ u16 off ++ u16 count ++ memLoad d.nv.main (0xC00000 + 8192 * slot + off) count))
    ∧ (∀ period pre pin, Runs (.traceCapture dt h period pre pin) h (.traceCapture period pre pin) dt s
        (fun d => d.logFailed = false ∧ period ≤ 64 ∧ pre ≠ 254 ∧ d.log.capture = none ∧ d.supply.reef = 0)
        (fun slot d =>
          let period := if period = 0 then d.parN P.LOG_TRACE_PERIOD else period
          let pre := if pre = 255 then d.parN P.LOG_TRACE_PRE else pre
          let t := (d.progress slot 1).startCapture 11 65535 (d.progress slot 1).chron.time period pre (decide (pin = 1)) (some slot)
          if t.log.capture.isSome = true then t else t.abort (some slot) 2))
    ∧ (∀ n action, Runs (.tracePin dt h n action) h (.tracePin n action) dt s
        (fun d => d.logFailed = false ∧ n ≤ 511 ∧ d.nv.traceOrder.contains n = true ∧ (traceHdr d.nv.main n).state ≠ 0
          ∧ (action = 1 → (traceHdr d.nv.main n).pinned = true ∨ d.header.pinned < d.parN P.LOG_PIN_MAX))
        (fun slot d =>
          let was := traceHdr d.nv.main n
          let t := d.putTrace n { was with pinned := decide (action = 1), byHost := decide (action = 1), anomaly := was.anomaly && decide (action = 1) }
          let t : Dev := { t with nv := { t.nv with traceOrder := d.nv.traceOrder } }
          (if action = 1 ∧ ¬ was.pinned = true then t.putHeader { d.header with pinned := d.header.pinned + 1 }
            else if action = 0 ∧ was.pinned = true then t.putHeader { d.header with pinned := d.header.pinned - 1 } else t).reply slot 0x00 []))
    ∧ (∀ what, Runs (.logErase dt h what) h (.logErase what) dt s
        (fun d => d.inMotion = false ∧ d.log.capture = none ∧ (d.bin.isSealed = false ∨ d.logFailed = true))
        (fun slot d => { d with host := { d.host with jobs := d.host.jobs ++ [{ slot := slot, job := .logErase what }] } }))
    ∧ (∀ first count,
        let fails (why : Dev → Prop) (status : Nat) (data : List Byte) : Prop := Refuses (.logRead dt h first count) h (.logRead first count) dt s why status data
        let start : Dev → Nat := fun d => if first = 0xFFFFFFFF then max d.header.oldest (d.header.next - count) else first
        let n : Dev → Nat := fun d => if first = 0xFFFFFFFF then min count (d.header.next - start d) else count
        fails (fun d => d.logFailed = true) 0x1B []
        ∧ fails (fun d => d.logFailed = false ∧ (count < 1 ∨ 20 < count)) 0x08 (u8 1)
        ∧ fails (fun d => d.logFailed = false ∧ 1 ≤ count ∧ count ≤ 20 ∧ (start d < d.header.oldest ∨ d.header.next < start d + n d)) 0x08 (u8 0))
    ∧ (∀ first count,
        let fails (why : Dev → Prop) (status : Nat) (data : List Byte) : Prop := Refuses (.traceList dt h first count) h (.traceList first count) dt s why status data
        fails (fun d => d.logFailed = true) 0x1B [] ∧ fails (fun d => d.logFailed = false ∧ 511 < first) 0x08 (u8 0)
        ∧ fails (fun d => d.logFailed = false ∧ first ≤ 511 ∧ (count < 1 ∨ 48 < count ∨ 512 < first + count)) 0x08 (u8 1))
    ∧ (∀ n off count,
        let fails (why : Dev → Prop) (status : Nat) (data : List Byte) : Prop := Refuses (.traceRead dt h n off count) h (.traceRead n off count) dt s why status data
        fails (fun d => d.logFailed = true) 0x1B [] ∧ fails (fun d => d.logFailed = false ∧ 511 < n) 0x08 (u8 0)
        ∧ fails (fun d => d.logFailed = false ∧ n ≤ 511 ∧ 8192 < off + count) 0x08 (u8 1)
        ∧ fails (fun d => d.logFailed = false ∧ n ≤ 511 ∧ off + count ≤ 8192 ∧ (count < 1 ∨ 960 < count)) 0x08 (u8 2))
    ∧ (∀ period pre pin,
        let fails (why : Dev → Prop) (status : Nat) (data : List Byte) : Prop :=
          Refuses (.traceCapture dt h period pre pin) h (.traceCapture period pre pin) dt s why status data
        fails (fun d => d.logFailed = true) 0x1B [] ∧ fails (fun d => d.logFailed = false ∧ 64 < period) 0x08 (u8 0)
        ∧ fails (fun d => d.logFailed = false ∧ period ≤ 64 ∧ pre = 254) 0x08 (u8 1)
        ∧ fails (fun d => d.logFailed = false ∧ period ≤ 64 ∧ pre ≠ 254 ∧ d.log.capture.isSome = true) 0x0F (u8 1)
        ∧ fails (fun d => d.logFailed = false ∧ period ≤ 64 ∧ pre ≠ 254 ∧ d.log.capture = none ∧ 1 ≤ d.supply.reef) 0x0F (u8 4))
    ∧ (∀ n action,
        let fails (why : Dev → Prop) (status : Nat) (data : List Byte) : Prop := Refuses (.tracePin dt h n action) h (.tracePin n action) dt s why status data
        fails (fun d => d.logFailed = true) 0x1B [] ∧ fails (fun d => d.logFailed = false ∧ 511 < n) 0x08 (u8 0)
        ∧ fails (fun d => d.logFailed = false ∧ n ≤ 511 ∧ d.traceFree n = true) 0x0F (u8 2)
        ∧ fails (fun d => d.logFailed = false ∧ n ≤ 511 ∧ d.traceFree n = false ∧ action = 1 ∧ (traceHdr d.nv.main n).pinned = false
            ∧ d.parN P.LOG_PIN_MAX ≤ d.header.pinned) 0x0F (u8 3))
    ∧ ∀ what,
        let fails (why : Dev → Prop) (status : Nat) (data : List Byte) : Prop := Refuses (.logErase dt h what) h (.logErase what) dt s why status data
        fails (fun d => d.inMotion = true) 0x0E [] ∧ fails (fun d => d.inMotion = false ∧ d.log.capture.isSome = true) 0x0F (u8 1)
        ∧ fails (fun d => d.inMotion = false ∧ d.log.capture = none ∧ d.bin.isSealed = true ∧ d.logFailed = false) 0x19 [])
  ∧ (∀ (dt : Nat) (s : State),
    let up : Dev → Prop := fun d => d.ready = true ∧ d.live = true
    (∀ steps ok, Acts (.cycleCast dt steps ok) dt s (fun d => up d ∧ d.log.run.ended ≠ []) (fun d =>
      match d.log.run.ended with
      | [] => d
      | r :: _ =>
        if r.kind = 1 ∧ 1 ≤ steps then d.learnUpdate.castFront (decide (d.learnUpdate.nv.eventSeq ≠ d.nv.eventSeq)) steps ok
        else d.castFront false steps ok))
    ∧ (∀ ok, Acts (.learnedTablesWrite dt ok) dt s (fun d => up d ∧ d.log.tablesDue = true) (fun d =>
        let t : Dev := { d with log := { d.log with tablesDue := false } }
        if 4 ≤ d.supply.reef ∨ d.logFailed = true then t
        else if ok = true then { t with nv := { d.nv with learned := some (d.pilot.fric, d.pilot.cog) } }
        else t.failLog 1))
    ∧ (∀ ok, Acts (.draftWrite dt ok) dt s (fun d => up d ∧ d.log.run.active = true ∧ d.logFailed = false) (fun d =>
        if ok = true then d.writeDraft else d.failLog 1))
    ∧ Acts (.quietMaxReached dt) dt s
        (fun d => up d ∧ d.log.run.active = true ∧ d.log.run.record.kind = 3 ∧ sec (d.parN P.LOG_QUIET_MAX) ≤ d.now - d.log.run.began)
        (fun d => (d.endRecord 4).beginRecord 3)
    ∧ (∀ ok, Acts (.traceTrigger dt ok) dt s (fun d => up d ∧ d.log.triggers ≠ []) (fun d =>
        if ok = true ∨ d.logFailed = true then d.takeTrigger else d.failLog 0))
    ∧ (∀ ok, Acts (.traceSample dt ok) dt s (fun d => d.live = true) (fun d => d.takeSample ok))
    ∧ (∀ ok, Acts (.traceComplete dt ok) dt s (fun d => d.live = true ∧ ∃ c, d.log.capture = some c ∧ 254 ≤ c.samples) (fun d =>
        match d.log.capture with
        | none => d
        | some c =>
          if ok = true then (d.endCapture 2).replyTo c.order 0x00 (u16 c.slot ++ u32 (traceHdr (d.endCapture 2).nv.main c.slot).seq)
          else d.failLog 0))
    ∧ (∀ (anomaly ok : Bool) (steps : Nat) (r : Record) (rest : List Record) (d : Dev), d.log.run.ended = r :: rest →
        let t : Dev := { d with log := { d.log with
          run := { d.log.run with ended := rest }, tablesDue := d.log.tablesDue || (decide (r.kind = 1) && decide (6 ≤ steps)) } }
        d.castFront anomaly steps ok = if d.logFailed = true then t
          else t.castOne { r with
            pinned := d.pinnedFor d.header.next
            flags := if anomaly = true ∧ r.flags.testBit 15 = false then r.flags + 32768 else r.flags } steps ok)
    ∧ (∀ d : Dev, d.log.run.active = true → d.logFailed = false → d.writeDraft = { d with
        nv := { d.nv with draft := some (d.recSnapshot 0, d.header.next) } })
    ∧ (∀ (code source time : Nat) (rest : List (Nat × Nat × Nat)) (d : Dev), d.log.triggers = (code, source, time) :: rest →
        let t : Dev := { d with log := { d.log with triggers := rest, run := { d.log.run with traced := true } } }
        (d.logFailed = true → d.takeTrigger = t)
        ∧ (d.logFailed = false → ∀ c, d.log.capture = some c →
            let hdr := traceHdr d.nv.main c.slot
            let t := t.putTrace c.slot { hdr with further := satU 8 (hdr.further + 1) }
            d.takeTrigger = if 1 ≤ code ∧ code ≤ 10 then t.pinByTrigger c.slot else t)
        ∧ (d.logFailed = false → d.log.capture = none → d.takeTrigger =
            if d.captureStopped = true then { t with log := { t.log with missed := satU 16 (t.log.missed + 1) } }
            else t.startCapture code source time (d.parN P.LOG_TRACE_PERIOD) (d.parN P.LOG_TRACE_PRE) false none))
    ∧ (∀ (ok : Bool) (d : Dev),
        let t : Dev := if d.parN P.LOG_TRACE_PERIOD ≤ d.log.updates then
            { d with log := { d.log with updates := 0, rolling := lastN 253 (d.log.rolling ++ [(d.chron.time, d.traceSample)]) } }
          else d
        (d.log.capture = none → d.takeSample ok = t)
        ∧ ∀ c, d.log.capture = some c →
            (c.updates < c.period → d.takeSample ok = t)
            ∧ (c.period ≤ c.updates → ok = false → d.takeSample ok = t.failLog 0)
            ∧ (c.period ≤ c.updates → ok = true → 254 ≤ c.samples → d.takeSample ok = t)
            ∧ (c.period ≤ c.updates → ok = true → c.samples < 254 →
                let c' : Capture := { c with samples := c.samples + 1, updates := 0, time0 := if c.samples = 0 then d.chron.time else c.time0 }
                let u : Dev := { t with
                  nv := { d.nv with main := memStore d.nv.main (0xC00000 + 8192 * c.slot + 64 + 32 * c.samples) d.traceSample }
                  log := { t.log with capture := some c' } }
                d.takeSample ok = if (c.samples + 1) % 16 = 0 then
                  u.putTrace c.slot { traceHdr u.nv.main c.slot with samples := c.samples + 1, time0 := c'.time0 } else u))
    ∧ ∀ (array : Nat) (d : Dev),
        let t : Dev := { d with
          nv := { d.nv with header := d.nv.header.map fun h => { h with failed := true } }
          log := { d.log with capture := none } }
        d.failLog array = (t.replyTo (d.log.capture.bind (·.order)) 0x1B []).onset 187 2 0xFF (u8 array))

/-- The Log's memory: what is stored is read back, every byte outside is as before, and the canonical form is kept. Where the manual leaves this open or to be read, it states the model's choice: log entry 3. -/
def Obligations.MemoryReadsBack : Prop := ∀ (m : List Host.Cell) (at_ : Nat) (bytes : List Byte), Memory.wf m = true →
  memLoad (memStore m at_ bytes) at_ bytes.length = bytes
  ∧ (∀ a, a < at_ ∨ at_ + bytes.length ≤ a → memRead (memStore m at_ bytes) a = memRead m a)
  ∧ Memory.wf (memStore m at_ bytes) = true

/-- A record that is cast whole stands in the slot of its sequence with its check over the epoch, and nothing else of the memory changes; the header's next sequence moves on, casting is over, and the oldest is raised where the ring came round. A cast cut short after its header names the sequence as casting, and the next sequence stays. Where the manual leaves this open or to be read, it states the model's choice: log entries 3 and 28. -/
def Obligations.CastRecord : Prop := ∀ (r : Record) (d : Dev), Memory.wf d.nv.main = true →
  let t := d.castOne r 6 true
  let at_ := 48 * (d.header.next % 262144)
  let body := recordBody d.header.next r
  memLoad t.nv.main at_ 48 = body ++ u32 (recordCheck d.header.epoch body)
  ∧ (∀ a, a < at_ ∨ at_ + 48 ≤ a → memRead t.nv.main a = memRead d.nv.main a)
  ∧ t.header.next = (d.header.next + 1) % 2 ^ 32 ∧ t.header.casting = false
  ∧ t.header.oldest = max d.header.oldest ((d.header.next + 1) % 2 ^ 32 - 262144) ∧ t.header.epoch = d.header.epoch
  ∧ t.log.lastCast = d.chron.time ∧ t.log.run = d.log.run ∧ t.nv.journal = d.nv.journal ∧ t.nv.learned = d.nv.learned
  ∧ ∀ steps, 3 ≤ steps → steps < 6 →
      let t := d.castOne r steps true
      t.header.casting = true ∧ t.header.castSeq = d.header.next ∧ t.header.next = d.header.next ∧ t.header.oldest = d.header.oldest
end

