-- ==== Sys2Proof/Laws/Bytes.lean ====
section
/-! SUPPORT. Laws of the byte packing: lengths, and a number, a run of fields or a run of words read back from its bytes. -/

namespace Sys2Proof.Laws

open Sys2Proof.Machine

@[simp] theorem length_leBytes (w v : Nat) : (leBytes w v).length = w := by
  induction w generalizing v with
  | zero => rfl
  | succ n ih => simp [leBytes, ih]

theorem leNat_leBytes (w v : Nat) : leNat (leBytes w v) = v % 256 ^ w := by
  induction w generalizing v with
  | zero => simp [leBytes, leNat, Nat.mod_one]
  | succ n ih =>
    rw [pow_succ', Nat.mod_mul (x := v) (a := 256)]
    simp [leBytes, leNat, ih]

theorem leNat_leBytes_of_holds {w v : Nat} (h : holds w v = true) : leNat (leBytes w v) = v := by
  rw [leNat_leBytes]
  exact Nat.mod_eq_of_lt (by simpa [holds] using h)

theorem leNat_lt (bs : List Byte) : leNat bs < 256 ^ bs.length := by
  induction bs with
  | nil => simp [leNat]
  | cons b bs ih =>
    have := b.isLt
    simp only [leNat, List.length_cons, pow_succ]
    omega

theorem take_leBytes_append (w v : Nat) (r : List Byte) : (leBytes w v ++ r).take w = leBytes w v := by
  simp

theorem drop_leBytes_append (w v : Nat) (r : List Byte) : (leBytes w v ++ r).drop w = r := by
  simp

@[simp] theorem takeFields_nil (bs : List Byte) : takeFields [] bs = some ([], bs) := rfl

/-- A field is read back, whatever follows it. -/
theorem takeFields_cons (w v : Nat) (ws : List Nat) (bs : List Byte) (h : holds w v = true) :
    takeFields (w :: ws) (leBytes w v ++ bs) = (takeFields ws bs).map fun p => (v :: p.1, p.2) := by
  have hw : ¬ (leBytes w v ++ bs).length < w := by simp
  simp only [takeFields, if_neg hw, take_leBytes_append, drop_leBytes_append, leNat_leBytes_of_holds h]
  cases takeFields ws bs <;> rfl

/-- The last field of a body is read back. -/
theorem takeFields_last (w v : Nat) (h : holds w v = true) : takeFields [w] (leBytes w v) = some ([v], []) := by
  have := takeFields_cons w v [] [] h
  simpa using this

@[simp] theorem holds_zero (w : Nat) : holds w 0 = true := by simp [holds]

@[simp] theorem length_packWords (w : Nat) (vs : List Nat) : (packWords w vs).length = w * vs.length := by
  induction vs with
  | nil => rfl
  | cons v vs ih => simp [packWords, ih, Nat.mul_add, Nat.add_comm]

@[simp] theorem length_packPairs (ps : List (Nat × Nat)) : (packPairs ps).length = 6 * ps.length := by
  induction ps with
  | nil => rfl
  | cons p ps ih => simp [packPairs, ih]; omega

/-- Words are read back. -/
theorem takeWords_packWords (w : Nat) (vs : List Nat) (h : vs.all (holds w) = true) : takeWords w vs.length (packWords w vs) = vs := by
  induction vs with
  | nil => rfl
  | cons v vs ih =>
    simp only [List.all_cons, Bool.and_eq_true] at h
    simp [packWords, takeWords, leNat_leBytes_of_holds h.1, ih h.2]

/-- ID and value pairs are read back. -/
theorem takePairs_packPairs (ps : List (Nat × Nat)) (h : (ps.all fun p => holds 2 p.1 && holds 4 p.2) = true) :
    takePairs ps.length (packPairs ps) = ps := by
  induction ps with
  | nil => rfl
  | cons p ps ih =>
    simp only [List.all_cons, Bool.and_eq_true] at h
    have h6 : (leBytes 2 p.1 ++ (leBytes 4 p.2 ++ packPairs ps)).drop 6 = packPairs ps := by
      rw [← List.append_assoc, List.drop_append_of_le_length (by simp)]
      simp
    simp [packPairs, takePairs, leNat_leBytes_of_holds h.1.1, leNat_leBytes_of_holds h.1.2, h6, ih h.2]

end Sys2Proof.Laws
end

