-- ==== Sys2Proof/Laws/Host.lean ====
section
/-! SUPPORT. What the shared operations of the host interface can do: raising, standing conditions, journal writes and replies touch the event sequence, the journal and the host interface alone; the course of a packet that is taken. -/

namespace Sys2Proof.Laws

open Sys2Proof.Machine

/-- Raising an event moves the sequence number and the host interface's queue and counts, and nothing else. -/
theorem queueEvent_eq (src sev : Nat) (data : List Byte) (time : Nat) (d : Dev) :
    d.queueEvent src sev data time = { d with
      nv := { d.nv with eventSeq := (d.nv.eventSeq + 1) % 2 ^ 32 }
      host := { d.host with
        masked := (d.queueEvent src sev data time).host.masked, lost := (d.queueEvent src sev data time).host.lost
        lostSince := (d.queueEvent src sev data time).host.lostSince, out := (d.queueEvent src sev data time).host.out } } := by
  simp only [Dev.queueEvent]
  split_ifs <;> rfl

/-- The frame of raising: what stays of the journal store and the host interface. -/
theorem raiseAt_eq (src sev phase subject : Nat) (fields : List Byte) (time : Nat) (d : Dev) :
    d.raiseAt src sev phase subject fields time = { d with
      nv := { d.nv with eventSeq := (d.raiseAt src sev phase subject fields time).nv.eventSeq }
      host := { d.host with
        masked := (d.raiseAt src sev phase subject fields time).host.masked, lost := (d.raiseAt src sev phase subject fields time).host.lost
        lostSince := (d.raiseAt src sev phase subject fields time).host.lostSince, out := (d.raiseAt src sev phase subject fields time).host.out
        held := (d.raiseAt src sev phase subject fields time).host.held } } := by
  simp only [Dev.raiseAt, Dev.queueEvent]
  split_ifs <;> rfl

/-- A one-shot event is raised with phase 0 at the present time. -/
theorem raise_eq (src sev subject : Nat) (fields : List Byte) (d : Dev) :
    d.raise src sev subject fields = { d with
      nv := { d.nv with eventSeq := (d.raise src sev subject fields).nv.eventSeq }
      host := { d.host with
        masked := (d.raise src sev subject fields).host.masked, lost := (d.raise src sev subject fields).host.lost
        lostSince := (d.raise src sev subject fields).host.lostSince, out := (d.raise src sev subject fields).host.out
        held := (d.raise src sev subject fields).host.held } } := raiseAt_eq ..

/-- A clearing also ends the standing condition. -/
theorem clearing_eq (src subject : Nat) (fields : List Byte) (d : Dev) :
    d.clearing src subject fields = { d with
      nv := { d.nv with eventSeq := (d.clearing src subject fields).nv.eventSeq }
      host := { d.host with
        masked := (d.clearing src subject fields).host.masked, lost := (d.clearing src subject fields).host.lost
        lostSince := (d.clearing src subject fields).host.lostSince, out := (d.clearing src subject fields).host.out
        held := (d.clearing src subject fields).host.held, standing := (d.clearing src subject fields).host.standing } } := by
  by_cases h : d.host.stands src subject = true
  · have e : d.clearing src subject fields = (d.endStanding src subject).raiseAt src 0 2 subject fields d.chron.time := by simp [Dev.clearing, h]
    rw [e]
    conv => lhs; rw [raiseAt_eq]
    rw [raiseAt_eq]
    rfl
  · simp [Dev.clearing, h]

/-- An onset also notes the standing condition. -/
theorem onset_eq (src sev subject : Nat) (fields : List Byte) (d : Dev) :
    d.onset src sev subject fields = { d with
      nv := { d.nv with eventSeq := (d.onset src sev subject fields).nv.eventSeq }
      host := { d.host with
        masked := (d.onset src sev subject fields).host.masked, lost := (d.onset src sev subject fields).host.lost
        lostSince := (d.onset src sev subject fields).host.lostSince, out := (d.onset src sev subject fields).host.out
        held := (d.onset src sev subject fields).host.held, standing := (d.onset src sev subject fields).host.standing } } := by
  by_cases h : d.host.stands src subject = true
  · simp [Dev.onset, h]
  · have e : d.onset src sev subject fields =
        (({ d with host := { d.host with standing := d.host.standing ++ [Standing.mk src subject sev] } } : Dev)).raiseAt src sev 1 subject fields d.chron.time := by
      simp [Dev.onset, h]
    rw [e]
    conv => lhs; rw [raiseAt_eq]
    rw [raiseAt_eq]

/-- A journal write touches the journal and its count. -/
theorem putEntry_eq (slot : Nat) (e : JEntry) (d : Dev) :
    d.putEntry slot e = { d with nv := { d.nv with journal := (d.putEntry slot e).nv.journal, journalWrites := d.nv.journalWrites + 1 } } := rfl

/-- A reply touches the journal, the outbound queue and the marks of the commands in flight. -/
theorem reply_eq (slot status : Nat) (data : List Byte) (d : Dev) :
    d.reply slot status data = { d with
      nv := { d.nv with journal := (d.reply slot status data).nv.journal, journalWrites := d.nv.journalWrites + 1 }
      host := { d.host with
        out := (d.reply slot status data).host.out
        flights := d.host.flights.map fun f => if f.slot = slot then { f with replied := true } else f } } := rfl

/-- The receipt of a packet touches the event sequence, the journal and the host interface, whose channel, orders in flight and jobs stay. -/
theorem received_eq (p : InPacket) (slot : Nat) (d : Dev) :
    d.received p slot = { d with
      nv := { d.nv with
        eventSeq := (d.received p slot).nv.eventSeq, journal := (d.received p slot).nv.journal, journalWrites := d.nv.journalWrites + 1 }
      host := { d.host with
        masked := (d.received p slot).host.masked, lost := (d.received p slot).host.lost
        lostSince := (d.received p slot).host.lostSince, out := (d.received p slot).host.out
        held := (d.received p slot).host.held, standing := (d.received p slot).host.standing
        lastValid := (d.received p slot).host.lastValid } } := by
  unfold Dev.received Dev.heardHost
  split
  · conv => lhs; rw [putEntry_eq, clearing_eq]
    rw [putEntry_eq, clearing_eq]
    rfl
  · rfl

/-- Receiving a packet leaves free entries and commands in flight as they were. -/
theorem heardHost_freeEntry (p : InPacket) (d : Dev) : (d.heardHost p).freeEntry = d.freeEntry := by
  unfold Dev.heardHost
  split
  · rw [clearing_eq]; rfl
  · rfl

/-- A packet whose command can be read and is not refused enters the in-flight state and runs. -/
theorem receive_runs {p : InPacket} {c : HostCmd} {slot : Nat} {d : Dev} (ho : d.host.isOpen = true) (hf : d.freeEntry = some slot)
    (hc : p.command = .ok c) (hr : (d.received p slot).refusal p c = none) : d.receive p = ((d.received p slot).entered p slot).hostRun c slot := by
  have e : (d.heardHost p).putEntry slot (p.entry (d.heardHost p).chron.time) = d.received p slot := by
    unfold Dev.received
    congr 2
    unfold Dev.heardHost
    split
    · rw [clearing_eq]
    · rfl
  simp only [Dev.receive, ho, not_true_eq_false, if_false, heardHost_freeEntry, hf, e, hc, hr]
  rfl

/-- A packet whose command can be read and is refused is answered with the refusal, and nothing else follows. -/
theorem receive_refused {p : InPacket} {c : HostCmd} {slot status : Nat} {data : List Byte} {d : Dev} (ho : d.host.isOpen = true) (hf : d.freeEntry = some slot)
    (hc : p.command = .ok c) (hr : (d.received p slot).refusal p c = some (status, data)) : d.receive p = (d.received p slot).reply slot status data := by
  have e : (d.heardHost p).putEntry slot (p.entry (d.heardHost p).chron.time) = d.received p slot := by
    unfold Dev.received
    congr 2
    unfold Dev.heardHost
    split
    · rw [clearing_eq]
    · rfl
  simp only [Dev.receive, ho, not_true_eq_false, if_false, heardHost_freeEntry, hf, e, hc, hr]

/-- Entering the in-flight state touches the event sequence, the journal, the queue of the host interface, and adds one command in flight. -/
theorem entered_eq (p : InPacket) (slot : Nat) (d : Dev) :
    d.entered p slot = { d with
      nv := { d.nv with
        eventSeq := (d.entered p slot).nv.eventSeq, journal := (d.entered p slot).nv.journal, journalWrites := d.nv.journalWrites + 1 }
      host := { d.host with
        masked := (d.entered p slot).host.masked, lost := (d.entered p slot).host.lost
        lostSince := (d.entered p slot).host.lostSince, out := (d.entered p slot).host.out
        held := (d.entered p slot).host.held
        flights := d.host.flights ++ [{ slot := slot, tag := p.tag, opcode := p.opcode }] } } := by
  unfold Dev.entered
  by_cases h : bitAt p.flags 0 ∧ ¬ queryOpcodes.contains p.opcode
  · simp only [if_pos h]
    conv => lhs; rw [raise_eq]
    conv => rhs; rw [raise_eq]
    rfl
  · simp only [if_neg h]
    rfl

/-- The device with a command in flight differs from the device before it in the event sequence, the journal and the host interface alone; its orders in flight are those before and the new one. -/
theorem taken_eq (h : CmdHead) (c : HostCmd) (slot : Nat) (d : Dev) :
    d.taken h c slot = { d with
      nv := { d.nv with
        eventSeq := (d.taken h c slot).nv.eventSeq, journal := (d.taken h c slot).nv.journal, journalWrites := d.nv.journalWrites + 2 }
      host := { d.host with
        masked := (d.taken h c slot).host.masked, lost := (d.taken h c slot).host.lost
        lostSince := (d.taken h c slot).host.lostSince, out := (d.taken h c slot).host.out
        held := (d.taken h c slot).host.held, standing := (d.taken h c slot).host.standing, lastValid := (d.taken h c slot).host.lastValid
        flights := d.host.flights ++ [{ slot := slot, tag := h.tag.toNat, opcode := opcodeOf c }] } } := by
  have hr := received_eq (packetOf h c) slot d
  have ht : d.taken h c slot = _ := entered_eq (packetOf h c) slot (d.received (packetOf h c) slot)
  change d.taken h c slot = _ at ht
  generalize d.received (packetOf h c) slot = r at hr ht
  generalize r.nv.eventSeq = a1, r.nv.journal = a2, r.host.masked = a3, r.host.lost = a4, r.host.lostSince = a5, r.host.out = a6,
    r.host.held = a7, r.host.standing = a8, r.host.lastValid = a9 at hr
  subst hr
  rw [ht]
  rfl

end Sys2Proof.Laws
end

