-- ==== Sys2Proof/Laws/Claims.lean ====
section
/-! SUPPORT. How the claims on rows are met: a row's gate, an event that acts, and a host command that arrives, is admitted and runs. -/

namespace Sys2Proof.Laws

open Sys2Proof.Machine

/-- A gate that holds lets the row act. -/
theorem whenReady_due (f : Dev → Dev) (d : Dev) (h : d.ready = true ∧ d.live = true) : d.whenReady f = f d := by unfold Dev.whenReady; rw [if_pos h]

/-- A gate that fails, or a row that then does nothing, leaves the device. -/
theorem whenReady_not (f : Dev → Dev) (d : Dev) (h : d.ready = true ∧ d.live = true → f d = d) : d.whenReady f = d := by
  unfold Dev.whenReady; split_ifs with k; exact h k; rfl

/-- A gate that holds lets the row act. -/
theorem whenLive_due (f : Dev → Dev) (d : Dev) (h : d.live = true) : d.whenLive f = f d := by unfold Dev.whenLive; rw [if_pos h]

/-- A gate that fails, or a row that then does nothing, leaves the device. -/
theorem whenLive_not (f : Dev → Dev) (d : Dev) (h : d.live = true → f d = d) : d.whenLive f = d := by
  unfold Dev.whenLive; split_ifs with k; exact h k; rfl

/-- A gate that holds lets the row act. -/
theorem whenBin_due (f : Dev → Dev) (d : Dev) (h : d.binRuns = true) : d.whenBin f = f d := by unfold Dev.whenBin; rw [if_pos h]

/-- A gate that fails, or a row that then does nothing, leaves the device. -/
theorem whenBin_not (f : Dev → Dev) (d : Dev) (h : d.binRuns = true → f d = d) : d.whenBin f = d := by
  unfold Dev.whenBin; split_ifs with k; exact h k; rfl

/-- A gate that holds lets the row act. -/
theorem whenBus_due (x : Nat) (f : Dev → Dev) (d : Dev) (h : x ≤ 1 ∧ 7 ≤ d.supply.step) : d.whenBus x f = f d := by unfold Dev.whenBus; rw [if_pos h]

/-- A gate that fails, or a row that then does nothing, leaves the device. -/
theorem whenBus_not (x : Nat) (f : Dev → Dev) (d : Dev) (h : x ≤ 1 ∧ 7 ≤ d.supply.step → f d = d) : d.whenBus x f = d := by
  unfold Dev.whenBus; split_ifs with k; exact h k; rfl

/-- A gate that holds lets the row act. -/
theorem whenPower_due (f : Dev → Dev) (d : Dev) (h : d.supply.vhv = true) : d.whenPower f = f d := by unfold Dev.whenPower; rw [if_pos h]

/-- A gate that fails, or a row that then does nothing, leaves the device. -/
theorem whenPower_not (f : Dev → Dev) (d : Dev) (h : d.supply.vhv = true → f d = d) : d.whenPower f = d := by
  unfold Dev.whenPower; split_ifs with k; exact h k; rfl

/-- A packet packed from a command whose body reads back carries that command. -/
theorem command_packetOf (h : CmdHead) (c : HostCmd) (hb : parseBody (opcodeOf c) (encodeBody c) = some c) (he : encodingOk c = true) (hk : knownOpcode (opcodeOf c) = true) (hl : (encodeBody c).length ≤ 1024) : (packetOf h c).command = .ok c := by
  have hn : bit h.note ≤ 1 := by unfold bit; split <;> simp
  have e1 : ¬ ((packetOf h c).body ≠ [] ∧ (packetOf h c).check ≠ crc32c (packetOf h c).body) := by
    simp only [packetOf]
    by_cases e : encodeBody c = [] <;> simp [e]
  have e2 : ¬ ((packetOf h c).reserved ≠ 0 ∨ 1 < (packetOf h c).flags) := by
    simp only [packetOf]; simp; exact hn
  have e3 : parseBody (packetOf h c).opcode (packetOf h c).body = some c := hb
  unfold InPacket.command
  rw [if_neg (by simpa [packetOf] using hl), if_neg (by simp [packetOf]), if_neg e1, if_neg e2, if_neg (by simpa [packetOf] using hk), e3]
  simp [he]
/-- The bytes that packed fields take. -/
theorem length_packFields (l : List (Nat × Nat)) : (packFields l).length = (l.map (·.1)).sum := by
  induction l with
  | nil => rfl
  | cons p t ih => obtain ⟨a,b⟩ := p; simp [packFields, ih]
/-- Every command's opcode is known. -/
theorem knownOpcode_opcodeOf (c : HostCmd) : knownOpcode (opcodeOf c) = true := by cases c <;> rfl
/-- A packable body fits a packet. -/
theorem length_encodeBody_le (c : HostCmd) (hw : wfCmd c = true) : (encodeBody c).length ≤ 1024 := by
  cases c
  all_goals simp only [encodeBody, List.length_append, length_packFields, length_packWords, length_packPairs, List.map, List.sum_cons, List.sum_nil, List.length_nil]
  all_goals simp only [wfCmd, between, Bool.and_eq_true, decide_eq_true_eq] at hw
  all_goals first
    | omega
    | skip
  case busFilterLoad b p f bs =>
    obtain ⟨_, h⟩ := hw
    by_cases hp : p = 0
    · subst hp; simp at h; simp [length_packFields, h]
    · simp [hp] at h; split <;> simp [length_packFields] <;> omega
/-- A row of a host command runs where its own guard lets it through on the device with the packet journalled, and where its effect is the one named; the body has to read back. -/
theorem runs_intro {i : Instr} {h : CmdHead} {c : HostCmd} {dt : Nat} {s : State} {ok : Dev → Prop} {eff : Nat → Dev → Dev}
    (hex : exec i s = .next { s with dev := (s.later dt).hostCommand h c })
    (hg : ∀ (d : Dev), ok d → ∀ es j jw m l ls o hd st lv,
      Dev.hostGuard c { d with nv := { d.nv with eventSeq := es, journal := j, journalWrites := jw }, host := { d.host with masked := m, lost := l, lostSince := ls, out := o, held := hd, standing := st, lastValid := lv } } = none)
    (hb : wfCmd c = true → parseBody (opcodeOf c) (encodeBody c) = some c)
    (he : ∀ slot (d : Dev), ok d → (d.taken h c slot).hostRun c slot = eff slot (d.taken h c slot)) : Runs i h c dt s ok eff := by
  intro slot ha hadm hok
  obtain ⟨ho, hw, henc, hf⟩ := ha
  obtain ⟨h1, h2, h3⟩ := hadm
  unfold Leaves
  rw [hex]
  have hr : ((s.later dt).received (packetOf h c) slot).refusal (packetOf h c) c = none := by
    have e := received_eq (packetOf h c) slot (s.later dt)
    have hgg := hg (s.later dt) hok ((s.later dt).received (packetOf h c) slot).nv.eventSeq ((s.later dt).received (packetOf h c) slot).nv.journal ((s.later dt).nv.journalWrites + 1) ((s.later dt).received (packetOf h c) slot).host.masked ((s.later dt).received (packetOf h c) slot).host.lost ((s.later dt).received (packetOf h c) slot).host.lostSince ((s.later dt).received (packetOf h c) slot).host.out ((s.later dt).received (packetOf h c) slot).host.held ((s.later dt).received (packetOf h c) slot).host.standing ((s.later dt).received (packetOf h c) slot).host.lastValid
    rw [← e] at hgg
    have eo : ((s.later dt).received (packetOf h c) slot).openFor (packetOf h c).opcode = true := by rw [e]; exact h1
    have ef : ((s.later dt).received (packetOf h c) slot).host.flights = (s.later dt).host.flights := by rw [e]
    simp only [Dev.refusal, refuseIf, eo, ef, hgg]
    rw [if_neg (by simp), if_neg (by simpa using h2), if_neg (by simp [packetOf]; intro x hx; exact decide_eq_false (h3 x hx))]
  have := receive_runs ho hf (command_packetOf h c (hb hw) henc (knownOpcode_opcodeOf c) (length_encodeBody_le c hw)) hr
  unfold Dev.hostCommand
  rw [this]
  congr 2
  exact he slot _ hok

/-- An event row acts where its gate holds and leaves the device else. -/
theorem acts_intro {i : Instr} {dt : Nat} {s : State} {due : Dev → Prop} {effect f : Dev → Dev} (e : exec i s = onDev dt f s)
    (h1 : ∀ d, due d → f d = effect d) (h2 : ∀ d, ¬ due d → f d = d) : Acts i dt s due effect := by
  constructor
  · intro h; unfold Leaves; rw [e]; unfold onDev; rw [show s.dev.advance dt = s.later dt from rfl, h1 _ h]
  · intro h; unfold Leaves; rw [e]; unfold onDev; rw [show s.dev.advance dt = s.later dt from rfl, h2 _ h]

/-- What a row leaves. -/
theorem leaves_intro {i : Instr} {dt : Nat} {s : State} {f : Dev → Dev} {x : Dev} (e : exec i s = onDev dt f s) (h : f (s.later dt) = x) : Leaves i s x := by
  unfold Leaves; rw [e]; unfold onDev; rw [show s.dev.advance dt = s.later dt from rfl, h]

/-- A row of a host command is refused where its own guard refuses it on the device with the packet journalled; the body has to read back. -/
theorem refuses_intro {i : Instr} {h : CmdHead} {c : HostCmd} {dt : Nat} {s : State} {why : Dev → Prop} {status : Nat} {data : List Byte}
    (hex : exec i s = .next { s with dev := (s.later dt).hostCommand h c })
    (hg : ∀ (d : Dev), why d → ∀ es j jw m l ls o hd st lv,
      Dev.hostGuard c { d with nv := { d.nv with eventSeq := es, journal := j, journalWrites := jw }, host := { d.host with masked := m, lost := l, lostSince := ls, out := o, held := hd, standing := st, lastValid := lv } } = some (status, data))
    (hb : wfCmd c = true → parseBody (opcodeOf c) (encodeBody c) = some c) :
    Refuses i h c dt s why status data := by
  intro slot ha hadm hok
  obtain ⟨ho, hw, henc, hf⟩ := ha
  obtain ⟨h1, h2, h3⟩ := hadm
  unfold Leaves
  rw [hex]
  have hr : ((s.later dt).received (packetOf h c) slot).refusal (packetOf h c) c = some (status, data) := by
    have e := received_eq (packetOf h c) slot (s.later dt)
    have hgg := hg (s.later dt) hok ((s.later dt).received (packetOf h c) slot).nv.eventSeq ((s.later dt).received (packetOf h c) slot).nv.journal ((s.later dt).nv.journalWrites + 1) ((s.later dt).received (packetOf h c) slot).host.masked ((s.later dt).received (packetOf h c) slot).host.lost ((s.later dt).received (packetOf h c) slot).host.lostSince ((s.later dt).received (packetOf h c) slot).host.out ((s.later dt).received (packetOf h c) slot).host.held ((s.later dt).received (packetOf h c) slot).host.standing ((s.later dt).received (packetOf h c) slot).host.lastValid
    rw [← e] at hgg
    have eo : ((s.later dt).received (packetOf h c) slot).openFor (packetOf h c).opcode = true := by rw [e]; exact h1
    have ef : ((s.later dt).received (packetOf h c) slot).host.flights = (s.later dt).host.flights := by rw [e]
    simp only [Dev.refusal, refuseIf, eo, ef, hgg]
    rw [if_neg (by simp), if_neg (by simpa using h2), if_neg (by simp [packetOf]; intro x hx; exact decide_eq_false (h3 x hx))]
  have := receive_refused ho hf (command_packetOf h c (hb hw) henc (knownOpcode_opcodeOf c) (length_encodeBody_le c hw)) hr
  unfold Dev.hostCommand
  rw [this]

end Sys2Proof.Laws
end

