-- ==== Sys2Proof/Laws/Frames.lean ====
section
/-! SUPPORT. What events and replies leave of the parts of the device that they do not touch: all but the host interface and the memory that outlives a reset. -/

namespace Sys2Proof.Machine

/-! ### raise -/

@[simp] theorem Dev.raise_now (src sev subject : Nat) (fields : List Byte) (d : Dev) : (d.raise src sev subject fields).now = d.now := (congrArg Dev.now (Laws.raise_eq src sev subject fields d) :)
@[simp] theorem Dev.raise_draws (src sev subject : Nat) (fields : List Byte) (d : Dev) : (d.raise src sev subject fields).draws = d.draws := (congrArg Dev.draws (Laws.raise_eq src sev subject fields d) :)
@[simp] theorem Dev.raise_supply (src sev subject : Nat) (fields : List Byte) (d : Dev) : (d.raise src sev subject fields).supply = d.supply := (congrArg Dev.supply (Laws.raise_eq src sev subject fields d) :)
@[simp] theorem Dev.raise_prm (src sev subject : Nat) (fields : List Byte) (d : Dev) : (d.raise src sev subject fields).prm = d.prm := (congrArg Dev.prm (Laws.raise_eq src sev subject fields d) :)
@[simp] theorem Dev.raise_fw (src sev subject : Nat) (fields : List Byte) (d : Dev) : (d.raise src sev subject fields).fw = d.fw := (congrArg Dev.fw (Laws.raise_eq src sev subject fields d) :)
@[simp] theorem Dev.raise_door (src sev subject : Nat) (fields : List Byte) (d : Dev) : (d.raise src sev subject fields).door = d.door := (congrArg Dev.door (Laws.raise_eq src sev subject fields d) :)
@[simp] theorem Dev.raise_leaf (src sev subject : Nat) (fields : List Byte) (d : Dev) : (d.raise src sev subject fields).leaf = d.leaf := (congrArg Dev.leaf (Laws.raise_eq src sev subject fields d) :)
@[simp] theorem Dev.raise_step (src sev subject : Nat) (fields : List Byte) (d : Dev) : (d.raise src sev subject fields).step = d.step := (congrArg Dev.step (Laws.raise_eq src sev subject fields d) :)
@[simp] theorem Dev.raise_pilot (src sev subject : Nat) (fields : List Byte) (d : Dev) : (d.raise src sev subject fields).pilot = d.pilot := (congrArg Dev.pilot (Laws.raise_eq src sev subject fields d) :)
@[simp] theorem Dev.raise_sext (src sev subject : Nat) (fields : List Byte) (d : Dev) : (d.raise src sev subject fields).sext = d.sext := (congrArg Dev.sext (Laws.raise_eq src sev subject fields d) :)
@[simp] theorem Dev.raise_drive (src sev subject : Nat) (fields : List Byte) (d : Dev) : (d.raise src sev subject fields).drive = d.drive := (congrArg Dev.drive (Laws.raise_eq src sev subject fields d) :)
@[simp] theorem Dev.raise_skin (src sev subject : Nat) (fields : List Byte) (d : Dev) : (d.raise src sev subject fields).skin = d.skin := (congrArg Dev.skin (Laws.raise_eq src sev subject fields d) :)
@[simp] theorem Dev.raise_obst (src sev subject : Nat) (fields : List Byte) (d : Dev) : (d.raise src sev subject fields).obst = d.obst := (congrArg Dev.obst (Laws.raise_eq src sev subject fields d) :)
@[simp] theorem Dev.raise_load (src sev subject : Nat) (fields : List Byte) (d : Dev) : (d.raise src sev subject fields).load = d.load := (congrArg Dev.load (Laws.raise_eq src sev subject fields d) :)
@[simp] theorem Dev.raise_bin (src sev subject : Nat) (fields : List Byte) (d : Dev) : (d.raise src sev subject fields).bin = d.bin := (congrArg Dev.bin (Laws.raise_eq src sev subject fields d) :)
@[simp] theorem Dev.raise_bus (src sev subject : Nat) (fields : List Byte) (d : Dev) : (d.raise src sev subject fields).bus = d.bus := (congrArg Dev.bus (Laws.raise_eq src sev subject fields d) :)
@[simp] theorem Dev.raise_chron (src sev subject : Nat) (fields : List Byte) (d : Dev) : (d.raise src sev subject fields).chron = d.chron := (congrArg Dev.chron (Laws.raise_eq src sev subject fields d) :)
@[simp] theorem Dev.raise_log (src sev subject : Nat) (fields : List Byte) (d : Dev) : (d.raise src sev subject fields).log = d.log := (congrArg Dev.log (Laws.raise_eq src sev subject fields d) :)

/-! ### onset -/

@[simp] theorem Dev.onset_now (src sev subject : Nat) (fields : List Byte) (d : Dev) : (d.onset src sev subject fields).now = d.now := (congrArg Dev.now (Laws.onset_eq src sev subject fields d) :)
@[simp] theorem Dev.onset_draws (src sev subject : Nat) (fields : List Byte) (d : Dev) : (d.onset src sev subject fields).draws = d.draws := (congrArg Dev.draws (Laws.onset_eq src sev subject fields d) :)
@[simp] theorem Dev.onset_supply (src sev subject : Nat) (fields : List Byte) (d : Dev) : (d.onset src sev subject fields).supply = d.supply := (congrArg Dev.supply (Laws.onset_eq src sev subject fields d) :)
@[simp] theorem Dev.onset_prm (src sev subject : Nat) (fields : List Byte) (d : Dev) : (d.onset src sev subject fields).prm = d.prm := (congrArg Dev.prm (Laws.onset_eq src sev subject fields d) :)
@[simp] theorem Dev.onset_fw (src sev subject : Nat) (fields : List Byte) (d : Dev) : (d.onset src sev subject fields).fw = d.fw := (congrArg Dev.fw (Laws.onset_eq src sev subject fields d) :)
@[simp] theorem Dev.onset_door (src sev subject : Nat) (fields : List Byte) (d : Dev) : (d.onset src sev subject fields).door = d.door := (congrArg Dev.door (Laws.onset_eq src sev subject fields d) :)
@[simp] theorem Dev.onset_leaf (src sev subject : Nat) (fields : List Byte) (d : Dev) : (d.onset src sev subject fields).leaf = d.leaf := (congrArg Dev.leaf (Laws.onset_eq src sev subject fields d) :)
@[simp] theorem Dev.onset_step (src sev subject : Nat) (fields : List Byte) (d : Dev) : (d.onset src sev subject fields).step = d.step := (congrArg Dev.step (Laws.onset_eq src sev subject fields d) :)
@[simp] theorem Dev.onset_pilot (src sev subject : Nat) (fields : List Byte) (d : Dev) : (d.onset src sev subject fields).pilot = d.pilot := (congrArg Dev.pilot (Laws.onset_eq src sev subject fields d) :)
@[simp] theorem Dev.onset_sext (src sev subject : Nat) (fields : List Byte) (d : Dev) : (d.onset src sev subject fields).sext = d.sext := (congrArg Dev.sext (Laws.onset_eq src sev subject fields d) :)
@[simp] theorem Dev.onset_drive (src sev subject : Nat) (fields : List Byte) (d : Dev) : (d.onset src sev subject fields).drive = d.drive := (congrArg Dev.drive (Laws.onset_eq src sev subject fields d) :)
@[simp] theorem Dev.onset_skin (src sev subject : Nat) (fields : List Byte) (d : Dev) : (d.onset src sev subject fields).skin = d.skin := (congrArg Dev.skin (Laws.onset_eq src sev subject fields d) :)
@[simp] theorem Dev.onset_obst (src sev subject : Nat) (fields : List Byte) (d : Dev) : (d.onset src sev subject fields).obst = d.obst := (congrArg Dev.obst (Laws.onset_eq src sev subject fields d) :)
@[simp] theorem Dev.onset_load (src sev subject : Nat) (fields : List Byte) (d : Dev) : (d.onset src sev subject fields).load = d.load := (congrArg Dev.load (Laws.onset_eq src sev subject fields d) :)
@[simp] theorem Dev.onset_bin (src sev subject : Nat) (fields : List Byte) (d : Dev) : (d.onset src sev subject fields).bin = d.bin := (congrArg Dev.bin (Laws.onset_eq src sev subject fields d) :)
@[simp] theorem Dev.onset_bus (src sev subject : Nat) (fields : List Byte) (d : Dev) : (d.onset src sev subject fields).bus = d.bus := (congrArg Dev.bus (Laws.onset_eq src sev subject fields d) :)
@[simp] theorem Dev.onset_chron (src sev subject : Nat) (fields : List Byte) (d : Dev) : (d.onset src sev subject fields).chron = d.chron := (congrArg Dev.chron (Laws.onset_eq src sev subject fields d) :)
@[simp] theorem Dev.onset_log (src sev subject : Nat) (fields : List Byte) (d : Dev) : (d.onset src sev subject fields).log = d.log := (congrArg Dev.log (Laws.onset_eq src sev subject fields d) :)

/-! ### clearing -/

@[simp] theorem Dev.clearing_now (src subject : Nat) (fields : List Byte) (d : Dev) : (d.clearing src subject fields).now = d.now := (congrArg Dev.now (Laws.clearing_eq src subject fields d) :)
@[simp] theorem Dev.clearing_draws (src subject : Nat) (fields : List Byte) (d : Dev) : (d.clearing src subject fields).draws = d.draws := (congrArg Dev.draws (Laws.clearing_eq src subject fields d) :)
@[simp] theorem Dev.clearing_supply (src subject : Nat) (fields : List Byte) (d : Dev) : (d.clearing src subject fields).supply = d.supply := (congrArg Dev.supply (Laws.clearing_eq src subject fields d) :)
@[simp] theorem Dev.clearing_prm (src subject : Nat) (fields : List Byte) (d : Dev) : (d.clearing src subject fields).prm = d.prm := (congrArg Dev.prm (Laws.clearing_eq src subject fields d) :)
@[simp] theorem Dev.clearing_fw (src subject : Nat) (fields : List Byte) (d : Dev) : (d.clearing src subject fields).fw = d.fw := (congrArg Dev.fw (Laws.clearing_eq src subject fields d) :)
@[simp] theorem Dev.clearing_door (src subject : Nat) (fields : List Byte) (d : Dev) : (d.clearing src subject fields).door = d.door := (congrArg Dev.door (Laws.clearing_eq src subject fields d) :)
@[simp] theorem Dev.clearing_leaf (src subject : Nat) (fields : List Byte) (d : Dev) : (d.clearing src subject fields).leaf = d.leaf := (congrArg Dev.leaf (Laws.clearing_eq src subject fields d) :)
@[simp] theorem Dev.clearing_step (src subject : Nat) (fields : List Byte) (d : Dev) : (d.clearing src subject fields).step = d.step := (congrArg Dev.step (Laws.clearing_eq src subject fields d) :)
@[simp] theorem Dev.clearing_pilot (src subject : Nat) (fields : List Byte) (d : Dev) : (d.clearing src subject fields).pilot = d.pilot := (congrArg Dev.pilot (Laws.clearing_eq src subject fields d) :)
@[simp] theorem Dev.clearing_sext (src subject : Nat) (fields : List Byte) (d : Dev) : (d.clearing src subject fields).sext = d.sext := (congrArg Dev.sext (Laws.clearing_eq src subject fields d) :)
@[simp] theorem Dev.clearing_drive (src subject : Nat) (fields : List Byte) (d : Dev) : (d.clearing src subject fields).drive = d.drive := (congrArg Dev.drive (Laws.clearing_eq src subject fields d) :)
@[simp] theorem Dev.clearing_skin (src subject : Nat) (fields : List Byte) (d : Dev) : (d.clearing src subject fields).skin = d.skin := (congrArg Dev.skin (Laws.clearing_eq src subject fields d) :)
@[simp] theorem Dev.clearing_obst (src subject : Nat) (fields : List Byte) (d : Dev) : (d.clearing src subject fields).obst = d.obst := (congrArg Dev.obst (Laws.clearing_eq src subject fields d) :)
@[simp] theorem Dev.clearing_load (src subject : Nat) (fields : List Byte) (d : Dev) : (d.clearing src subject fields).load = d.load := (congrArg Dev.load (Laws.clearing_eq src subject fields d) :)
@[simp] theorem Dev.clearing_bin (src subject : Nat) (fields : List Byte) (d : Dev) : (d.clearing src subject fields).bin = d.bin := (congrArg Dev.bin (Laws.clearing_eq src subject fields d) :)
@[simp] theorem Dev.clearing_bus (src subject : Nat) (fields : List Byte) (d : Dev) : (d.clearing src subject fields).bus = d.bus := (congrArg Dev.bus (Laws.clearing_eq src subject fields d) :)
@[simp] theorem Dev.clearing_chron (src subject : Nat) (fields : List Byte) (d : Dev) : (d.clearing src subject fields).chron = d.chron := (congrArg Dev.chron (Laws.clearing_eq src subject fields d) :)
@[simp] theorem Dev.clearing_log (src subject : Nat) (fields : List Byte) (d : Dev) : (d.clearing src subject fields).log = d.log := (congrArg Dev.log (Laws.clearing_eq src subject fields d) :)

/-! ### endStanding -/

@[simp] theorem Dev.endStanding_now (src subject : Nat) (d : Dev) : (d.endStanding src subject).now = d.now := rfl
@[simp] theorem Dev.endStanding_draws (src subject : Nat) (d : Dev) : (d.endStanding src subject).draws = d.draws := rfl
@[simp] theorem Dev.endStanding_supply (src subject : Nat) (d : Dev) : (d.endStanding src subject).supply = d.supply := rfl
@[simp] theorem Dev.endStanding_prm (src subject : Nat) (d : Dev) : (d.endStanding src subject).prm = d.prm := rfl
@[simp] theorem Dev.endStanding_fw (src subject : Nat) (d : Dev) : (d.endStanding src subject).fw = d.fw := rfl
@[simp] theorem Dev.endStanding_door (src subject : Nat) (d : Dev) : (d.endStanding src subject).door = d.door := rfl
@[simp] theorem Dev.endStanding_leaf (src subject : Nat) (d : Dev) : (d.endStanding src subject).leaf = d.leaf := rfl
@[simp] theorem Dev.endStanding_step (src subject : Nat) (d : Dev) : (d.endStanding src subject).step = d.step := rfl
@[simp] theorem Dev.endStanding_pilot (src subject : Nat) (d : Dev) : (d.endStanding src subject).pilot = d.pilot := rfl
@[simp] theorem Dev.endStanding_sext (src subject : Nat) (d : Dev) : (d.endStanding src subject).sext = d.sext := rfl
@[simp] theorem Dev.endStanding_drive (src subject : Nat) (d : Dev) : (d.endStanding src subject).drive = d.drive := rfl
@[simp] theorem Dev.endStanding_skin (src subject : Nat) (d : Dev) : (d.endStanding src subject).skin = d.skin := rfl
@[simp] theorem Dev.endStanding_obst (src subject : Nat) (d : Dev) : (d.endStanding src subject).obst = d.obst := rfl
@[simp] theorem Dev.endStanding_load (src subject : Nat) (d : Dev) : (d.endStanding src subject).load = d.load := rfl
@[simp] theorem Dev.endStanding_bin (src subject : Nat) (d : Dev) : (d.endStanding src subject).bin = d.bin := rfl
@[simp] theorem Dev.endStanding_bus (src subject : Nat) (d : Dev) : (d.endStanding src subject).bus = d.bus := rfl
@[simp] theorem Dev.endStanding_chron (src subject : Nat) (d : Dev) : (d.endStanding src subject).chron = d.chron := rfl
@[simp] theorem Dev.endStanding_log (src subject : Nat) (d : Dev) : (d.endStanding src subject).log = d.log := rfl

/-! ### progress -/

@[simp] theorem Dev.progress_now (slot n : Nat) (d : Dev) : (d.progress slot n).now = d.now := (congrArg Dev.now (Laws.putEntry_eq slot _ d) :)
@[simp] theorem Dev.progress_draws (slot n : Nat) (d : Dev) : (d.progress slot n).draws = d.draws := (congrArg Dev.draws (Laws.putEntry_eq slot _ d) :)
@[simp] theorem Dev.progress_supply (slot n : Nat) (d : Dev) : (d.progress slot n).supply = d.supply := (congrArg Dev.supply (Laws.putEntry_eq slot _ d) :)
@[simp] theorem Dev.progress_prm (slot n : Nat) (d : Dev) : (d.progress slot n).prm = d.prm := (congrArg Dev.prm (Laws.putEntry_eq slot _ d) :)
@[simp] theorem Dev.progress_fw (slot n : Nat) (d : Dev) : (d.progress slot n).fw = d.fw := (congrArg Dev.fw (Laws.putEntry_eq slot _ d) :)
@[simp] theorem Dev.progress_door (slot n : Nat) (d : Dev) : (d.progress slot n).door = d.door := (congrArg Dev.door (Laws.putEntry_eq slot _ d) :)
@[simp] theorem Dev.progress_leaf (slot n : Nat) (d : Dev) : (d.progress slot n).leaf = d.leaf := (congrArg Dev.leaf (Laws.putEntry_eq slot _ d) :)
@[simp] theorem Dev.progress_step (slot n : Nat) (d : Dev) : (d.progress slot n).step = d.step := (congrArg Dev.step (Laws.putEntry_eq slot _ d) :)
@[simp] theorem Dev.progress_pilot (slot n : Nat) (d : Dev) : (d.progress slot n).pilot = d.pilot := (congrArg Dev.pilot (Laws.putEntry_eq slot _ d) :)
@[simp] theorem Dev.progress_sext (slot n : Nat) (d : Dev) : (d.progress slot n).sext = d.sext := (congrArg Dev.sext (Laws.putEntry_eq slot _ d) :)
@[simp] theorem Dev.progress_drive (slot n : Nat) (d : Dev) : (d.progress slot n).drive = d.drive := (congrArg Dev.drive (Laws.putEntry_eq slot _ d) :)
@[simp] theorem Dev.progress_skin (slot n : Nat) (d : Dev) : (d.progress slot n).skin = d.skin := (congrArg Dev.skin (Laws.putEntry_eq slot _ d) :)
@[simp] theorem Dev.progress_obst (slot n : Nat) (d : Dev) : (d.progress slot n).obst = d.obst := (congrArg Dev.obst (Laws.putEntry_eq slot _ d) :)
@[simp] theorem Dev.progress_load (slot n : Nat) (d : Dev) : (d.progress slot n).load = d.load := (congrArg Dev.load (Laws.putEntry_eq slot _ d) :)
@[simp] theorem Dev.progress_bin (slot n : Nat) (d : Dev) : (d.progress slot n).bin = d.bin := (congrArg Dev.bin (Laws.putEntry_eq slot _ d) :)
@[simp] theorem Dev.progress_bus (slot n : Nat) (d : Dev) : (d.progress slot n).bus = d.bus := (congrArg Dev.bus (Laws.putEntry_eq slot _ d) :)
@[simp] theorem Dev.progress_chron (slot n : Nat) (d : Dev) : (d.progress slot n).chron = d.chron := (congrArg Dev.chron (Laws.putEntry_eq slot _ d) :)
@[simp] theorem Dev.progress_log (slot n : Nat) (d : Dev) : (d.progress slot n).log = d.log := (congrArg Dev.log (Laws.putEntry_eq slot _ d) :)

/-! ### reply -/

@[simp] theorem Dev.reply_now (slot status : Nat) (data : List Byte) (d : Dev) : (d.reply slot status data).now = d.now := (congrArg Dev.now (Laws.reply_eq slot status data d) :)
@[simp] theorem Dev.reply_draws (slot status : Nat) (data : List Byte) (d : Dev) : (d.reply slot status data).draws = d.draws := (congrArg Dev.draws (Laws.reply_eq slot status data d) :)
@[simp] theorem Dev.reply_supply (slot status : Nat) (data : List Byte) (d : Dev) : (d.reply slot status data).supply = d.supply := (congrArg Dev.supply (Laws.reply_eq slot status data d) :)
@[simp] theorem Dev.reply_prm (slot status : Nat) (data : List Byte) (d : Dev) : (d.reply slot status data).prm = d.prm := (congrArg Dev.prm (Laws.reply_eq slot status data d) :)
@[simp] theorem Dev.reply_fw (slot status : Nat) (data : List Byte) (d : Dev) : (d.reply slot status data).fw = d.fw := (congrArg Dev.fw (Laws.reply_eq slot status data d) :)
@[simp] theorem Dev.reply_door (slot status : Nat) (data : List Byte) (d : Dev) : (d.reply slot status data).door = d.door := (congrArg Dev.door (Laws.reply_eq slot status data d) :)
@[simp] theorem Dev.reply_leaf (slot status : Nat) (data : List Byte) (d : Dev) : (d.reply slot status data).leaf = d.leaf := (congrArg Dev.leaf (Laws.reply_eq slot status data d) :)
@[simp] theorem Dev.reply_step (slot status : Nat) (data : List Byte) (d : Dev) : (d.reply slot status data).step = d.step := (congrArg Dev.step (Laws.reply_eq slot status data d) :)
@[simp] theorem Dev.reply_pilot (slot status : Nat) (data : List Byte) (d : Dev) : (d.reply slot status data).pilot = d.pilot := (congrArg Dev.pilot (Laws.reply_eq slot status data d) :)
@[simp] theorem Dev.reply_sext (slot status : Nat) (data : List Byte) (d : Dev) : (d.reply slot status data).sext = d.sext := (congrArg Dev.sext (Laws.reply_eq slot status data d) :)
@[simp] theorem Dev.reply_drive (slot status : Nat) (data : List Byte) (d : Dev) : (d.reply slot status data).drive = d.drive := (congrArg Dev.drive (Laws.reply_eq slot status data d) :)
@[simp] theorem Dev.reply_skin (slot status : Nat) (data : List Byte) (d : Dev) : (d.reply slot status data).skin = d.skin := (congrArg Dev.skin (Laws.reply_eq slot status data d) :)
@[simp] theorem Dev.reply_obst (slot status : Nat) (data : List Byte) (d : Dev) : (d.reply slot status data).obst = d.obst := (congrArg Dev.obst (Laws.reply_eq slot status data d) :)
@[simp] theorem Dev.reply_load (slot status : Nat) (data : List Byte) (d : Dev) : (d.reply slot status data).load = d.load := (congrArg Dev.load (Laws.reply_eq slot status data d) :)
@[simp] theorem Dev.reply_bin (slot status : Nat) (data : List Byte) (d : Dev) : (d.reply slot status data).bin = d.bin := (congrArg Dev.bin (Laws.reply_eq slot status data d) :)
@[simp] theorem Dev.reply_bus (slot status : Nat) (data : List Byte) (d : Dev) : (d.reply slot status data).bus = d.bus := (congrArg Dev.bus (Laws.reply_eq slot status data d) :)
@[simp] theorem Dev.reply_chron (slot status : Nat) (data : List Byte) (d : Dev) : (d.reply slot status data).chron = d.chron := (congrArg Dev.chron (Laws.reply_eq slot status data d) :)
@[simp] theorem Dev.reply_log (slot status : Nat) (data : List Byte) (d : Dev) : (d.reply slot status data).log = d.log := (congrArg Dev.log (Laws.reply_eq slot status data d) :)

/-! ### done -/

@[simp] theorem Dev.done_now (slot : Nat) (data : List Byte) (d : Dev) : (d.done slot data).now = d.now := (congrArg Dev.now (Laws.reply_eq slot 0x00 data d) :)
@[simp] theorem Dev.done_draws (slot : Nat) (data : List Byte) (d : Dev) : (d.done slot data).draws = d.draws := (congrArg Dev.draws (Laws.reply_eq slot 0x00 data d) :)
@[simp] theorem Dev.done_supply (slot : Nat) (data : List Byte) (d : Dev) : (d.done slot data).supply = d.supply := (congrArg Dev.supply (Laws.reply_eq slot 0x00 data d) :)
@[simp] theorem Dev.done_prm (slot : Nat) (data : List Byte) (d : Dev) : (d.done slot data).prm = d.prm := (congrArg Dev.prm (Laws.reply_eq slot 0x00 data d) :)
@[simp] theorem Dev.done_fw (slot : Nat) (data : List Byte) (d : Dev) : (d.done slot data).fw = d.fw := (congrArg Dev.fw (Laws.reply_eq slot 0x00 data d) :)
@[simp] theorem Dev.done_door (slot : Nat) (data : List Byte) (d : Dev) : (d.done slot data).door = d.door := (congrArg Dev.door (Laws.reply_eq slot 0x00 data d) :)
@[simp] theorem Dev.done_leaf (slot : Nat) (data : List Byte) (d : Dev) : (d.done slot data).leaf = d.leaf := (congrArg Dev.leaf (Laws.reply_eq slot 0x00 data d) :)
@[simp] theorem Dev.done_step (slot : Nat) (data : List Byte) (d : Dev) : (d.done slot data).step = d.step := (congrArg Dev.step (Laws.reply_eq slot 0x00 data d) :)
@[simp] theorem Dev.done_pilot (slot : Nat) (data : List Byte) (d : Dev) : (d.done slot data).pilot = d.pilot := (congrArg Dev.pilot (Laws.reply_eq slot 0x00 data d) :)
@[simp] theorem Dev.done_sext (slot : Nat) (data : List Byte) (d : Dev) : (d.done slot data).sext = d.sext := (congrArg Dev.sext (Laws.reply_eq slot 0x00 data d) :)
@[simp] theorem Dev.done_drive (slot : Nat) (data : List Byte) (d : Dev) : (d.done slot data).drive = d.drive := (congrArg Dev.drive (Laws.reply_eq slot 0x00 data d) :)
@[simp] theorem Dev.done_skin (slot : Nat) (data : List Byte) (d : Dev) : (d.done slot data).skin = d.skin := (congrArg Dev.skin (Laws.reply_eq slot 0x00 data d) :)
@[simp] theorem Dev.done_obst (slot : Nat) (data : List Byte) (d : Dev) : (d.done slot data).obst = d.obst := (congrArg Dev.obst (Laws.reply_eq slot 0x00 data d) :)
@[simp] theorem Dev.done_load (slot : Nat) (data : List Byte) (d : Dev) : (d.done slot data).load = d.load := (congrArg Dev.load (Laws.reply_eq slot 0x00 data d) :)
@[simp] theorem Dev.done_bin (slot : Nat) (data : List Byte) (d : Dev) : (d.done slot data).bin = d.bin := (congrArg Dev.bin (Laws.reply_eq slot 0x00 data d) :)
@[simp] theorem Dev.done_bus (slot : Nat) (data : List Byte) (d : Dev) : (d.done slot data).bus = d.bus := (congrArg Dev.bus (Laws.reply_eq slot 0x00 data d) :)
@[simp] theorem Dev.done_chron (slot : Nat) (data : List Byte) (d : Dev) : (d.done slot data).chron = d.chron := (congrArg Dev.chron (Laws.reply_eq slot 0x00 data d) :)
@[simp] theorem Dev.done_log (slot : Nat) (data : List Byte) (d : Dev) : (d.done slot data).log = d.log := (congrArg Dev.log (Laws.reply_eq slot 0x00 data d) :)

/-! ### replyTo -/

@[simp] theorem Dev.replyTo_now (slot : Option Nat) (status : Nat) (data : List Byte) (d : Dev) : (d.replyTo slot status data).now = d.now := by
  cases slot <;> simp [Dev.replyTo]
@[simp] theorem Dev.replyTo_draws (slot : Option Nat) (status : Nat) (data : List Byte) (d : Dev) : (d.replyTo slot status data).draws = d.draws := by
  cases slot <;> simp [Dev.replyTo]
@[simp] theorem Dev.replyTo_supply (slot : Option Nat) (status : Nat) (data : List Byte) (d : Dev) : (d.replyTo slot status data).supply = d.supply := by
  cases slot <;> simp [Dev.replyTo]
@[simp] theorem Dev.replyTo_prm (slot : Option Nat) (status : Nat) (data : List Byte) (d : Dev) : (d.replyTo slot status data).prm = d.prm := by
  cases slot <;> simp [Dev.replyTo]
@[simp] theorem Dev.replyTo_fw (slot : Option Nat) (status : Nat) (data : List Byte) (d : Dev) : (d.replyTo slot status data).fw = d.fw := by
  cases slot <;> simp [Dev.replyTo]
@[simp] theorem Dev.replyTo_door (slot : Option Nat) (status : Nat) (data : List Byte) (d : Dev) : (d.replyTo slot status data).door = d.door := by
  cases slot <;> simp [Dev.replyTo]
@[simp] theorem Dev.replyTo_leaf (slot : Option Nat) (status : Nat) (data : List Byte) (d : Dev) : (d.replyTo slot status data).leaf = d.leaf := by
  cases slot <;> simp [Dev.replyTo]
@[simp] theorem Dev.replyTo_step (slot : Option Nat) (status : Nat) (data : List Byte) (d : Dev) : (d.replyTo slot status data).step = d.step := by
  cases slot <;> simp [Dev.replyTo]
@[simp] theorem Dev.replyTo_pilot (slot : Option Nat) (status : Nat) (data : List Byte) (d : Dev) : (d.replyTo slot status data).pilot = d.pilot := by
  cases slot <;> simp [Dev.replyTo]
@[simp] theorem Dev.replyTo_sext (slot : Option Nat) (status : Nat) (data : List Byte) (d : Dev) : (d.replyTo slot status data).sext = d.sext := by
  cases slot <;> simp [Dev.replyTo]
@[simp] theorem Dev.replyTo_drive (slot : Option Nat) (status : Nat) (data : List Byte) (d : Dev) : (d.replyTo slot status data).drive = d.drive := by
  cases slot <;> simp [Dev.replyTo]
@[simp] theorem Dev.replyTo_skin (slot : Option Nat) (status : Nat) (data : List Byte) (d : Dev) : (d.replyTo slot status data).skin = d.skin := by
  cases slot <;> simp [Dev.replyTo]
@[simp] theorem Dev.replyTo_obst (slot : Option Nat) (status : Nat) (data : List Byte) (d : Dev) : (d.replyTo slot status data).obst = d.obst := by
  cases slot <;> simp [Dev.replyTo]
@[simp] theorem Dev.replyTo_load (slot : Option Nat) (status : Nat) (data : List Byte) (d : Dev) : (d.replyTo slot status data).load = d.load := by
  cases slot <;> simp [Dev.replyTo]
@[simp] theorem Dev.replyTo_bin (slot : Option Nat) (status : Nat) (data : List Byte) (d : Dev) : (d.replyTo slot status data).bin = d.bin := by
  cases slot <;> simp [Dev.replyTo]
@[simp] theorem Dev.replyTo_bus (slot : Option Nat) (status : Nat) (data : List Byte) (d : Dev) : (d.replyTo slot status data).bus = d.bus := by
  cases slot <;> simp [Dev.replyTo]
@[simp] theorem Dev.replyTo_chron (slot : Option Nat) (status : Nat) (data : List Byte) (d : Dev) : (d.replyTo slot status data).chron = d.chron := by
  cases slot <;> simp [Dev.replyTo]
@[simp] theorem Dev.replyTo_log (slot : Option Nat) (status : Nat) (data : List Byte) (d : Dev) : (d.replyTo slot status data).log = d.log := by
  cases slot <;> simp [Dev.replyTo]
end Sys2Proof.Machine
end

