-- ==== Sys2Proof/Laws/Memory.lean ====
section
/-! SUPPORT. Tables and addressed memory: what a write leaves to be read, that every write keeps the canonical form, and what a change of one entry of a list leaves. -/

namespace Sys2Proof.Laws

open Sys2Proof.Machine

variable {α : Type}

/-! ### Sorted tables -/

/-- A table in canonical form above a key is in canonical form above every lower one. -/
theorem swfFrom_mono [DecidableEq α] {d : α} {lo hi : Nat} {t : List (Nat × α)} (h : lo ≤ hi) (w : swfFrom d hi t = true) : swfFrom d lo t = true := by
  cases t with
  | nil => rfl
  | cons p t =>
    simp only [swfFrom, Bool.and_eq_true, decide_eq_true_eq] at w ⊢
    exact ⟨⟨Nat.le_trans h w.1.1, w.1.2⟩, w.2⟩

/-- A key below every entry reads as the default. -/
theorem sget_below [DecidableEq α] {d : α} {k lo : Nat} {t : List (Nat × α)} (h : k < lo) (w : swfFrom d lo t = true) : sget d k t = d := by
  cases t with
  | nil => rfl
  | cons p t =>
    simp only [swfFrom, Bool.and_eq_true, decide_eq_true_eq] at w
    have h1 := w.1.1
    unfold sget
    rw [if_neg (by omega), if_pos (by omega)]

/-- Writing keeps the canonical form, above any key not above the one written. -/
theorem swfFrom_sset [DecidableEq α] {d : α} {k lo : Nat} (v : α) {t : List (Nat × α)} (h : lo ≤ k) (w : swfFrom d lo t = true) :
    swfFrom d lo (sset d k v t) = true := by
  induction t generalizing lo with
  | nil =>
    unfold sset scons
    split
    · rfl
    · next hv => simp [swfFrom, h, hv]
  | cons p t ih =>
    obtain ⟨a, x⟩ := p
    have w' := w
    simp only [swfFrom, Bool.and_eq_true, decide_eq_true_eq] at w'
    obtain ⟨⟨h1, h2⟩, h3⟩ := w'
    unfold sset
    split
    · unfold scons
      split
      · exact w
      · next hk hv => simp [swfFrom, h, hv, h2, h3, Nat.succ_le_of_lt hk]
    · split
      · next _ hk =>
        subst hk
        unfold scons
        split
        · exact swfFrom_mono (by omega) h3
        · next hv => simp [swfFrom, h, hv, h3]
      · simp only [swfFrom, Bool.and_eq_true, decide_eq_true_eq]
        exact ⟨⟨h1, h2⟩, ih (by omega) h3⟩

/-- Writing keeps the canonical form. -/
theorem swf_sset [DecidableEq α] {d : α} (k : Nat) (v : α) {t : List (Nat × α)} (w : swf d t = true) : swf d (sset d k v t) = true :=
  swfFrom_sset v (Nat.zero_le k) w

/-- A key reads back what was written to it. -/
theorem sget_sset_same [DecidableEq α] {d : α} {k lo : Nat} (v : α) {t : List (Nat × α)} (w : swfFrom d lo t = true) : sget d k (sset d k v t) = v := by
  induction t generalizing lo with
  | nil =>
    unfold sset scons
    split
    · next hv => simp [sget, hv]
    · simp [sget]
  | cons p t ih =>
    obtain ⟨a, x⟩ := p
    have w' := w
    simp only [swfFrom, Bool.and_eq_true, decide_eq_true_eq] at w'
    unfold sset
    split
    · next hk =>
      unfold scons
      split
      · next hv => unfold sget; rw [if_neg (by omega), if_pos hk, hv]
      · simp [sget]
    · split
      · next _ hk =>
        subst hk
        unfold scons
        split
        · next hv => rw [sget_below (Nat.lt_succ_self k) w'.2, hv]
        · simp [sget]
      · next h1 h2 =>
        unfold sget
        rw [if_neg h2, if_neg h1]
        exact ih w'.2

/-- Every other key reads as before. -/
theorem sget_sset_ne [DecidableEq α] {d : α} {j k lo : Nat} (v : α) {t : List (Nat × α)} (h : j ≠ k) (w : swfFrom d lo t = true) :
    sget d j (sset d k v t) = sget d j t := by
  induction t generalizing lo with
  | nil =>
    unfold sset scons
    split
    · rfl
    · simp [sget, h]
  | cons p t ih =>
    obtain ⟨a, x⟩ := p
    have w' := w
    simp only [swfFrom, Bool.and_eq_true, decide_eq_true_eq] at w'
    unfold sset
    split
    · next hk =>
      unfold scons
      split
      · rfl
      · simp only [sget]
        rw [if_neg h]
        split
        · next hjk => rw [if_neg (by omega), if_pos (by omega)]
        · rfl
    · split
      · next _ hk =>
        subst hk
        have e : sget d j ((k, x) :: t) = if j < k then d else sget d j t := by simp [sget, h]
        rw [e]
        unfold scons
        split
        · split
          · next hj => rw [sget_below (Nat.lt_succ_of_lt hj) w'.2]
          · rfl
        · simp [sget, h]
      · simp only [sget]
        rw [ih w'.2]

/-! ### Addressed memory -/

/-- Reset memory lists nothing, which is canonical. -/
theorem reset_memory_wf : Memory.wf State.reset.dev.nv.main = true := rfl

/-- One byte written keeps the canonical form. -/
theorem memWrite_wf {m : List Host.Cell} (a : Nat) (b : Byte) (w : Memory.wf m = true) : Memory.wf (memWrite m a b) = true := swf_sset a b w

/-- A run of bytes written keeps the canonical form. -/
theorem memStore_wf (bs : List Byte) (m : List Host.Cell) (a : Nat) (w : Memory.wf m = true) : Memory.wf (memStore m a bs) = true := by
  induction bs generalizing m a with
  | nil => exact w
  | cons b bs ih => exact ih _ _ (memWrite_wf a b w)

/-- The byte written reads back. -/
theorem memRead_memWrite_same {m : List Host.Cell} (a : Nat) (b : Byte) (w : Memory.wf m = true) : memRead (memWrite m a b) a = b :=
  sget_sset_same b w

/-- Every other byte reads as before. -/
theorem memRead_memWrite_ne {m : List Host.Cell} {a j : Nat} (b : Byte) (h : j ≠ a) (w : Memory.wf m = true) :
    memRead (memWrite m a b) j = memRead m j := sget_sset_ne b h w

/-! ### Lists of a fixed number of like things -/

@[simp] theorem length_modAt (f : α → α) (n : Nat) (l : List α) : (modAt f n l).length = l.length := by
  induction l generalizing n with
  | nil => cases n <;> rfl
  | cons a t ih => cases n <;> simp [modAt, ih]

@[simp] theorem length_setAt (n : Nat) (v : α) (l : List α) : (setAt n v l).length = l.length := length_modAt _ n l

/-- An entry after a change of one entry. -/
theorem getD_modAt (f : α → α) (x : α) (l : List α) (n m : Nat) (h : n < l.length) :
    (modAt f n l).getD m x = if m = n then f (l.getD n x) else l.getD m x := by
  induction l generalizing n m with
  | nil => simp at h
  | cons a t ih =>
    cases n with
    | zero => cases m <;> simp [modAt]
    | succ n =>
      cases m with
      | zero => simp [modAt]
      | succ m => simpa [modAt] using ih n m (by simpa using h)

/-- A change past the end changes nothing. -/
theorem modAt_past (f : α → α) (l : List α) (n : Nat) (h : l.length ≤ n) : modAt f n l = l := by
  induction l generalizing n with
  | nil => cases n <;> rfl
  | cons a t ih =>
    cases n with
    | zero => simp at h
    | succ n => simp [modAt, ih n (by simpa using h)]

end Sys2Proof.Laws
end

