-- ==== Sys2Proof/Laws/State.lean ====
section
/-! SUPPORT. What each update of one part of the device leaves of every part: one lemma per part and update, true by definition. -/

namespace Sys2Proof.Machine

/-! ### modBin -/

@[simp] theorem Dev.modBin_now (f : Binnacle → Binnacle) (d : Dev) : (d.modBin f).now = d.now := rfl
@[simp] theorem Dev.modBin_draws (f : Binnacle → Binnacle) (d : Dev) : (d.modBin f).draws = d.draws := rfl
@[simp] theorem Dev.modBin_nv (f : Binnacle → Binnacle) (d : Dev) : (d.modBin f).nv = d.nv := rfl
@[simp] theorem Dev.modBin_supply (f : Binnacle → Binnacle) (d : Dev) : (d.modBin f).supply = d.supply := rfl
@[simp] theorem Dev.modBin_host (f : Binnacle → Binnacle) (d : Dev) : (d.modBin f).host = d.host := rfl
@[simp] theorem Dev.modBin_prm (f : Binnacle → Binnacle) (d : Dev) : (d.modBin f).prm = d.prm := rfl
@[simp] theorem Dev.modBin_fw (f : Binnacle → Binnacle) (d : Dev) : (d.modBin f).fw = d.fw := rfl
@[simp] theorem Dev.modBin_door (f : Binnacle → Binnacle) (d : Dev) : (d.modBin f).door = d.door := rfl
@[simp] theorem Dev.modBin_leaf (f : Binnacle → Binnacle) (d : Dev) : (d.modBin f).leaf = d.leaf := rfl
@[simp] theorem Dev.modBin_step (f : Binnacle → Binnacle) (d : Dev) : (d.modBin f).step = d.step := rfl
@[simp] theorem Dev.modBin_pilot (f : Binnacle → Binnacle) (d : Dev) : (d.modBin f).pilot = d.pilot := rfl
@[simp] theorem Dev.modBin_sext (f : Binnacle → Binnacle) (d : Dev) : (d.modBin f).sext = d.sext := rfl
@[simp] theorem Dev.modBin_drive (f : Binnacle → Binnacle) (d : Dev) : (d.modBin f).drive = d.drive := rfl
@[simp] theorem Dev.modBin_skin (f : Binnacle → Binnacle) (d : Dev) : (d.modBin f).skin = d.skin := rfl
@[simp] theorem Dev.modBin_obst (f : Binnacle → Binnacle) (d : Dev) : (d.modBin f).obst = d.obst := rfl
@[simp] theorem Dev.modBin_load (f : Binnacle → Binnacle) (d : Dev) : (d.modBin f).load = d.load := rfl
@[simp] theorem Dev.modBin_bin (f : Binnacle → Binnacle) (d : Dev) : (d.modBin f).bin = f d.bin := rfl
@[simp] theorem Dev.modBin_bus (f : Binnacle → Binnacle) (d : Dev) : (d.modBin f).bus = d.bus := rfl
@[simp] theorem Dev.modBin_chron (f : Binnacle → Binnacle) (d : Dev) : (d.modBin f).chron = d.chron := rfl
@[simp] theorem Dev.modBin_log (f : Binnacle → Binnacle) (d : Dev) : (d.modBin f).log = d.log := rfl

/-! ### modDrive -/

@[simp] theorem Dev.modDrive_now (f : Drive → Drive) (d : Dev) : (d.modDrive f).now = d.now := rfl
@[simp] theorem Dev.modDrive_draws (f : Drive → Drive) (d : Dev) : (d.modDrive f).draws = d.draws := rfl
@[simp] theorem Dev.modDrive_nv (f : Drive → Drive) (d : Dev) : (d.modDrive f).nv = d.nv := rfl
@[simp] theorem Dev.modDrive_supply (f : Drive → Drive) (d : Dev) : (d.modDrive f).supply = d.supply := rfl
@[simp] theorem Dev.modDrive_host (f : Drive → Drive) (d : Dev) : (d.modDrive f).host = d.host := rfl
@[simp] theorem Dev.modDrive_prm (f : Drive → Drive) (d : Dev) : (d.modDrive f).prm = d.prm := rfl
@[simp] theorem Dev.modDrive_fw (f : Drive → Drive) (d : Dev) : (d.modDrive f).fw = d.fw := rfl
@[simp] theorem Dev.modDrive_door (f : Drive → Drive) (d : Dev) : (d.modDrive f).door = d.door := rfl
@[simp] theorem Dev.modDrive_leaf (f : Drive → Drive) (d : Dev) : (d.modDrive f).leaf = d.leaf := rfl
@[simp] theorem Dev.modDrive_step (f : Drive → Drive) (d : Dev) : (d.modDrive f).step = d.step := rfl
@[simp] theorem Dev.modDrive_pilot (f : Drive → Drive) (d : Dev) : (d.modDrive f).pilot = d.pilot := rfl
@[simp] theorem Dev.modDrive_sext (f : Drive → Drive) (d : Dev) : (d.modDrive f).sext = d.sext := rfl
@[simp] theorem Dev.modDrive_drive (f : Drive → Drive) (d : Dev) : (d.modDrive f).drive = f d.drive := rfl
@[simp] theorem Dev.modDrive_skin (f : Drive → Drive) (d : Dev) : (d.modDrive f).skin = d.skin := rfl
@[simp] theorem Dev.modDrive_obst (f : Drive → Drive) (d : Dev) : (d.modDrive f).obst = d.obst := rfl
@[simp] theorem Dev.modDrive_load (f : Drive → Drive) (d : Dev) : (d.modDrive f).load = d.load := rfl
@[simp] theorem Dev.modDrive_bin (f : Drive → Drive) (d : Dev) : (d.modDrive f).bin = d.bin := rfl
@[simp] theorem Dev.modDrive_bus (f : Drive → Drive) (d : Dev) : (d.modDrive f).bus = d.bus := rfl
@[simp] theorem Dev.modDrive_chron (f : Drive → Drive) (d : Dev) : (d.modDrive f).chron = d.chron := rfl
@[simp] theorem Dev.modDrive_log (f : Drive → Drive) (d : Dev) : (d.modDrive f).log = d.log := rfl

/-! ### modLeg -/

@[simp] theorem Dev.modLeg_now (n : Nat) (f : Leg → Leg) (d : Dev) : (d.modLeg n f).now = d.now := rfl
@[simp] theorem Dev.modLeg_draws (n : Nat) (f : Leg → Leg) (d : Dev) : (d.modLeg n f).draws = d.draws := rfl
@[simp] theorem Dev.modLeg_nv (n : Nat) (f : Leg → Leg) (d : Dev) : (d.modLeg n f).nv = d.nv := rfl
@[simp] theorem Dev.modLeg_supply (n : Nat) (f : Leg → Leg) (d : Dev) : (d.modLeg n f).supply = d.supply := rfl
@[simp] theorem Dev.modLeg_host (n : Nat) (f : Leg → Leg) (d : Dev) : (d.modLeg n f).host = d.host := rfl
@[simp] theorem Dev.modLeg_prm (n : Nat) (f : Leg → Leg) (d : Dev) : (d.modLeg n f).prm = d.prm := rfl
@[simp] theorem Dev.modLeg_fw (n : Nat) (f : Leg → Leg) (d : Dev) : (d.modLeg n f).fw = d.fw := rfl
@[simp] theorem Dev.modLeg_door (n : Nat) (f : Leg → Leg) (d : Dev) : (d.modLeg n f).door = d.door := rfl
@[simp] theorem Dev.modLeg_leaf (n : Nat) (f : Leg → Leg) (d : Dev) : (d.modLeg n f).leaf = d.leaf := rfl
@[simp] theorem Dev.modLeg_step (n : Nat) (f : Leg → Leg) (d : Dev) : (d.modLeg n f).step = d.step := rfl
@[simp] theorem Dev.modLeg_pilot (n : Nat) (f : Leg → Leg) (d : Dev) : (d.modLeg n f).pilot = d.pilot := rfl
@[simp] theorem Dev.modLeg_sext (n : Nat) (f : Leg → Leg) (d : Dev) : (d.modLeg n f).sext = d.sext := rfl
@[simp] theorem Dev.modLeg_drive (n : Nat) (f : Leg → Leg) (d : Dev) : (d.modLeg n f).drive = { d.drive with legs := modAt f n d.drive.legs } := rfl
@[simp] theorem Dev.modLeg_skin (n : Nat) (f : Leg → Leg) (d : Dev) : (d.modLeg n f).skin = d.skin := rfl
@[simp] theorem Dev.modLeg_obst (n : Nat) (f : Leg → Leg) (d : Dev) : (d.modLeg n f).obst = d.obst := rfl
@[simp] theorem Dev.modLeg_load (n : Nat) (f : Leg → Leg) (d : Dev) : (d.modLeg n f).load = d.load := rfl
@[simp] theorem Dev.modLeg_bin (n : Nat) (f : Leg → Leg) (d : Dev) : (d.modLeg n f).bin = d.bin := rfl
@[simp] theorem Dev.modLeg_bus (n : Nat) (f : Leg → Leg) (d : Dev) : (d.modLeg n f).bus = d.bus := rfl
@[simp] theorem Dev.modLeg_chron (n : Nat) (f : Leg → Leg) (d : Dev) : (d.modLeg n f).chron = d.chron := rfl
@[simp] theorem Dev.modLeg_log (n : Nat) (f : Leg → Leg) (d : Dev) : (d.modLeg n f).log = d.log := rfl

/-! ### modObst -/

@[simp] theorem Dev.modObst_now (f : Obstacle → Obstacle) (d : Dev) : (d.modObst f).now = d.now := rfl
@[simp] theorem Dev.modObst_draws (f : Obstacle → Obstacle) (d : Dev) : (d.modObst f).draws = d.draws := rfl
@[simp] theorem Dev.modObst_nv (f : Obstacle → Obstacle) (d : Dev) : (d.modObst f).nv = d.nv := rfl
@[simp] theorem Dev.modObst_supply (f : Obstacle → Obstacle) (d : Dev) : (d.modObst f).supply = d.supply := rfl
@[simp] theorem Dev.modObst_host (f : Obstacle → Obstacle) (d : Dev) : (d.modObst f).host = d.host := rfl
@[simp] theorem Dev.modObst_prm (f : Obstacle → Obstacle) (d : Dev) : (d.modObst f).prm = d.prm := rfl
@[simp] theorem Dev.modObst_fw (f : Obstacle → Obstacle) (d : Dev) : (d.modObst f).fw = d.fw := rfl
@[simp] theorem Dev.modObst_door (f : Obstacle → Obstacle) (d : Dev) : (d.modObst f).door = d.door := rfl
@[simp] theorem Dev.modObst_leaf (f : Obstacle → Obstacle) (d : Dev) : (d.modObst f).leaf = d.leaf := rfl
@[simp] theorem Dev.modObst_step (f : Obstacle → Obstacle) (d : Dev) : (d.modObst f).step = d.step := rfl
@[simp] theorem Dev.modObst_pilot (f : Obstacle → Obstacle) (d : Dev) : (d.modObst f).pilot = d.pilot := rfl
@[simp] theorem Dev.modObst_sext (f : Obstacle → Obstacle) (d : Dev) : (d.modObst f).sext = d.sext := rfl
@[simp] theorem Dev.modObst_drive (f : Obstacle → Obstacle) (d : Dev) : (d.modObst f).drive = d.drive := rfl
@[simp] theorem Dev.modObst_skin (f : Obstacle → Obstacle) (d : Dev) : (d.modObst f).skin = d.skin := rfl
@[simp] theorem Dev.modObst_obst (f : Obstacle → Obstacle) (d : Dev) : (d.modObst f).obst = f d.obst := rfl
@[simp] theorem Dev.modObst_load (f : Obstacle → Obstacle) (d : Dev) : (d.modObst f).load = d.load := rfl
@[simp] theorem Dev.modObst_bin (f : Obstacle → Obstacle) (d : Dev) : (d.modObst f).bin = d.bin := rfl
@[simp] theorem Dev.modObst_bus (f : Obstacle → Obstacle) (d : Dev) : (d.modObst f).bus = d.bus := rfl
@[simp] theorem Dev.modObst_chron (f : Obstacle → Obstacle) (d : Dev) : (d.modObst f).chron = d.chron := rfl
@[simp] theorem Dev.modObst_log (f : Obstacle → Obstacle) (d : Dev) : (d.modObst f).log = d.log := rfl

/-! ### modSext -/

@[simp] theorem Dev.modSext_now (f : Sextant → Sextant) (d : Dev) : (d.modSext f).now = d.now := rfl
@[simp] theorem Dev.modSext_draws (f : Sextant → Sextant) (d : Dev) : (d.modSext f).draws = d.draws := rfl
@[simp] theorem Dev.modSext_nv (f : Sextant → Sextant) (d : Dev) : (d.modSext f).nv = d.nv := rfl
@[simp] theorem Dev.modSext_supply (f : Sextant → Sextant) (d : Dev) : (d.modSext f).supply = d.supply := rfl
@[simp] theorem Dev.modSext_host (f : Sextant → Sextant) (d : Dev) : (d.modSext f).host = d.host := rfl
@[simp] theorem Dev.modSext_prm (f : Sextant → Sextant) (d : Dev) : (d.modSext f).prm = d.prm := rfl
@[simp] theorem Dev.modSext_fw (f : Sextant → Sextant) (d : Dev) : (d.modSext f).fw = d.fw := rfl
@[simp] theorem Dev.modSext_door (f : Sextant → Sextant) (d : Dev) : (d.modSext f).door = d.door := rfl
@[simp] theorem Dev.modSext_leaf (f : Sextant → Sextant) (d : Dev) : (d.modSext f).leaf = d.leaf := rfl
@[simp] theorem Dev.modSext_step (f : Sextant → Sextant) (d : Dev) : (d.modSext f).step = d.step := rfl
@[simp] theorem Dev.modSext_pilot (f : Sextant → Sextant) (d : Dev) : (d.modSext f).pilot = d.pilot := rfl
@[simp] theorem Dev.modSext_sext (f : Sextant → Sextant) (d : Dev) : (d.modSext f).sext = f d.sext := rfl
@[simp] theorem Dev.modSext_drive (f : Sextant → Sextant) (d : Dev) : (d.modSext f).drive = d.drive := rfl
@[simp] theorem Dev.modSext_skin (f : Sextant → Sextant) (d : Dev) : (d.modSext f).skin = d.skin := rfl
@[simp] theorem Dev.modSext_obst (f : Sextant → Sextant) (d : Dev) : (d.modSext f).obst = d.obst := rfl
@[simp] theorem Dev.modSext_load (f : Sextant → Sextant) (d : Dev) : (d.modSext f).load = d.load := rfl
@[simp] theorem Dev.modSext_bin (f : Sextant → Sextant) (d : Dev) : (d.modSext f).bin = d.bin := rfl
@[simp] theorem Dev.modSext_bus (f : Sextant → Sextant) (d : Dev) : (d.modSext f).bus = d.bus := rfl
@[simp] theorem Dev.modSext_chron (f : Sextant → Sextant) (d : Dev) : (d.modSext f).chron = d.chron := rfl
@[simp] theorem Dev.modSext_log (f : Sextant → Sextant) (d : Dev) : (d.modSext f).log = d.log := rfl

/-! ### modPilot -/

@[simp] theorem Dev.modPilot_now (f : Pilot → Pilot) (d : Dev) : (d.modPilot f).now = d.now := rfl
@[simp] theorem Dev.modPilot_draws (f : Pilot → Pilot) (d : Dev) : (d.modPilot f).draws = d.draws := rfl
@[simp] theorem Dev.modPilot_nv (f : Pilot → Pilot) (d : Dev) : (d.modPilot f).nv = d.nv := rfl
@[simp] theorem Dev.modPilot_supply (f : Pilot → Pilot) (d : Dev) : (d.modPilot f).supply = d.supply := rfl
@[simp] theorem Dev.modPilot_host (f : Pilot → Pilot) (d : Dev) : (d.modPilot f).host = d.host := rfl
@[simp] theorem Dev.modPilot_prm (f : Pilot → Pilot) (d : Dev) : (d.modPilot f).prm = d.prm := rfl
@[simp] theorem Dev.modPilot_fw (f : Pilot → Pilot) (d : Dev) : (d.modPilot f).fw = d.fw := rfl
@[simp] theorem Dev.modPilot_door (f : Pilot → Pilot) (d : Dev) : (d.modPilot f).door = d.door := rfl
@[simp] theorem Dev.modPilot_leaf (f : Pilot → Pilot) (d : Dev) : (d.modPilot f).leaf = d.leaf := rfl
@[simp] theorem Dev.modPilot_step (f : Pilot → Pilot) (d : Dev) : (d.modPilot f).step = d.step := rfl
@[simp] theorem Dev.modPilot_pilot (f : Pilot → Pilot) (d : Dev) : (d.modPilot f).pilot = f d.pilot := rfl
@[simp] theorem Dev.modPilot_sext (f : Pilot → Pilot) (d : Dev) : (d.modPilot f).sext = d.sext := rfl
@[simp] theorem Dev.modPilot_drive (f : Pilot → Pilot) (d : Dev) : (d.modPilot f).drive = d.drive := rfl
@[simp] theorem Dev.modPilot_skin (f : Pilot → Pilot) (d : Dev) : (d.modPilot f).skin = d.skin := rfl
@[simp] theorem Dev.modPilot_obst (f : Pilot → Pilot) (d : Dev) : (d.modPilot f).obst = d.obst := rfl
@[simp] theorem Dev.modPilot_load (f : Pilot → Pilot) (d : Dev) : (d.modPilot f).load = d.load := rfl
@[simp] theorem Dev.modPilot_bin (f : Pilot → Pilot) (d : Dev) : (d.modPilot f).bin = d.bin := rfl
@[simp] theorem Dev.modPilot_bus (f : Pilot → Pilot) (d : Dev) : (d.modPilot f).bus = d.bus := rfl
@[simp] theorem Dev.modPilot_chron (f : Pilot → Pilot) (d : Dev) : (d.modPilot f).chron = d.chron := rfl
@[simp] theorem Dev.modPilot_log (f : Pilot → Pilot) (d : Dev) : (d.modPilot f).log = d.log := rfl

/-! ### modLeaf -/

@[simp] theorem Dev.modLeaf_now (f : LeafPlan → LeafPlan) (d : Dev) : (d.modLeaf f).now = d.now := rfl
@[simp] theorem Dev.modLeaf_draws (f : LeafPlan → LeafPlan) (d : Dev) : (d.modLeaf f).draws = d.draws := rfl
@[simp] theorem Dev.modLeaf_nv (f : LeafPlan → LeafPlan) (d : Dev) : (d.modLeaf f).nv = d.nv := rfl
@[simp] theorem Dev.modLeaf_supply (f : LeafPlan → LeafPlan) (d : Dev) : (d.modLeaf f).supply = d.supply := rfl
@[simp] theorem Dev.modLeaf_host (f : LeafPlan → LeafPlan) (d : Dev) : (d.modLeaf f).host = d.host := rfl
@[simp] theorem Dev.modLeaf_prm (f : LeafPlan → LeafPlan) (d : Dev) : (d.modLeaf f).prm = d.prm := rfl
@[simp] theorem Dev.modLeaf_fw (f : LeafPlan → LeafPlan) (d : Dev) : (d.modLeaf f).fw = d.fw := rfl
@[simp] theorem Dev.modLeaf_door (f : LeafPlan → LeafPlan) (d : Dev) : (d.modLeaf f).door = d.door := rfl
@[simp] theorem Dev.modLeaf_leaf (f : LeafPlan → LeafPlan) (d : Dev) : (d.modLeaf f).leaf = f d.leaf := rfl
@[simp] theorem Dev.modLeaf_step (f : LeafPlan → LeafPlan) (d : Dev) : (d.modLeaf f).step = d.step := rfl
@[simp] theorem Dev.modLeaf_pilot (f : LeafPlan → LeafPlan) (d : Dev) : (d.modLeaf f).pilot = d.pilot := rfl
@[simp] theorem Dev.modLeaf_sext (f : LeafPlan → LeafPlan) (d : Dev) : (d.modLeaf f).sext = d.sext := rfl
@[simp] theorem Dev.modLeaf_drive (f : LeafPlan → LeafPlan) (d : Dev) : (d.modLeaf f).drive = d.drive := rfl
@[simp] theorem Dev.modLeaf_skin (f : LeafPlan → LeafPlan) (d : Dev) : (d.modLeaf f).skin = d.skin := rfl
@[simp] theorem Dev.modLeaf_obst (f : LeafPlan → LeafPlan) (d : Dev) : (d.modLeaf f).obst = d.obst := rfl
@[simp] theorem Dev.modLeaf_load (f : LeafPlan → LeafPlan) (d : Dev) : (d.modLeaf f).load = d.load := rfl
@[simp] theorem Dev.modLeaf_bin (f : LeafPlan → LeafPlan) (d : Dev) : (d.modLeaf f).bin = d.bin := rfl
@[simp] theorem Dev.modLeaf_bus (f : LeafPlan → LeafPlan) (d : Dev) : (d.modLeaf f).bus = d.bus := rfl
@[simp] theorem Dev.modLeaf_chron (f : LeafPlan → LeafPlan) (d : Dev) : (d.modLeaf f).chron = d.chron := rfl
@[simp] theorem Dev.modLeaf_log (f : LeafPlan → LeafPlan) (d : Dev) : (d.modLeaf f).log = d.log := rfl

/-! ### modStep -/

@[simp] theorem Dev.modStep_now (f : StepPlan → StepPlan) (d : Dev) : (d.modStep f).now = d.now := rfl
@[simp] theorem Dev.modStep_draws (f : StepPlan → StepPlan) (d : Dev) : (d.modStep f).draws = d.draws := rfl
@[simp] theorem Dev.modStep_nv (f : StepPlan → StepPlan) (d : Dev) : (d.modStep f).nv = d.nv := rfl
@[simp] theorem Dev.modStep_supply (f : StepPlan → StepPlan) (d : Dev) : (d.modStep f).supply = d.supply := rfl
@[simp] theorem Dev.modStep_host (f : StepPlan → StepPlan) (d : Dev) : (d.modStep f).host = d.host := rfl
@[simp] theorem Dev.modStep_prm (f : StepPlan → StepPlan) (d : Dev) : (d.modStep f).prm = d.prm := rfl
@[simp] theorem Dev.modStep_fw (f : StepPlan → StepPlan) (d : Dev) : (d.modStep f).fw = d.fw := rfl
@[simp] theorem Dev.modStep_door (f : StepPlan → StepPlan) (d : Dev) : (d.modStep f).door = d.door := rfl
@[simp] theorem Dev.modStep_leaf (f : StepPlan → StepPlan) (d : Dev) : (d.modStep f).leaf = d.leaf := rfl
@[simp] theorem Dev.modStep_step (f : StepPlan → StepPlan) (d : Dev) : (d.modStep f).step = f d.step := rfl
@[simp] theorem Dev.modStep_pilot (f : StepPlan → StepPlan) (d : Dev) : (d.modStep f).pilot = d.pilot := rfl
@[simp] theorem Dev.modStep_sext (f : StepPlan → StepPlan) (d : Dev) : (d.modStep f).sext = d.sext := rfl
@[simp] theorem Dev.modStep_drive (f : StepPlan → StepPlan) (d : Dev) : (d.modStep f).drive = d.drive := rfl
@[simp] theorem Dev.modStep_skin (f : StepPlan → StepPlan) (d : Dev) : (d.modStep f).skin = d.skin := rfl
@[simp] theorem Dev.modStep_obst (f : StepPlan → StepPlan) (d : Dev) : (d.modStep f).obst = d.obst := rfl
@[simp] theorem Dev.modStep_load (f : StepPlan → StepPlan) (d : Dev) : (d.modStep f).load = d.load := rfl
@[simp] theorem Dev.modStep_bin (f : StepPlan → StepPlan) (d : Dev) : (d.modStep f).bin = d.bin := rfl
@[simp] theorem Dev.modStep_bus (f : StepPlan → StepPlan) (d : Dev) : (d.modStep f).bus = d.bus := rfl
@[simp] theorem Dev.modStep_chron (f : StepPlan → StepPlan) (d : Dev) : (d.modStep f).chron = d.chron := rfl
@[simp] theorem Dev.modStep_log (f : StepPlan → StepPlan) (d : Dev) : (d.modStep f).log = d.log := rfl

/-! ### modDoor -/

@[simp] theorem Dev.modDoor_now (f : Door → Door) (d : Dev) : (d.modDoor f).now = d.now := rfl
@[simp] theorem Dev.modDoor_draws (f : Door → Door) (d : Dev) : (d.modDoor f).draws = d.draws := rfl
@[simp] theorem Dev.modDoor_nv (f : Door → Door) (d : Dev) : (d.modDoor f).nv = d.nv := rfl
@[simp] theorem Dev.modDoor_supply (f : Door → Door) (d : Dev) : (d.modDoor f).supply = d.supply := rfl
@[simp] theorem Dev.modDoor_host (f : Door → Door) (d : Dev) : (d.modDoor f).host = d.host := rfl
@[simp] theorem Dev.modDoor_prm (f : Door → Door) (d : Dev) : (d.modDoor f).prm = d.prm := rfl
@[simp] theorem Dev.modDoor_fw (f : Door → Door) (d : Dev) : (d.modDoor f).fw = d.fw := rfl
@[simp] theorem Dev.modDoor_door (f : Door → Door) (d : Dev) : (d.modDoor f).door = f d.door := rfl
@[simp] theorem Dev.modDoor_leaf (f : Door → Door) (d : Dev) : (d.modDoor f).leaf = d.leaf := rfl
@[simp] theorem Dev.modDoor_step (f : Door → Door) (d : Dev) : (d.modDoor f).step = d.step := rfl
@[simp] theorem Dev.modDoor_pilot (f : Door → Door) (d : Dev) : (d.modDoor f).pilot = d.pilot := rfl
@[simp] theorem Dev.modDoor_sext (f : Door → Door) (d : Dev) : (d.modDoor f).sext = d.sext := rfl
@[simp] theorem Dev.modDoor_drive (f : Door → Door) (d : Dev) : (d.modDoor f).drive = d.drive := rfl
@[simp] theorem Dev.modDoor_skin (f : Door → Door) (d : Dev) : (d.modDoor f).skin = d.skin := rfl
@[simp] theorem Dev.modDoor_obst (f : Door → Door) (d : Dev) : (d.modDoor f).obst = d.obst := rfl
@[simp] theorem Dev.modDoor_load (f : Door → Door) (d : Dev) : (d.modDoor f).load = d.load := rfl
@[simp] theorem Dev.modDoor_bin (f : Door → Door) (d : Dev) : (d.modDoor f).bin = d.bin := rfl
@[simp] theorem Dev.modDoor_bus (f : Door → Door) (d : Dev) : (d.modDoor f).bus = d.bus := rfl
@[simp] theorem Dev.modDoor_chron (f : Door → Door) (d : Dev) : (d.modDoor f).chron = d.chron := rfl
@[simp] theorem Dev.modDoor_log (f : Door → Door) (d : Dev) : (d.modDoor f).log = d.log := rfl

/-! ### modSkin -/

@[simp] theorem Dev.modSkin_now (f : Skin → Skin) (d : Dev) : (d.modSkin f).now = d.now := rfl
@[simp] theorem Dev.modSkin_draws (f : Skin → Skin) (d : Dev) : (d.modSkin f).draws = d.draws := rfl
@[simp] theorem Dev.modSkin_nv (f : Skin → Skin) (d : Dev) : (d.modSkin f).nv = d.nv := rfl
@[simp] theorem Dev.modSkin_supply (f : Skin → Skin) (d : Dev) : (d.modSkin f).supply = d.supply := rfl
@[simp] theorem Dev.modSkin_host (f : Skin → Skin) (d : Dev) : (d.modSkin f).host = d.host := rfl
@[simp] theorem Dev.modSkin_prm (f : Skin → Skin) (d : Dev) : (d.modSkin f).prm = d.prm := rfl
@[simp] theorem Dev.modSkin_fw (f : Skin → Skin) (d : Dev) : (d.modSkin f).fw = d.fw := rfl
@[simp] theorem Dev.modSkin_door (f : Skin → Skin) (d : Dev) : (d.modSkin f).door = d.door := rfl
@[simp] theorem Dev.modSkin_leaf (f : Skin → Skin) (d : Dev) : (d.modSkin f).leaf = d.leaf := rfl
@[simp] theorem Dev.modSkin_step (f : Skin → Skin) (d : Dev) : (d.modSkin f).step = d.step := rfl
@[simp] theorem Dev.modSkin_pilot (f : Skin → Skin) (d : Dev) : (d.modSkin f).pilot = d.pilot := rfl
@[simp] theorem Dev.modSkin_sext (f : Skin → Skin) (d : Dev) : (d.modSkin f).sext = d.sext := rfl
@[simp] theorem Dev.modSkin_drive (f : Skin → Skin) (d : Dev) : (d.modSkin f).drive = d.drive := rfl
@[simp] theorem Dev.modSkin_skin (f : Skin → Skin) (d : Dev) : (d.modSkin f).skin = f d.skin := rfl
@[simp] theorem Dev.modSkin_obst (f : Skin → Skin) (d : Dev) : (d.modSkin f).obst = d.obst := rfl
@[simp] theorem Dev.modSkin_load (f : Skin → Skin) (d : Dev) : (d.modSkin f).load = d.load := rfl
@[simp] theorem Dev.modSkin_bin (f : Skin → Skin) (d : Dev) : (d.modSkin f).bin = d.bin := rfl
@[simp] theorem Dev.modSkin_bus (f : Skin → Skin) (d : Dev) : (d.modSkin f).bus = d.bus := rfl
@[simp] theorem Dev.modSkin_chron (f : Skin → Skin) (d : Dev) : (d.modSkin f).chron = d.chron := rfl
@[simp] theorem Dev.modSkin_log (f : Skin → Skin) (d : Dev) : (d.modSkin f).log = d.log := rfl

/-! ### modPort -/

@[simp] theorem Dev.modPort_now (n : Nat) (f : Port → Port) (d : Dev) : (d.modPort n f).now = d.now := rfl
@[simp] theorem Dev.modPort_draws (n : Nat) (f : Port → Port) (d : Dev) : (d.modPort n f).draws = d.draws := rfl
@[simp] theorem Dev.modPort_nv (n : Nat) (f : Port → Port) (d : Dev) : (d.modPort n f).nv = d.nv := rfl
@[simp] theorem Dev.modPort_supply (n : Nat) (f : Port → Port) (d : Dev) : (d.modPort n f).supply = d.supply := rfl
@[simp] theorem Dev.modPort_host (n : Nat) (f : Port → Port) (d : Dev) : (d.modPort n f).host = d.host := rfl
@[simp] theorem Dev.modPort_prm (n : Nat) (f : Port → Port) (d : Dev) : (d.modPort n f).prm = d.prm := rfl
@[simp] theorem Dev.modPort_fw (n : Nat) (f : Port → Port) (d : Dev) : (d.modPort n f).fw = d.fw := rfl
@[simp] theorem Dev.modPort_door (n : Nat) (f : Port → Port) (d : Dev) : (d.modPort n f).door = d.door := rfl
@[simp] theorem Dev.modPort_leaf (n : Nat) (f : Port → Port) (d : Dev) : (d.modPort n f).leaf = d.leaf := rfl
@[simp] theorem Dev.modPort_step (n : Nat) (f : Port → Port) (d : Dev) : (d.modPort n f).step = d.step := rfl
@[simp] theorem Dev.modPort_pilot (n : Nat) (f : Port → Port) (d : Dev) : (d.modPort n f).pilot = d.pilot := rfl
@[simp] theorem Dev.modPort_sext (n : Nat) (f : Port → Port) (d : Dev) : (d.modPort n f).sext = d.sext := rfl
@[simp] theorem Dev.modPort_drive (n : Nat) (f : Port → Port) (d : Dev) : (d.modPort n f).drive = d.drive := rfl
@[simp] theorem Dev.modPort_skin (n : Nat) (f : Port → Port) (d : Dev) : (d.modPort n f).skin = { d.skin with ports := modAt f n d.skin.ports } := rfl
@[simp] theorem Dev.modPort_obst (n : Nat) (f : Port → Port) (d : Dev) : (d.modPort n f).obst = d.obst := rfl
@[simp] theorem Dev.modPort_load (n : Nat) (f : Port → Port) (d : Dev) : (d.modPort n f).load = d.load := rfl
@[simp] theorem Dev.modPort_bin (n : Nat) (f : Port → Port) (d : Dev) : (d.modPort n f).bin = d.bin := rfl
@[simp] theorem Dev.modPort_bus (n : Nat) (f : Port → Port) (d : Dev) : (d.modPort n f).bus = d.bus := rfl
@[simp] theorem Dev.modPort_chron (n : Nat) (f : Port → Port) (d : Dev) : (d.modPort n f).chron = d.chron := rfl
@[simp] theorem Dev.modPort_log (n : Nat) (f : Port → Port) (d : Dev) : (d.modPort n f).log = d.log := rfl

/-! ### modEdge -/

@[simp] theorem Dev.modEdge_now (n : Nat) (f : LegacyEdge → LegacyEdge) (d : Dev) : (d.modEdge n f).now = d.now := rfl
@[simp] theorem Dev.modEdge_draws (n : Nat) (f : LegacyEdge → LegacyEdge) (d : Dev) : (d.modEdge n f).draws = d.draws := rfl
@[simp] theorem Dev.modEdge_nv (n : Nat) (f : LegacyEdge → LegacyEdge) (d : Dev) : (d.modEdge n f).nv = d.nv := rfl
@[simp] theorem Dev.modEdge_supply (n : Nat) (f : LegacyEdge → LegacyEdge) (d : Dev) : (d.modEdge n f).supply = d.supply := rfl
@[simp] theorem Dev.modEdge_host (n : Nat) (f : LegacyEdge → LegacyEdge) (d : Dev) : (d.modEdge n f).host = d.host := rfl
@[simp] theorem Dev.modEdge_prm (n : Nat) (f : LegacyEdge → LegacyEdge) (d : Dev) : (d.modEdge n f).prm = d.prm := rfl
@[simp] theorem Dev.modEdge_fw (n : Nat) (f : LegacyEdge → LegacyEdge) (d : Dev) : (d.modEdge n f).fw = d.fw := rfl
@[simp] theorem Dev.modEdge_door (n : Nat) (f : LegacyEdge → LegacyEdge) (d : Dev) : (d.modEdge n f).door = d.door := rfl
@[simp] theorem Dev.modEdge_leaf (n : Nat) (f : LegacyEdge → LegacyEdge) (d : Dev) : (d.modEdge n f).leaf = d.leaf := rfl
@[simp] theorem Dev.modEdge_step (n : Nat) (f : LegacyEdge → LegacyEdge) (d : Dev) : (d.modEdge n f).step = d.step := rfl
@[simp] theorem Dev.modEdge_pilot (n : Nat) (f : LegacyEdge → LegacyEdge) (d : Dev) : (d.modEdge n f).pilot = d.pilot := rfl
@[simp] theorem Dev.modEdge_sext (n : Nat) (f : LegacyEdge → LegacyEdge) (d : Dev) : (d.modEdge n f).sext = d.sext := rfl
@[simp] theorem Dev.modEdge_drive (n : Nat) (f : LegacyEdge → LegacyEdge) (d : Dev) : (d.modEdge n f).drive = d.drive := rfl
@[simp] theorem Dev.modEdge_skin (n : Nat) (f : LegacyEdge → LegacyEdge) (d : Dev) : (d.modEdge n f).skin = { d.skin with edges := modAt f n d.skin.edges } := rfl
@[simp] theorem Dev.modEdge_obst (n : Nat) (f : LegacyEdge → LegacyEdge) (d : Dev) : (d.modEdge n f).obst = d.obst := rfl
@[simp] theorem Dev.modEdge_load (n : Nat) (f : LegacyEdge → LegacyEdge) (d : Dev) : (d.modEdge n f).load = d.load := rfl
@[simp] theorem Dev.modEdge_bin (n : Nat) (f : LegacyEdge → LegacyEdge) (d : Dev) : (d.modEdge n f).bin = d.bin := rfl
@[simp] theorem Dev.modEdge_bus (n : Nat) (f : LegacyEdge → LegacyEdge) (d : Dev) : (d.modEdge n f).bus = d.bus := rfl
@[simp] theorem Dev.modEdge_chron (n : Nat) (f : LegacyEdge → LegacyEdge) (d : Dev) : (d.modEdge n f).chron = d.chron := rfl
@[simp] theorem Dev.modEdge_log (n : Nat) (f : LegacyEdge → LegacyEdge) (d : Dev) : (d.modEdge n f).log = d.log := rfl

/-! ### modSupply -/

@[simp] theorem Dev.modSupply_now (f : Supply → Supply) (d : Dev) : (d.modSupply f).now = d.now := rfl
@[simp] theorem Dev.modSupply_draws (f : Supply → Supply) (d : Dev) : (d.modSupply f).draws = d.draws := rfl
@[simp] theorem Dev.modSupply_nv (f : Supply → Supply) (d : Dev) : (d.modSupply f).nv = d.nv := rfl
@[simp] theorem Dev.modSupply_supply (f : Supply → Supply) (d : Dev) : (d.modSupply f).supply = f d.supply := rfl
@[simp] theorem Dev.modSupply_host (f : Supply → Supply) (d : Dev) : (d.modSupply f).host = d.host := rfl
@[simp] theorem Dev.modSupply_prm (f : Supply → Supply) (d : Dev) : (d.modSupply f).prm = d.prm := rfl
@[simp] theorem Dev.modSupply_fw (f : Supply → Supply) (d : Dev) : (d.modSupply f).fw = d.fw := rfl
@[simp] theorem Dev.modSupply_door (f : Supply → Supply) (d : Dev) : (d.modSupply f).door = d.door := rfl
@[simp] theorem Dev.modSupply_leaf (f : Supply → Supply) (d : Dev) : (d.modSupply f).leaf = d.leaf := rfl
@[simp] theorem Dev.modSupply_step (f : Supply → Supply) (d : Dev) : (d.modSupply f).step = d.step := rfl
@[simp] theorem Dev.modSupply_pilot (f : Supply → Supply) (d : Dev) : (d.modSupply f).pilot = d.pilot := rfl
@[simp] theorem Dev.modSupply_sext (f : Supply → Supply) (d : Dev) : (d.modSupply f).sext = d.sext := rfl
@[simp] theorem Dev.modSupply_drive (f : Supply → Supply) (d : Dev) : (d.modSupply f).drive = d.drive := rfl
@[simp] theorem Dev.modSupply_skin (f : Supply → Supply) (d : Dev) : (d.modSupply f).skin = d.skin := rfl
@[simp] theorem Dev.modSupply_obst (f : Supply → Supply) (d : Dev) : (d.modSupply f).obst = d.obst := rfl
@[simp] theorem Dev.modSupply_load (f : Supply → Supply) (d : Dev) : (d.modSupply f).load = d.load := rfl
@[simp] theorem Dev.modSupply_bin (f : Supply → Supply) (d : Dev) : (d.modSupply f).bin = d.bin := rfl
@[simp] theorem Dev.modSupply_bus (f : Supply → Supply) (d : Dev) : (d.modSupply f).bus = d.bus := rfl
@[simp] theorem Dev.modSupply_chron (f : Supply → Supply) (d : Dev) : (d.modSupply f).chron = d.chron := rfl
@[simp] theorem Dev.modSupply_log (f : Supply → Supply) (d : Dev) : (d.modSupply f).log = d.log := rfl

/-! ### modCh -/

@[simp] theorem Dev.modCh_now (n : Nat) (f : Channel → Channel) (d : Dev) : (d.modCh n f).now = d.now := rfl
@[simp] theorem Dev.modCh_draws (n : Nat) (f : Channel → Channel) (d : Dev) : (d.modCh n f).draws = d.draws := rfl
@[simp] theorem Dev.modCh_nv (n : Nat) (f : Channel → Channel) (d : Dev) : (d.modCh n f).nv = d.nv := rfl
@[simp] theorem Dev.modCh_supply (n : Nat) (f : Channel → Channel) (d : Dev) : (d.modCh n f).supply = d.supply := rfl
@[simp] theorem Dev.modCh_host (n : Nat) (f : Channel → Channel) (d : Dev) : (d.modCh n f).host = d.host := rfl
@[simp] theorem Dev.modCh_prm (n : Nat) (f : Channel → Channel) (d : Dev) : (d.modCh n f).prm = d.prm := rfl
@[simp] theorem Dev.modCh_fw (n : Nat) (f : Channel → Channel) (d : Dev) : (d.modCh n f).fw = d.fw := rfl
@[simp] theorem Dev.modCh_door (n : Nat) (f : Channel → Channel) (d : Dev) : (d.modCh n f).door = d.door := rfl
@[simp] theorem Dev.modCh_leaf (n : Nat) (f : Channel → Channel) (d : Dev) : (d.modCh n f).leaf = d.leaf := rfl
@[simp] theorem Dev.modCh_step (n : Nat) (f : Channel → Channel) (d : Dev) : (d.modCh n f).step = d.step := rfl
@[simp] theorem Dev.modCh_pilot (n : Nat) (f : Channel → Channel) (d : Dev) : (d.modCh n f).pilot = d.pilot := rfl
@[simp] theorem Dev.modCh_sext (n : Nat) (f : Channel → Channel) (d : Dev) : (d.modCh n f).sext = d.sext := rfl
@[simp] theorem Dev.modCh_drive (n : Nat) (f : Channel → Channel) (d : Dev) : (d.modCh n f).drive = d.drive := rfl
@[simp] theorem Dev.modCh_skin (n : Nat) (f : Channel → Channel) (d : Dev) : (d.modCh n f).skin = d.skin := rfl
@[simp] theorem Dev.modCh_obst (n : Nat) (f : Channel → Channel) (d : Dev) : (d.modCh n f).obst = d.obst := rfl
@[simp] theorem Dev.modCh_load (n : Nat) (f : Channel → Channel) (d : Dev) : (d.modCh n f).load = { d.load with channels := modAt f n d.load.channels } := rfl
@[simp] theorem Dev.modCh_bin (n : Nat) (f : Channel → Channel) (d : Dev) : (d.modCh n f).bin = d.bin := rfl
@[simp] theorem Dev.modCh_bus (n : Nat) (f : Channel → Channel) (d : Dev) : (d.modCh n f).bus = d.bus := rfl
@[simp] theorem Dev.modCh_chron (n : Nat) (f : Channel → Channel) (d : Dev) : (d.modCh n f).chron = d.chron := rfl
@[simp] theorem Dev.modCh_log (n : Nat) (f : Channel → Channel) (d : Dev) : (d.modCh n f).log = d.log := rfl

/-! ### modConn -/

@[simp] theorem Dev.modConn_now (n : Nat) (f : Conn → Conn) (d : Dev) : (d.modConn n f).now = d.now := rfl
@[simp] theorem Dev.modConn_draws (n : Nat) (f : Conn → Conn) (d : Dev) : (d.modConn n f).draws = d.draws := rfl
@[simp] theorem Dev.modConn_nv (n : Nat) (f : Conn → Conn) (d : Dev) : (d.modConn n f).nv = d.nv := rfl
@[simp] theorem Dev.modConn_supply (n : Nat) (f : Conn → Conn) (d : Dev) : (d.modConn n f).supply = d.supply := rfl
@[simp] theorem Dev.modConn_host (n : Nat) (f : Conn → Conn) (d : Dev) : (d.modConn n f).host = d.host := rfl
@[simp] theorem Dev.modConn_prm (n : Nat) (f : Conn → Conn) (d : Dev) : (d.modConn n f).prm = d.prm := rfl
@[simp] theorem Dev.modConn_fw (n : Nat) (f : Conn → Conn) (d : Dev) : (d.modConn n f).fw = d.fw := rfl
@[simp] theorem Dev.modConn_door (n : Nat) (f : Conn → Conn) (d : Dev) : (d.modConn n f).door = d.door := rfl
@[simp] theorem Dev.modConn_leaf (n : Nat) (f : Conn → Conn) (d : Dev) : (d.modConn n f).leaf = d.leaf := rfl
@[simp] theorem Dev.modConn_step (n : Nat) (f : Conn → Conn) (d : Dev) : (d.modConn n f).step = d.step := rfl
@[simp] theorem Dev.modConn_pilot (n : Nat) (f : Conn → Conn) (d : Dev) : (d.modConn n f).pilot = d.pilot := rfl
@[simp] theorem Dev.modConn_sext (n : Nat) (f : Conn → Conn) (d : Dev) : (d.modConn n f).sext = d.sext := rfl
@[simp] theorem Dev.modConn_drive (n : Nat) (f : Conn → Conn) (d : Dev) : (d.modConn n f).drive = d.drive := rfl
@[simp] theorem Dev.modConn_skin (n : Nat) (f : Conn → Conn) (d : Dev) : (d.modConn n f).skin = d.skin := rfl
@[simp] theorem Dev.modConn_obst (n : Nat) (f : Conn → Conn) (d : Dev) : (d.modConn n f).obst = d.obst := rfl
@[simp] theorem Dev.modConn_load (n : Nat) (f : Conn → Conn) (d : Dev) : (d.modConn n f).load = d.load := rfl
@[simp] theorem Dev.modConn_bin (n : Nat) (f : Conn → Conn) (d : Dev) : (d.modConn n f).bin = d.bin := rfl
@[simp] theorem Dev.modConn_bus (n : Nat) (f : Conn → Conn) (d : Dev) : (d.modConn n f).bus = d.bus := rfl
@[simp] theorem Dev.modConn_chron (n : Nat) (f : Conn → Conn) (d : Dev) : (d.modConn n f).chron = { d.chron with conns := modAt f n d.chron.conns } := rfl
@[simp] theorem Dev.modConn_log (n : Nat) (f : Conn → Conn) (d : Dev) : (d.modConn n f).log = d.log := rfl

/-! ### modBank -/

@[simp] theorem Dev.modBank_now (n : Nat) (f : Bank → Bank) (d : Dev) : (d.modBank n f).now = d.now := rfl
@[simp] theorem Dev.modBank_draws (n : Nat) (f : Bank → Bank) (d : Dev) : (d.modBank n f).draws = d.draws := rfl
@[simp] theorem Dev.modBank_nv (n : Nat) (f : Bank → Bank) (d : Dev) : (d.modBank n f).nv = { d.nv with banks := modAt f n d.nv.banks } := rfl
@[simp] theorem Dev.modBank_supply (n : Nat) (f : Bank → Bank) (d : Dev) : (d.modBank n f).supply = d.supply := rfl
@[simp] theorem Dev.modBank_host (n : Nat) (f : Bank → Bank) (d : Dev) : (d.modBank n f).host = d.host := rfl
@[simp] theorem Dev.modBank_prm (n : Nat) (f : Bank → Bank) (d : Dev) : (d.modBank n f).prm = d.prm := rfl
@[simp] theorem Dev.modBank_fw (n : Nat) (f : Bank → Bank) (d : Dev) : (d.modBank n f).fw = d.fw := rfl
@[simp] theorem Dev.modBank_door (n : Nat) (f : Bank → Bank) (d : Dev) : (d.modBank n f).door = d.door := rfl
@[simp] theorem Dev.modBank_leaf (n : Nat) (f : Bank → Bank) (d : Dev) : (d.modBank n f).leaf = d.leaf := rfl
@[simp] theorem Dev.modBank_step (n : Nat) (f : Bank → Bank) (d : Dev) : (d.modBank n f).step = d.step := rfl
@[simp] theorem Dev.modBank_pilot (n : Nat) (f : Bank → Bank) (d : Dev) : (d.modBank n f).pilot = d.pilot := rfl
@[simp] theorem Dev.modBank_sext (n : Nat) (f : Bank → Bank) (d : Dev) : (d.modBank n f).sext = d.sext := rfl
@[simp] theorem Dev.modBank_drive (n : Nat) (f : Bank → Bank) (d : Dev) : (d.modBank n f).drive = d.drive := rfl
@[simp] theorem Dev.modBank_skin (n : Nat) (f : Bank → Bank) (d : Dev) : (d.modBank n f).skin = d.skin := rfl
@[simp] theorem Dev.modBank_obst (n : Nat) (f : Bank → Bank) (d : Dev) : (d.modBank n f).obst = d.obst := rfl
@[simp] theorem Dev.modBank_load (n : Nat) (f : Bank → Bank) (d : Dev) : (d.modBank n f).load = d.load := rfl
@[simp] theorem Dev.modBank_bin (n : Nat) (f : Bank → Bank) (d : Dev) : (d.modBank n f).bin = d.bin := rfl
@[simp] theorem Dev.modBank_bus (n : Nat) (f : Bank → Bank) (d : Dev) : (d.modBank n f).bus = d.bus := rfl
@[simp] theorem Dev.modBank_chron (n : Nat) (f : Bank → Bank) (d : Dev) : (d.modBank n f).chron = d.chron := rfl
@[simp] theorem Dev.modBank_log (n : Nat) (f : Bank → Bank) (d : Dev) : (d.modBank n f).log = d.log := rfl

/-! ### putHeader -/

@[simp] theorem Dev.putHeader_now (h : LogHeader) (d : Dev) : (d.putHeader h).now = d.now := rfl
@[simp] theorem Dev.putHeader_draws (h : LogHeader) (d : Dev) : (d.putHeader h).draws = d.draws := rfl
@[simp] theorem Dev.putHeader_nv (h : LogHeader) (d : Dev) : (d.putHeader h).nv = { d.nv with header := some { h with writes := (h.writes + 1) % 2 ^ 32 } } := rfl
@[simp] theorem Dev.putHeader_supply (h : LogHeader) (d : Dev) : (d.putHeader h).supply = d.supply := rfl
@[simp] theorem Dev.putHeader_host (h : LogHeader) (d : Dev) : (d.putHeader h).host = d.host := rfl
@[simp] theorem Dev.putHeader_prm (h : LogHeader) (d : Dev) : (d.putHeader h).prm = d.prm := rfl
@[simp] theorem Dev.putHeader_fw (h : LogHeader) (d : Dev) : (d.putHeader h).fw = d.fw := rfl
@[simp] theorem Dev.putHeader_door (h : LogHeader) (d : Dev) : (d.putHeader h).door = d.door := rfl
@[simp] theorem Dev.putHeader_leaf (h : LogHeader) (d : Dev) : (d.putHeader h).leaf = d.leaf := rfl
@[simp] theorem Dev.putHeader_step (h : LogHeader) (d : Dev) : (d.putHeader h).step = d.step := rfl
@[simp] theorem Dev.putHeader_pilot (h : LogHeader) (d : Dev) : (d.putHeader h).pilot = d.pilot := rfl
@[simp] theorem Dev.putHeader_sext (h : LogHeader) (d : Dev) : (d.putHeader h).sext = d.sext := rfl
@[simp] theorem Dev.putHeader_drive (h : LogHeader) (d : Dev) : (d.putHeader h).drive = d.drive := rfl
@[simp] theorem Dev.putHeader_skin (h : LogHeader) (d : Dev) : (d.putHeader h).skin = d.skin := rfl
@[simp] theorem Dev.putHeader_obst (h : LogHeader) (d : Dev) : (d.putHeader h).obst = d.obst := rfl
@[simp] theorem Dev.putHeader_load (h : LogHeader) (d : Dev) : (d.putHeader h).load = d.load := rfl
@[simp] theorem Dev.putHeader_bin (h : LogHeader) (d : Dev) : (d.putHeader h).bin = d.bin := rfl
@[simp] theorem Dev.putHeader_bus (h : LogHeader) (d : Dev) : (d.putHeader h).bus = d.bus := rfl
@[simp] theorem Dev.putHeader_chron (h : LogHeader) (d : Dev) : (d.putHeader h).chron = d.chron := rfl
@[simp] theorem Dev.putHeader_log (h : LogHeader) (d : Dev) : (d.putHeader h).log = d.log := rfl

/-! ### setBus -/

@[simp] theorem Dev.setBus_now (x : Nat) (b : Bus) (d : Dev) : (d.setBus x b).now = d.now := rfl
@[simp] theorem Dev.setBus_draws (x : Nat) (b : Bus) (d : Dev) : (d.setBus x b).draws = d.draws := rfl
@[simp] theorem Dev.setBus_nv (x : Nat) (b : Bus) (d : Dev) : (d.setBus x b).nv = d.nv := rfl
@[simp] theorem Dev.setBus_supply (x : Nat) (b : Bus) (d : Dev) : (d.setBus x b).supply = d.supply := rfl
@[simp] theorem Dev.setBus_host (x : Nat) (b : Bus) (d : Dev) : (d.setBus x b).host = d.host := rfl
@[simp] theorem Dev.setBus_prm (x : Nat) (b : Bus) (d : Dev) : (d.setBus x b).prm = d.prm := rfl
@[simp] theorem Dev.setBus_fw (x : Nat) (b : Bus) (d : Dev) : (d.setBus x b).fw = d.fw := rfl
@[simp] theorem Dev.setBus_door (x : Nat) (b : Bus) (d : Dev) : (d.setBus x b).door = d.door := rfl
@[simp] theorem Dev.setBus_leaf (x : Nat) (b : Bus) (d : Dev) : (d.setBus x b).leaf = d.leaf := rfl
@[simp] theorem Dev.setBus_step (x : Nat) (b : Bus) (d : Dev) : (d.setBus x b).step = d.step := rfl
@[simp] theorem Dev.setBus_pilot (x : Nat) (b : Bus) (d : Dev) : (d.setBus x b).pilot = d.pilot := rfl
@[simp] theorem Dev.setBus_sext (x : Nat) (b : Bus) (d : Dev) : (d.setBus x b).sext = d.sext := rfl
@[simp] theorem Dev.setBus_drive (x : Nat) (b : Bus) (d : Dev) : (d.setBus x b).drive = d.drive := rfl
@[simp] theorem Dev.setBus_skin (x : Nat) (b : Bus) (d : Dev) : (d.setBus x b).skin = d.skin := rfl
@[simp] theorem Dev.setBus_obst (x : Nat) (b : Bus) (d : Dev) : (d.setBus x b).obst = d.obst := rfl
@[simp] theorem Dev.setBus_load (x : Nat) (b : Bus) (d : Dev) : (d.setBus x b).load = d.load := rfl
@[simp] theorem Dev.setBus_bin (x : Nat) (b : Bus) (d : Dev) : (d.setBus x b).bin = d.bin := rfl
@[simp] theorem Dev.setBus_bus (x : Nat) (b : Bus) (d : Dev) : (d.setBus x b).bus = if x = 0 then { d.bus with a := b } else { d.bus with b := b } := rfl
@[simp] theorem Dev.setBus_chron (x : Nat) (b : Bus) (d : Dev) : (d.setBus x b).chron = d.chron := rfl
@[simp] theorem Dev.setBus_log (x : Nat) (b : Bus) (d : Dev) : (d.setBus x b).log = d.log := rfl

/-! ### The passing of time -/

@[simp] theorem Dev.advance_now (dt : Nat) (d : Dev) : (d.advance dt).now = d.now + dt := rfl
@[simp] theorem Dev.advance_draws (dt : Nat) (d : Dev) : (d.advance dt).draws = d.draws := rfl
@[simp] theorem Dev.advance_nv (dt : Nat) (d : Dev) : (d.advance dt).nv = d.nv := rfl
@[simp] theorem Dev.advance_supply (dt : Nat) (d : Dev) : (d.advance dt).supply = d.supply := rfl
@[simp] theorem Dev.advance_host (dt : Nat) (d : Dev) : (d.advance dt).host = d.host := rfl
@[simp] theorem Dev.advance_prm (dt : Nat) (d : Dev) : (d.advance dt).prm = d.prm := rfl
@[simp] theorem Dev.advance_fw (dt : Nat) (d : Dev) : (d.advance dt).fw = d.fw := rfl
@[simp] theorem Dev.advance_door (dt : Nat) (d : Dev) : (d.advance dt).door = d.door := rfl
@[simp] theorem Dev.advance_leaf (dt : Nat) (d : Dev) : (d.advance dt).leaf = d.leaf := rfl
@[simp] theorem Dev.advance_step (dt : Nat) (d : Dev) : (d.advance dt).step = d.step := rfl
@[simp] theorem Dev.advance_pilot (dt : Nat) (d : Dev) : (d.advance dt).pilot = d.pilot := rfl
@[simp] theorem Dev.advance_sext (dt : Nat) (d : Dev) : (d.advance dt).sext = d.sext := rfl
@[simp] theorem Dev.advance_drive (dt : Nat) (d : Dev) : (d.advance dt).drive = d.drive := rfl
@[simp] theorem Dev.advance_skin (dt : Nat) (d : Dev) : (d.advance dt).skin = d.skin := rfl
@[simp] theorem Dev.advance_obst (dt : Nat) (d : Dev) : (d.advance dt).obst = d.obst := rfl
@[simp] theorem Dev.advance_load (dt : Nat) (d : Dev) : (d.advance dt).load = d.load := rfl
@[simp] theorem Dev.advance_bin (dt : Nat) (d : Dev) : (d.advance dt).bin = d.bin := rfl
@[simp] theorem Dev.advance_bus (dt : Nat) (d : Dev) : (d.advance dt).bus = d.bus := rfl
@[simp] theorem Dev.advance_chron (dt : Nat) (d : Dev) : (d.advance dt).chron = if 0 < d.supply.step then chronAdvance dt d.chron else d.chron := rfl
@[simp] theorem Dev.advance_log (dt : Nat) (d : Dev) : (d.advance dt).log = d.log := rfl

/-! ### A controller read after it is replaced -/

@[simp] theorem Dev.busOf_setBus (x : Nat) (b : Bus) (d : Dev) : (d.setBus x b).busOf x = b := by
  unfold Dev.busOf Dev.setBus
  split <;> rfl

theorem Dev.busOf_setBus_ne (x y : Nat) (b : Bus) (d : Dev) (h : (x = 0) ≠ (y = 0)) : (d.setBus x b).busOf y = d.busOf y := by
  unfold Dev.busOf Dev.setBus
  by_cases hx : x = 0 <;> by_cases hy : y = 0 <;> simp_all

end Sys2Proof.Machine
end

