-- ==== Sys2Proof/Tests/Slice0.lean ====
section
/-! SUPPORT. Tests and witnesses. The tests `test_…` compare single results with values that the manual prints or that follow from its tables by hand. The witnesses `hyp_<Statement>` show, clause by clause, a concrete device and operands that meet all hypotheses of the statement together. -/

namespace Sys2Proof.Tests

set_option Elab.async false

open Sys2Proof Sys2Proof.Machine

/-- A device that is ready, 1,000 s after its supplies came, with every supply present. -/
def base : Dev :=
  let d := State.reset.dev
  { d with
    now := sec 1000
    host := { d.host with isOpen := true }
    supply := { d.supply with step := 13, vhv := true, vdrv := true, vcore := true, vio := true } }

/-- The state of this device with nothing waiting. -/
abbrev at0 (d : Dev) : State := { pending := [], dev := d }

/-- The device as a command finds it that comes at once. -/
abbrev here (d : Dev) : Dev := (at0 d).later 0

/-- A parameter in force. -/
def setPar (id : Nat) (v : Int) (d : Dev) : Dev := { d with prm := { d.prm with working := sset (paramDefault id) id v d.prm.working } }

/-- The head of a host command, with tag 5 and no NOTE. -/
def head : CmdHead := { tag := 5#8, note := false }

/-- The hypotheses of a statement about the host command `c`: it arrives, is admitted, and its own condition `ok` holds. -/
def meets (c : HostCmd) (d : Dev) (ok : Dev → Prop) [DecidablePred ok] : Bool :=
  decide ((here d).arrives c 0) && decide ((here d).admits head c) && decide (ok (here d))

/-- The hypotheses of a statement about an event that comes at once. -/
def due (d : Dev) (p : Dev → Prop) [DecidablePred p] : Bool := decide (p (here d))

/-- Host commands with one field that does not fit its place are refused, one for each check. -/
theorem test_wf_refuses_host_1 : ∀ c ∈ ([
    .eventMask 6277101735386680763835789423207666416102355444464034512896, .eventCounts 256, .fwLoadBegin 256 0, .fwLoadBegin 0 4294967296,
    .fwLoadData 4294967296 [0#8], .fwLoadData 0 (List.replicate 1017 (0#8)), .fwLoadData 0 [], .fwLoadEnd 4294967296, .fwActivate 256,
    .cancel 256, .echo (List.replicate 1021 (0#8)), .paramRead (List.replicate 65 0), .paramRead [], .paramRead [65536],
    .paramWrite (List.replicate 33 (0, 0)), .paramWrite [], .paramWrite [(65536, 0)], .paramWrite [(0, 4294967296)], .paramGroupStage 65536 [],
    .paramGroupStage 0 (List.replicate 256 0), .paramGroupStage 0 [4294967296], .paramCommit (List.replicate 9 0), .paramCommit [],
    .paramCommit [65536], .paramGroupDiscard (List.replicate 9 0), .paramGroupDiscard [], .paramGroupDiscard [65536], .paramInfo 65536,
    .paramImageRead 4294967296 0, .paramImageRead 0 65536, .paramImageLoad 4294967296 [0#8], .paramImageLoad 0 (List.replicate 1017 (0#8)),
    .paramImageLoad 0 [], .paramImageInstall 4294967296, .paramList 256 0, .paramList 0 65536, .doorOpen 18446744073709551616,
    .doorClose 18446744073709551616, .doorHold 4294967296, .landfallAnnounce 256, .axisHome 256, .axisMove 256 0, .axisMove 0 4294967296,
    .axisStop 256, .axisLink 256, .loopMode 256 0, .loopMode 0 256, .loopManual 256 0, .loopManual 0 4294967296,
    .injectStart 256 0 0 0 0 0 0 0 0 0 0, .injectStart 0 256 0 0 0 0 0 0 0 0 0, .injectStart 0 0 256 0 0 0 0 0 0 0 0,
    .injectStart 0 0 0 256 0 0 0 0 0 0 0, .injectStart 0 0 0 0 4294967296 0 0 0 0 0 0, .injectStart 0 0 0 0 0 4294967296 0 0 0 0 0,
    .injectStart 0 0 0 0 0 0 4294967296 0 0 0 0, .injectStart 0 0 0 0 0 0 0 4294967296 0 0 0, .injectStart 0 0 0 0 0 0 0 0 256 0 0,
    .injectStart 0 0 0 0 0 0 0 0 0 256 0, .injectStart 0 0 0 0 0 0 0 0 0 0 256] : List HostCmd), wfCmd c = false := by decide +kernel

/-- Host commands with one field that does not fit its place are refused, one for each check. -/
theorem test_wf_refuses_host_2 : ∀ c ∈ ([
    .captureRead 65536 0, .captureRead 0 65536, .axisState 256, .pilotFlags 256, .pilotFlagsClear 256 0, .pilotFlagsClear 0 4294967296,
    .tableRead 256 0 0 0, .tableRead 0 256 0 0, .tableRead 0 0 65536 0, .tableRead 0 0 0 65536, .tableWrite 256 0 0 [], .tableWrite 0 256 0 [],
    .tableWrite 0 0 65536 [], .tableWrite 0 0 0 (List.replicate 509 0), .tableWrite 0 0 0 [65536], .compareArm 256 0 0 0, .compareArm 0 256 0 0,
    .compareArm 0 0 256 0, .compareArm 0 0 0 4294967296, .skinPortSet 256 0, .skinPortSet 0 256, .skinPortStatus 256, .skinTileList 256,
    .skinFrameRead 256 0 0 0 0 0, .skinFrameRead 0 256 0 0 0 0, .skinFrameRead 0 0 65536 0 0 0, .skinFrameRead 0 0 0 65536 0 0,
    .skinFrameRead 0 0 0 0 256 0, .skinFrameRead 0 0 0 0 0 256, .skinBaselineRebuild 8, .contactList 256 0 0 0, .contactList 0 256 0 0,
    .contactList 0 0 256 0, .contactList 0 0 0 256, .lchSet 4096 0, .lchSet 0 4096, .lchUnlatch 4096, .lchOffTest 4096, .juryMaskSet 256 0 0,
    .juryMaskSet 0 65536 0, .juryMaskSet 0 0 16777216, .sealConfirm 4294967296 0, .sealConfirm 0 256, .busStatus 256, .busRecover 256 0,
    .busRecover 0 65536, .busSend 256 0 0 0 0 0 0 0 0 0 [0#8], .busSend 0 65536 0 0 0 0 0 0 0 0 [0#8],
    .busSend 0 0 4294967296 0 0 0 0 0 0 0 [0#8], .busSend 0 0 0 256 0 0 0 0 0 0 [0#8], .busSend 0 0 0 0 256 0 0 0 0 0 [0#8],
    .busSend 0 0 0 0 0 256 0 0 0 0 [0#8], .busSend 0 0 0 0 0 0 2 0 0 0 [0#8], .busSend 0 0 0 0 0 0 0 4294967296 0 0 [0#8],
    .busSend 0 0 0 0 0 0 0 0 65536 0 [0#8], .busSend 0 0 0 0 0 0 0 0 0 65536 [0#8], .busSend 0 0 0 0 0 0 0 0 0 0 (List.replicate 1005 (0#8)),
    .busRead 256 0 0 0 0 0, .busRead 0 256 0 0 0 0, .busRead 0 0 256 0 0 0] : List HostCmd), wfCmd c = false := by decide +kernel

/-- Host commands with one field that does not fit its place are refused, one for each check. -/
theorem test_wf_refuses_host_3 : ∀ c ∈ ([
    .busRead 0 0 0 2 0 0, .busRead 0 0 0 0 65536 0, .busRead 0 0 0 0 0 65536, .busTxCancel 256 0, .busTxCancel 0 65536,
    .busFilterLoad 256 1 0 [], .busFilterLoad 0 0 1 (List.replicate 28 0#8), .busFilterLoad 0 0 0 [], .busFilterLoad 0 3 0 [],
    .busFilterLoad 0 1 256 [], .busFilterLoad 0 1 0 (List.replicate 1020 0#8), .busFilterLoad 0 2 0 [0#8], .busFilterApply 256,
    .busFilterDiscard 256, .chronSet 18446744073709551616, .logRead 4294967296 0, .logRead 0 256, .traceList 65536 0, .traceList 0 256,
    .traceRead 65536 0 0, .traceRead 0 65536 0, .traceRead 0 0 65536, .traceCapture 65536 0 0, .traceCapture 0 256 0, .traceCapture 0 0 256,
    .tracePin 65536 0, .tracePin 0 256, .logErase 8, .logErase 0] : List HostCmd), wfCmd c = false := by decide +kernel

/-- Events with one number that names nothing are refused, one for each check. -/
theorem test_wf_refuses_event_1 : ∀ c ∈ ([
    .packetReceived 0 (List.replicate 65548 (0#8)), .packetReceived 0 (List.replicate 7 0#8), .spiTransactionStart 0 (List.replicate 4145 (0#8)),
    .spiTransactionStart 0 [], .hostSegmentReceived 0 5 [], .hostSegmentReceived 0 1 [], .hostSegmentReceived 0 2 (List.replicate 2049 (0#8)),
    .avsExchangeEnd 0 (List.replicate 5 0), .reefEnter 0 5 0, .reefEnter 0 0 0, .atTarget 0 2, .leaderLost 0 4, .leaderLost 0 0,
    .stepAdaptTick 0 1001, .stepSwitchChange 0 3 true, .stableAssertion 0 4, .transferToAuto 0 2, .hallStateChange 0 8, .passThroughEdge 0 8,
    .vdsTrip 0 7 true, .gateFault 0 7 true true, .bootstrapLow 0 7 0, .prechargeEnd 0 3, .senseOffsetMeasure 0 [], .tilePacketReceived 0 3 [] 0,
    .skinPortFault 0 3 1, .skinPortFault 0 0 4, .skinPortFault 0 0 0, .portTraining 0 3 {}, .portRetrainTimer 0 3, .pwHoldExpiry 0 3,
    .loadTrip 0 12 1 0, .loadTrip 0 0 5 0, .loadTrip 0 0 0 0, .retryPauseEnd 0 12, .tryCountReset 0 12, .thermalClear 0 12 0, .lampDark 0 12,
    .offStateTest 0 12 0, .freewheelMissing 0 12 0, .jinChange 0 4 true, .sensePinUpdate 0 [] (List.replicate 12 0),
    .sensePinUpdate 0 (List.replicate 12 0) [], .testWindow 0 4 0 0, .testWindow 0 0 0 65536, .offPulse 0 2 0, .safeLoopOpen 0 2,
    .safeLoopCurrentLimit 0 2 0, .binnacleHallEdge 0 8, .sequencerReport 0 256 true, .binnacleFault 0 10, .busFrameReceived 0 2 { ident := 0 },
    .frameRouted 0 2, .attemptCommitted 0 2 true, .attemptEnd 0 2 {}, .attemptEnd 0 0 { result := 3 }, .recoveryComplete 0 2,
    .recoverTimeout 0 2, .frameLifetimeExpiry 0 2 16, .frameLifetimeExpiry 0 0 128] : List Instr), wellFormed c = false := by decide +kernel

/-- Events with one number that names nothing are refused, one for each check. -/
theorem test_wf_refuses_event_2 : ∀ c ∈ ([
    .frameLifetimeExpiry 0 0 15, .timingReconfigured 0 2, .telegramSendTimer 0 12, .telegramReceived 0 12 { ident := 0 },
    .telegramWatchdogExpiry 0 12, .cycleCast 0 8 true, .busReceiveError 0 2 1 true, .busReceiveError 0 0 7 true, .busReceiveError 0 0 0 true,
    .protocolException 0 2, .busIntegrationComplete 0 2] : List Instr), wellFormed c = false := by decide +kernel

/-! ### Step, state, packets and events -/

/-- A packet with tag 5 of this opcode and body, whole and with its right check. -/
def packetWith (opcode : Nat) (body : List Byte) : InPacket :=
  { opcode := opcode, tag := 5, length := body.length, body := body, check := crc32c body }

/-- A device with one order in flight under tag 9 and entry 3, of this opcode. -/
def inFlight (opcode : Nat) (d : Dev) : Dev := { d with host := { d.host with flights := [{ slot := 3, tag := 9, opcode := opcode }] } }

/-- A device with 32 commands in flight. -/
def crowded : Dev :=
  { base with host := { base.host with flights := (List.range 32).map fun n => { slot := n, tag := 100 + n, opcode := 0x20 } } }

/-- The 64 entries of the journal are all taken. -/
def journalFull : Dev := { base with nv := { base.nv with journal := List.replicate 64 { state := 3 } } }

theorem hyp_StepKeepsInvariant : State.Inv (at0 base) ∧ step (at0 base) = .next (at0 base) :=
  ⟨by unfold State.Inv; decide +kernel, rfl⟩

theorem hyp_BodiesReadBack : wfCmd (.doorHold 600000) = true ∧ wfCmd (.eventMask (2 ^ 192 - 1)) = true
    ∧ wfCmd (.fwLoadData 0xFFFFFFFF (List.replicate 1016 0xAA#8)) = true := by decide +kernel

theorem hyp_ChronometerAdvances : State.reset.dev.supply.step = 0 ∧ 0 < base.supply.step := by decide +kernel

theorem hyp_PacketsJudgedInOrder :
    base.host.isOpen = true ∧ base.freeEntry = some 0
    ∧ 1024 < ({ packetWith 0x0D [] with length := 1025 } : InPacket).length
    ∧ (({ packetWith 0x0D (List.replicate 1024 0#8) with complete := false } : InPacket).length ≤ 1024)
    ∧ (({ packetWith 0x0D [1#8] with check := 0 } : InPacket).check ≠ crc32c [1#8])
    ∧ (1 < ({ packetWith 0x0D [] with flags := 2 } : InPacket).flags)
    ∧ knownOpcode 0x7F = false ∧ knownOpcode 0x0D = true ∧ parseBody 0x23 [] = none
    ∧ (parseBody 0x23 [0#8, 0#8, 0#8, 0#8] = some (.doorHold 0) ∧ encodingOk (.doorHold 0) = true)
    ∧ (parseBody 0x30 (encodeBody (.axisHome 7)) = some (.axisHome 7) ∧ encodingOk (.axisHome 7) = false)
    ∧ (State.reset.dev.openFor 0x20 = false ∧ base.openFor 0x20 = true)
    ∧ 32 ≤ crowded.host.flights.length
    ∧ ((inFlight 0x20 base).host.flights.length < 32 ∧ ∃ f ∈ (inFlight 0x20 base).host.flights, f.tag = 9)
    ∧ ((base.received (packetWith 0x20 []) 0).hostGuard .doorRelease).isSome = true
    ∧ (base.received (packetWith 0x0D []) 0).hostGuard (.echo []) = none := by decide +kernel

theorem hyp_NoFreeEntryDrops : State.reset.dev.host.isOpen = false ∧ journalFull.host.isOpen = true ∧ journalFull.freeEntry = none := by
  decide +kernel

theorem hyp_ReplyIsQueued : 63 < base.nv.journal.length
    ∧ (here (base.reply 0 0x00 [])).host.out = [{ event := false, key := 0, source := 0, bytes := packet 128 0 0 (u8 0) }]
    ∧ ((here (base.raise 32 0 0xFF [])).host.out.map fun p => p.event) = [true] := by decide +kernel

theorem hyp_EventsQueuedMaskedOrLost :
    let masked : Dev := { base with host := { base.host with mask := 0 } }
    let full : Dev := { base with host := { base.host with out := List.replicate 256 { event := true, key := 0, bytes := [] } } }
    let nearly : Dev := { base with host := { base.host with out := List.replicate 240 { event := true, key := 0, bytes := [] } } }
    base.host.isOpen = true ∧ base.host.mask.getLsbD 32 = true ∧ base.host.eventFill = 0
    ∧ masked.host.isOpen = true ∧ masked.host.mask.getLsbD 32 = false
    ∧ full.host.isOpen = true ∧ 256 ≤ full.host.eventFill ∧ 240 ≤ nearly.host.eventFill ∧ nearly.host.eventFill < 256 := by decide +kernel

theorem hyp_StandingConditions :
    base.host.stands 12 0xFF = false ∧ (base.onset 12 1 0xFF []).host.stands 12 0xFF = true
    ∧ ((13, 0xFF) : Nat × Nat) ≠ (12, 0xFF) := by decide +kernel

theorem hyp_PacketBytesAreTheCommand :
    wfCmd (.doorHold 600000) = true
    ∧ (here base).host.isOpen = true ∧ 8 ≤ (List.replicate 8 0xA5#8).length ∧ fieldAt 0 1 (List.replicate 8 0xA5#8) = 0xA5
    ∧ crc8 ((List.replicate 8 0xA5#8).take 7) ≠ fieldAt 7 1 (List.replicate 8 0xA5#8) := by decide +kernel

/-! ### System, firmware and parameter commands -/

/-- A device in this doorway state, at rest. -/
def inState (n : Nat) (d : Dev) : Dev := { d with door := { d.door with state := n } }

/-- A device with this many bytes of a firmware load expected into bank 1. -/
def loading : Dev := { base with fw := some { bank := 1, length := 1016 } }

theorem hyp_SystemCommands : (
    meets .identify base (fun _ => True) && meets .status base (fun _ => True) && meets (.eventCounts 5) base (fun _ => True)
    && meets .journalRead base (fun _ => True) && meets (.echo (List.replicate 1020 1#8)) base (fun _ => True)
    && meets .reset base (fun _ => True)
    && meets .park (inState 0 base) (fun d => d.inMotion = false ∧ d.door.state = 0 ∧ d.door.step = 0)
    && meets .dormant (inState 10 base) (fun d => d.inMotion = false ∧ d.door.state = 10 ∧ d.door.step = 0)
    && meets (.eventMask (2 ^ 192 - 1)) base (fun _ => True) ) = true := by decide +kernel

theorem hyp_FirmwareAndCancel : (
    meets (.fwLoadBegin 1 4194304) base (fun d => 1 ≠ d.supply.bank)
    && meets (.fwLoadData 1015 [1#8]) loading (fun d => d.fw = some { bank := 1, length := 1016 })
    && meets (.fwLoadEnd 0) loading (fun d => d.fw.isSome = true)
    && meets (.fwActivate 1) (inState 12 base) (fun d => d.door.state = 12 ∧ d.inMotion = false)
    && meets (.cancel 9) (inFlight 0x7C base) (fun d => d.host.flightOf 9 = some { slot := 3, tag := 9, opcode := 0x7C } ∧ 0x7C ∈ [0x08, 0x09, 0x36, 0x44, 0x53, 0x7C])
    && meets (.cancel 9) base (fun d => d.host.flightOf 9 = none)
    && meets (.cancel 9) (inFlight 0x20 base) (fun d =>
        d.host.flightOf 9 = some { slot := 3, tag := 9, opcode := 0x20 } ∧ 0x20 ∉ [0x08, 0x09, 0x36, 0x44, 0x53, 0x7C]) ) = true := by decide +kernel


/-- The default values of a group as they stand in a body. -/
def defaultsOf (group : Nat) : List Nat := (groupFields group).map fun p => (p.dflt % 2 ^ 32).toNat

/-- A device with this group staged at its default values. -/
def staging (group : Nat) (d : Dev) : Dev :=
  { d with prm := { d.prm with staged := [{ group := group, values := (groupFields group).map (·.dflt) }] } }

/-- A device whose leaf has a commanded speed. -/
def rolling : Dev := { base with leaf := { base.leaf with sp := { base.leaf.sp with v := 1000 } } }

theorem hyp_ParameterReadAndWrite : (
    meets (.paramRead [P.PLAN_CLOSE_SPEED, 0xFFFF]) base (fun _ => True)
    && ((paramDef? P.PLAN_CLOSE_SPEED).isSome && meets (.paramInfo P.PLAN_CLOSE_SPEED) base (fun _ => True))
    && meets (.paramImageRead (16 + 6 * allParams.length - 1) 1) base (fun _ => True)
    && meets (.paramList 5 0) base (fun _ => True)
    && (((paramDef? P.PLAN_CLOSE_SPEED).map fun p => decide (p.timing ≠ .grouped ∧ p.timing ≠ .groupedStandstill)
          && p.inRange (p.ofWire 10000) && decide (p.timing = .standstill → (here base).inMotion = false)) == some true)
    && meets (.paramWrite [(P.PLAN_CLOSE_SPEED, 10000)]) base (fun _ => True)
    && (decide (paramDef? 0xFFFF = none) && meets (.paramInfo 0xFFFF) base (fun _ => True))
    && meets (.paramImageRead 0 1001) base (fun _ => 1000 < 1001) && meets (.paramImageRead 0 0) base (fun _ => 0 = 0)
    && meets (.paramImageRead (16 + 6 * allParams.length) 1) base (fun _ => 16 + 6 * allParams.length < 16 + 6 * allParams.length + 1)
    && meets (.paramWrite [(P.PLAN_CLOSE_SPEED, 10000), (0xFFFF, 0)]) base (fun _ => True)
    && (((paramDef? P.PLAN_CLOSE_ACC).map fun p => decide (p.timing = .grouped ∨ p.timing = .groupedStandstill)) == some true)
    && (((paramDef? P.PLAN_CLOSE_SPEED).map fun p => p.inRange (p.ofWire 0)) == some false)
    && (((paramDef? P.SYS_WDOG_TIMEOUT).map fun p => p.inRange (p.ofWire 100) && decide (p.timing = .standstill)) == some true)
    && due rolling (fun d => d.inMotion = true) ) = true := by decide +kernel

theorem hyp_GroupsAndImages : (
    meets (.paramGroupStage P.PLAN_CLOSE_ACC (defaultsOf P.PLAN_CLOSE_ACC)) base (fun d =>
      isGroup P.PLAN_CLOSE_ACC = true ∧ (defaultsOf P.PLAN_CLOSE_ACC).length = (groupFields P.PLAN_CLOSE_ACC).length
        ∧ rangeFails 0 (groupFields P.PLAN_CLOSE_ACC) (defaultsOf P.PLAN_CLOSE_ACC) = none ∧ d.prm.staged.length < 16)
    && meets (.paramGroupDiscard [0xFFFF]) base (fun _ => True)
    && meets (.paramGroupDiscard [P.PLAN_CLOSE_ACC]) base (fun _ => ∀ g ∈ [P.PLAN_CLOSE_ACC], isGroup g = true)
    && meets (.paramCommit [P.PLAN_CLOSE_ACC]) (staging P.PLAN_CLOSE_ACC base) (fun d =>
        (∃ t ∈ d.prm.staged, t.group = P.PLAN_CLOSE_ACC) ∧ P.LCH_PAIR_ENABLE ∉ [P.PLAN_CLOSE_ACC]
          ∧ (standstillGroups [P.PLAN_CLOSE_ACC] = true → d.inMotion = false)
          ∧ firstFailure [P.PLAN_CLOSE_ACC] (d.parWith (d.commitWrites [P.PLAN_CLOSE_ACC])) = none)
    && meets (.paramCommit [P.LCH_PAIR_ENABLE]) (staging P.LCH_PAIR_ENABLE base) (fun d =>
        (∃ t ∈ d.prm.staged, t.group = P.LCH_PAIR_ENABLE) ∧ d.load.jury = false
          ∧ (standstillGroups [P.LCH_PAIR_ENABLE] = true → d.inMotion = false)
          ∧ firstFailure [P.LCH_PAIR_ENABLE] (d.parWith (d.commitWrites [P.LCH_PAIR_ENABLE])) = none)
    && meets .paramImageSave base (fun _ => True)
    && meets (.paramImageLoad (imageRoom - 1) [1#8]) base (fun _ => imageRoom - 1 + [1#8].length ≤ imageRoom)
    && meets (.paramImageInstall 0) base (fun _ => True) && meets .paramFactory base (fun _ => True) ) = true := by decide +kernel

/-- A write, waiting under entry 3, of a parameter of the 1 ms boundary, and one of another boundary. -/
def sysWrite : PendingWrite := { slot := 3, writes := [(P.SYS_PARK_ALARM, 5)] }
def planWrite : PendingWrite := { slot := 4, writes := [(P.PLAN_CLOSE_SPEED, 10000)] }

theorem hyp_WritesTakeEffect :
    base.prm.waiting = [] ∧ (5 : Int) ≠ paramDefault P.PLAN_CLOSE_SPEED
    ∧ (base.prm.working.map (·.1)).Pairwise (· < ·) ∧ P.PLAN_CLOSE_ACC ≠ P.PLAN_CLOSE_SPEED
    ∧ sysWrite.groups = [] ∧ sysWrite.writes ≠ [] ∧ (∀ x ∈ sysWrite.writes, boundaryOf x.1 = 4) ∧ (∀ x ∈ planWrite.writes, boundaryOf x.1 ≠ 4)
    ∧ (sysWrite.groups.contains base.movingGroup = false) := by decide +kernel

/-! ### The doorway -/

/-- A device in this doorway state with an opening permit and a valid time. -/
def permitted (n : Nat) : Dev :=
  { base with
    door := { base.door with state := n, copies := { base.door.copies with permit := true } }
    chron := { base.chron with state := 3 } }

/-- A device in this doorway state with this step state and the step's port in its running state. -/
def withStep (n step : Nat) : Dev :=
  { base with
    door := { base.door with state := n, step := step }
    skin := { base.skin with ports := [{}, {}, { state := 3 }] } }

theorem hyp_DoorOrdersWait : (
    meets .doorRelease (permitted 9) (fun d => d.door.state = 9 ∧ d.door.landfall.leaving = false ∧ d.door.copies.permit = true)
    && meets (.doorOpen 0) (permitted 0) (fun d => d.door.state ∈ [0, 2, 5, 6, 9] ∧ d.door.landfall.leaving = false
        ∧ d.door.copies.permit = true ∧ d.supply.vdrv = true)
    && meets (.doorOpen (ms 1000)) (permitted 11) (fun d => d.door.state = 11 ∧ d.door.copies.egress = false ∧ d.door.copies.access = false
        ∧ d.door.landfall.leaving = false ∧ d.door.copies.permit = true ∧ d.supply.vdrv = true ∧ d.timeValid = true
        ∧ ms 1000 ≤ d.chron.time + ms (d.parN P.DOOR_START_MAX_AHEAD))
    && meets (.doorClose 0) (permitted 4) (fun d => d.door.state ∈ [2, 3, 4, 5, 6, 9] ∧ d.supply.vdrv = true)
    && meets (.doorClose 0) { permitted 0 with door := { (permitted 0).door with landfall := .entering 0 0 } }
        (fun d => d.door.state = 0 ∧ d.door.landfall.busy = true ∧ d.supply.vdrv = true)
    && meets (.doorClose 0) { base with door := { base.door with fault := 5 } } (fun d => d.door.state = 13 ∧ d.door.fault = 5 ∧ d.supply.vdrv = true)
    && meets (.doorClose (ms 1000)) { permitted 2 with supply := { base.supply with vdrv := false } }
        (fun d => d.door.state = 2 ∧ d.timeValid = true ∧ ms 1000 ≤ d.chron.time + ms (d.parN P.DOOR_START_MAX_AHEAD))
    && meets (.doorHold 600000) (permitted 4) (fun d => 600000 ≤ 600000 ∧ d.door.state = 4)
    && meets (.doorHold 0) (permitted 6) (fun d => d.door.state = 6 ∧ d.door.copies.permit = true ∧ d.supply.vdrv = true)
    && meets .doorIsolate (permitted 2) (fun d => d.door.state ∉ [10, 11, 12, 13] ∧ d.door.state ≤ 2)
    && meets .doorRestore (permitted 10) (fun d => d.door.state = 10 ∧ d.door.copies.isolation = false)
    && meets (.landfallAnnounce 2) (setPar P.DOOR_LANDFALL_ENABLE 1 (permitted 0)) (fun d =>
        d.door.state = 0 ∧ d.par P.DOOR_LANDFALL_ENABLE = 1 ∧ d.timeValid = true ∧ d.supply.reef < 2 ∧ d.supply.vdrv = true ∧ d.door.step = 0
          ∧ d.door.landfall.leaving = false)
    && meets .landfallWithdraw (permitted 9) (fun d => d.door.state = 9)
    && meets .landfallWithdraw { permitted 0 with door := { (permitted 0).door with landfall := .armed 0 0 } }
        (fun d => d.door.state = 0 ∧ d.door.landfall ≠ .none)
    && meets .stepDeploy (withStep 4 0) (fun d => d.door.state = 4 ∧ d.door.step ∉ [4, 5] ∧ (d.port 2).state ∉ [0, 5] ∧ d.supply.vdrv = true)
    && meets .stepRetract (withStep 4 4) (fun d => d.door.state ∉ [9, 10, 11, 12] ∧ d.door.step ≠ 5
        ∧ (d.door.step = 4 → (d.drive.stepA.latched = true → d.drive.stepA.trips ≤ 3) ∧ (d.drive.stepB.latched = true → d.drive.stepB.trips ≤ 3))
        ∧ d.supply.vdrv = true)
    && meets .maintenanceEnter { permitted 13 with door := { (permitted 13).door with copies := { (permitted 13).door.copies with view := 0 } } }
        (fun d => d.door.state ∈ [0, 4, 8, 10, 13] ∧ d.inMotion = false ∧ d.door.copies.view = 0)
    && meets .maintenanceExit (permitted 12) (fun d => d.door.state = 12 ∧ d.inMotion = false)
    && meets .doorFaultClear (permitted 8) (fun d => d.door.state = 8 ∧ d.door.copies.permit = true ∧ d.supply.vdrv = true)
    && meets .doorFaultClear (permitted 13) (fun d => d.door.state = 13 ∧ d.faultPresent = false)
    && meets .doorState base (fun _ => True) ) = true := by decide +kernel

/-- A ready device in this doorway state with this much of the doorway set. -/
def doorWith (f : Door → Door) : Dev := { base with door := f base.door }

/-- Ready and alive, which every timer of the doorway needs. -/
abbrev up (d : Dev) : Prop := d.ready = true ∧ d.live = true

theorem hyp_ProfileUpdate : (
    due base (fun d => d.live = true ∧ d.pilot.samples % 10 = 0)
    && due State.reset.dev (fun d => ¬ (d.live = true ∧ d.pilot.samples % 10 = 0))
    && due { base with pilot := { base.pilot with samples := 9 } } (fun d => ¬ (d.live = true ∧ d.pilot.samples % 10 = 0)) ) = true := by decide +kernel

/-- A time that has come for `base`. -/
def gone : Nat := sec 990

theorem hyp_DoorwayTimers : (
    due (doorWith fun q => { q with waitOrder := some { opcode := 0x21, slot := none, start := gone } })
        (fun d => up d ∧ d.door.waitOrder = some { opcode := 0x21, slot := none, start := gone })
    && due { base with chron := { base.chron with time := gone } } (fun d => d.beginTime { opcode := 0x21, slot := none, start := gone } ≤ d.chron.time)
    && due base (fun d => d.door.waitOrder = none)
    && due (doorWith fun q => { q with flashing := true }) (fun d => up d ∧ d.door.flashing = true ∧ d.door.flashNext ≤ d.now)
    && due (doorWith fun q => { q with unlockBy := some gone, copies := { q.copies with lockMade := true } })
        (fun d => up d ∧ d.door.copies.lockMade = true ∧ d.door.unlockBy = some gone ∧ gone ≤ d.now)
    && due (doorWith fun q => { q with state := 6, waitPairs := some gone })
        (fun d => up d ∧ d.door.state = 6 ∧ d.door.waitPairs = some gone ∧ ms (d.parN P.DOOR_CLOSED_WAIT) ≤ d.now - gone)
    && due (doorWith fun q => { q with state := 6, waitWindow := some gone })
        (fun d => up d ∧ d.door.state = 6 ∧ d.door.waitWindow = some gone ∧ ms (d.parN P.DOOR_CLOSED_WAIT) ≤ d.now - gone)
    && due (doorWith fun q => { q with lockBy := some gone }) (fun d => up d ∧ d.door.copies.lockMade = false ∧ d.door.lockBy = some gone ∧ gone ≤ d.now)
    && due (doorWith fun q => { q with pulseEnd := some gone }) (fun d => up d ∧ d.door.pulseEnd = some gone ∧ gone ≤ d.now)
    && due (doorWith fun q => { q with state := 0 })
        (fun d => up d ∧ d.door.state = 0 ∧ d.door.copies.lockMade = false ∧ d.door.unlockBy = none ∧ d.door.landfall.leaving = false)
    && due (doorWith fun q => { q with state := 5, holdEnd := some gone }) (fun d => up d ∧ d.door.state = 5 ∧ d.door.holdEnd = some gone ∧ gone ≤ d.now)
    && due (doorWith fun q => { q with suspended := true, resumeAt := some gone })
        (fun d => up d ∧ d.door.suspended = true ∧ d.supply.reef < 3 ∧ d.door.resumeAt = some gone ∧ gone ≤ d.now)
    && due (doorWith fun q => { q with unlockBy := some gone }) (fun d => up d ∧ d.door.copies.lockMade = false ∧ d.door.unlockBy.isSome = true)
    && due (doorWith fun q => { q with state := 1, copies := { q.copies with lockMade := true } })
        (fun d => up d ∧ d.door.copies.lockMade = true ∧ d.door.state = 1 ∧ d.door.pulseEnd = none)
    && due (doorWith fun q => { q with state := 9, landfall := .withdrawing 1, lockBy := some gone, copies := { q.copies with lockMade := true } })
        (fun d => up d ∧ d.door.copies.lockMade = true ∧ d.door.landfall.leaving = true ∧ d.door.lockBy.isSome = true)
    && due (doorWith fun q => { q with state := 7 }) (fun d => up d ∧ d.door.state = 7 ∧ d.door.backingOff = false ∧ d.door.stopping = false
        ∧ d.leaf.rests = true ∧ d.leaf.next = none ∧ d.door.suspended = false)
    && due (doorWith fun q => { q with state := 7, backingOff := true }) (fun d => up d ∧ d.door.state = 7 ∧ d.door.backingOff = true
        ∧ d.door.stopping = false ∧ d.leaf.rests = true ∧ d.leaf.next = none ∧ d.door.suspended = false)
    && due (doorWith fun q => { q with landfall := .entering 0 gone }) (fun d => up d ∧ d.door.landfall = .entering 0 gone ∧ ms 20 ≤ d.now - gone)
    && due (doorWith fun q => { q with landfall := .armed 0 gone }) (fun d => up d ∧ d.door.landfall = .armed 0 gone ∧ gone ≤ d.now)
    && due (doorWith fun q => { q with landfall := .held 0 }) (fun d => up d ∧ d.door.landfall = .held 0 ∧ sec (d.parN P.DOOR_LANDFALL_MAX) ≤ d.now - 0)
    && due (setPar P.DOOR_EGRESS_ASSIST 1000 { doorWith fun q => { q with state := 11, copies := { q.copies with view := 0, permit := true } } with
          pilot := { base.pilot with gatesOff := true }, sext := { base.sext with counter := 100000 } })
        (fun d => up d ∧ d.door.state = 11 ∧ d.door.copies.view = 0 ∧ d.door.copies.permit = true ∧ d.par P.DOOR_EGRESS_ASSIST ≠ 0 ∧ d.door.assist = false
          ∧ d.pilot.gatesOff = true ∧ 10000 ≤ d.umOfSub (d.sext.counter - d.door.nearest))
    && due (doorWith fun q => { q with state := 11, assist := true, assistStill := some gone })
        (fun d => up d ∧ d.door.state = 11 ∧ d.door.assist = true ∧ d.door.assistStill = some gone ∧ ms 500 ≤ d.now - gone)
    && due (doorWith fun q => { q with step := 3, stepSince := some gone }) (fun d => up d ∧ d.door.step = 3 ∧ d.door.stepSince = some gone ∧ sec 3 ≤ d.now - gone)
    && due { doorWith fun q => { q with step := 1 } with step := { base.step with find := 1 } }
        (fun d => up d ∧ d.door.step = 1 ∧ d.door.stepSince = none ∧ d.step.phases = [] ∧ d.stepObstacle = false
          ∧ ms (d.parN P.DOOR_RECLOSE_DELAY) ≤ d.now - d.obst.stepClearSince ∧ d.door.stepWaiting = false ∧ d.step.find ≠ 0)
    && due (doorWith fun q => { q with step := 2, stepAgain := some gone }) (fun d => up d ∧ d.door.step = 2 ∧ d.stepObstacle = false
        ∧ ms (d.parN P.DOOR_RECLOSE_DELAY) ≤ d.now - d.obst.stepClearSince ∧ d.door.stepAgain = some gone ∧ gone ≤ d.now) ) = true := by decide +kernel

theorem hyp_StateChangeAndFault :
    base.door.state = 13 ∧ base.door.state ≠ 2 ∧ (2 ≤ 9 ∧ 11 ∈ [0, 1, 10, 11] ∧ 12 ∈ [0, 10, 12] ∧ 5 ∉ [0, 10, 12])
    ∧ ((inState 2 base).door.state ∉ [12, 8, 10, 13] ∧ 12 ≠ 10)
    ∧ ((doorWith fun q => { q with fault := 3 }).door.state = 13 ∧ (doorWith fun q => { q with fault := 3 }).door.fault ≠ 0)
    ∧ (inState 2 base).door.state ≠ 13 ∧ base.door.fault = 0 := by decide +kernel


/-! ### The host link, jobs, resets, start-up and supplies -/

/-- A ready device with this much of the host interface set. -/
def hostWith (f : HostSide → HostSide) : Dev := { base with host := f base.host }

theorem hyp_HostChannelsAndLink : (
    wfCmd (.doorHold 0)
    && due base (fun d => d.host.isOpen = true ∧ d.host.chan.channel = 0 ∧ d.host.spiIn = [] ∧ d.host.out = [])
    && due (hostWith fun h => { h with chan := { channel := 1, format := 0 } }) (fun d => d.host.isOpen = true ∧ d.host.chan.channel ≠ 0
        ∧ d.host.reasm = none ∧ (if d.host.chan.format = 1 then 2 = 4 else 2 = 2 ∨ 2 = 3) ∧ d.host.prevSeq = none)
    && due (hostWith fun h => { h with chan := { channel := 2, format := 1 }, prevSeq := some 255 }) (fun d => d.host.isOpen = true
        ∧ d.host.chan.channel ≠ 0 ∧ d.host.reasm = none ∧ (if d.host.chan.format = 1 then 4 = 4 else 4 = 2 ∨ 4 = 3)
        ∧ d.host.prevSeq = some 255 ∧ (0#8).toNat = (255 + 1) % 256)
    && due (hostWith fun h => { h with spiIn := [0xA5#8] }) (fun d => d.host.spiIn ≠ [] ∧ ms 50 < d.now - d.host.spiLast)
    && due (hostWith fun h => { h with reasm := some { bytes := [], next := 1, seq := 0, last := gone } })
        (fun d => d.host.reasm = some { bytes := [], next := 1, seq := 0, last := gone } ∧ ms 20 < d.now - gone)
    && due (setPar P.SYS_HOST_TIMEOUT 1000 base) (fun d => d.host.isOpen = true ∧ 0 < d.parN P.SYS_HOST_TIMEOUT
        ∧ ms (d.parN P.SYS_HOST_TIMEOUT) ≤ d.now - d.host.lastValid ∧ d.host.stands 8 0xFF = false)
    && due (hostWith fun h => { h with chanSwitch := some ({ channel := 1 }, 3) })
        (fun d => d.host.chanSwitch = some ({ channel := 1 }, 3) ∧ ∀ f ∈ d.host.flights, f.slot ≠ 3) ) = true := by decide +kernel

/-- The order of tag 9 waits for this job. -/
def waitsFor (j : Job) : Dev :=
  { inFlight 0x08 loading with host := { (inFlight 0x08 loading).host with jobs := [{ slot := 3, job := j }] } }

/-- Tag 9 is in flight, and its order waits for this job. -/
abbrev hasJob (j : Job) (d : Dev) : Prop :=
  d.host.flightOf 9 = some { slot := 3, tag := 9, opcode := 0x08 } ∧ (d.host.jobs.find? fun j => j.slot = 3) = some { slot := 3, job := j }

theorem hyp_JobsEnd : (
    due base (fun d => d.host.flightOf 9 = none)
    && due (waitsFor (.fwErase 1 0)) (hasJob (.fwErase 1 0))
    && due (waitsFor (.fwWrite 0 [1#8])) (fun d => hasJob (.fwWrite 0 [1#8]) d ∧ d.fw = some { bank := 1, length := 1016 })
    && due (waitsFor (.fwVerify 0)) (hasJob (.fwVerify 0)) && due (waitsFor .imageSave) (hasJob .imageSave)
    && due (waitsFor (.imageInstall [])) (hasJob (.imageInstall [])) && due (waitsFor .factory) (hasJob .factory)
    && due (waitsFor (.juryWrite [] [])) (hasJob (.juryWrite [] [])) && due (waitsFor (.sealStore 0)) (hasJob (.sealStore 0))
    && due (waitsFor (.logErase 1)) (hasJob (.logErase 1)) && due (waitsFor (.bridgeCheck false)) (hasJob (.bridgeCheck false))
    && due (waitsFor (.bridgeCheck true)) (hasJob (.bridgeCheck true)) ) = true := by decide +kernel

/-- A ready device with this much of the supplies and clocks set. -/
def supplyWith (f : Supply → Supply) : Dev := { base with supply := f base.supply }

theorem hyp_Resets : (
    decide (11 < base.load.channels.length)
    && decide (us 10 ≤ us 10 ∧ 99 < us 1 ∧ us 1 ≤ 100 ∧ 999 < us 10)
    && due (supplyWith fun u => { u with step := 4 }) (fun d => 4 ≤ d.supply.step ∧ d.supply.mode = 0)
    && due (supplyWith fun u => { u with lowTicks := 20 }) (fun d => 20 ≤ d.supply.lowTicks ∧ 0 < d.supply.step ∧ d.supply.mode = 0)
    && due (supplyWith fun u => { u with step := 2 }) (fun d => 2 ≤ d.supply.step ∧ d.supply.mode = 0)
    && due { base with bin := { base.bin with debug := true } } (fun d => d.bin.debug = true ∧ 0 < d.supply.step ∧ d.supply.mode = 0)
    && due (supplyWith fun u => { u with reef4At := some gone }) (fun d => d.supply.reef4At = some gone ∧ gone + ms 250 ≤ d.now)
    && due (supplyWith fun u => { u with reef4Hold := true, notAbove := [gone, gone, gone, gone] }) (fun d => d.supply.reef4Hold = true
        ∧ reefRecovery d.nominalCode 4 ≤ 110000 ∧ d.supply.notAbove.getD 3 0 + ms 100 ≤ d.now)
    && due (supplyWith fun u => { u with reef4Hold := true, notAbove := [] , reef4At := none }) (fun d => d.supply.reef4Hold = true
        ∧ ¬ reefRecovery d.nominalCode 4 ≤ 0) ) = true := by
  decide +kernel

theorem hyp_StartUpAndWake : (
    due State.reset.dev (fun d => d.supply.step = 0 ∧ d.supply.mode = 0 ∧ d.supply.reef4Hold = false ∧ d.supply.bootRom = false)
    && due (supplyWith fun u => { u with step := 1 }) (fun d => d.supply.step = 1 ∧ d.supply.mode = 0 ∧ ({} : StartUpIn).clockOk = true)
    && due (supplyWith fun u => { u with step := 9, vhvWait := true }) (fun d => d.supply.step = 9 ∧ d.supply.vhvWait = true)
    && due base (fun d => ({ vhvMv := 0 } : StartUpIn).vhvMv < reefRecovery d.nominalCode 4)
    && due (supplyWith fun u => { u with step := 10 }) (fun d => d.live = true ∧ d.supply.step < 13 ∧ d.skinSettled = true)
    && due (supplyWith fun u => { u with mode := 1 }) (fun d => d.supply.mode ≠ 0)
    && due (supplyWith fun u => { u with mode := 2, vio := false }) (fun d => d.supply.mode ≠ 0 ∧ ¬ (d.supply.vio = true ∧ d.supply.vcore = true))
    && due (setPar P.SYS_PARK_ALARM 600 (supplyWith fun u => { u with mode := 1 })) (fun d => d.supply.mode = 1 ∧ 0 < d.parN P.SYS_PARK_ALARM
        ∧ d.supply.vio = true ∧ d.supply.vcore = true ∧ d.nv.keep.entered + sec (d.parN P.SYS_PARK_ALARM) ≤ d.now) ) = true := by decide +kernel

theorem hyp_SuppliesAndReefing : (
    decide (9899 < 9900 ∧ 10300 ≤ 10300)
    && due (supplyWith fun u => { u with step := 7 }) (fun d => 7 ≤ d.supply.step ∧ d.bus.clockLost = false)
    && due { base with bus := { base.bus with clockLost := true } } (fun d => d.bus.clockLost = true)
    && due base (fun d => d.live = true)
    && due base (fun d => d.live = true ∧ d.supply.reef < 4 ∧ 4 ≤ 4 ∧ 0 < reefThreshold d.nominalCode 4)
    && due (supplyWith fun u => { u with reef := 3 }) (fun d => d.live = true ∧ 0 < d.supply.reef ∧ d.supply.reef < 4
        ∧ reefRecovery d.nominalCode d.supply.reef ≤ 110000) ) = true := by decide +kernel

theorem hyp_MarginAndTemperatures : (
    due base (fun d => d.live = true)
    && due (supplyWith fun u => { u with request := some 1210 }) (fun d => d.supply.request.isSome = true)
    && due (setPar P.SYS_AVS_MODE 1 (supplyWith fun u => { u with avsFailed := true })) (fun d => d.live = true ∧ d.supply.avsFailed = true
        ∧ d.supply.request = none ∧ d.par P.SYS_AVS_MODE = 1 ∧ d.supply.requested + sec 1 ≤ d.now)
    && decide (base.supply.dieWarm.length = 3 ∧ base.supply.dieHot.length = 3 ∧ 2 < 3 ∧ 0 ≠ 2)
    && decide ((1150 : Int) ≤ 1150 ∧ (1050 : Int) ≤ 1050 ∧ (1050 : Int) < 1051 ∧ (1149 : Int) < 1150 ∧ (1250 : Int) ≤ 1250 ∧ (1150 : Int) < 1249) ) = true := by
  decide +kernel


/-! ### Axes, loops, position and drive -/

/-- An axis at rest in Maintenance, with VDRV. -/
def maint : Dev := inState 12 base

/-- A ready device with this much of the leaf's planner set. -/
def leafWith (f : LeafPlan → LeafPlan) : Dev := { base with leaf := f base.leaf }

/-- A ready device with the step fitted and this much of its planner set. -/
def stepWith (f : StepPlan → StepPlan) : Dev := setPar P.SYS_STEP_FITTED 1 { base with step := f base.step }

/-- A ready device with this much of Pilot set. -/
def pilotWith (f : Pilot → Pilot) : Dev := { base with pilot := f base.pilot }

/-- A ready device with this much of Sextant set. -/
def sextWith (f : Sextant → Sextant) : Dev := { base with sext := f base.sext }

/-- A ready device with this much of the drive set. -/
def driveWith (f : Drive → Drive) : Dev := { base with drive := f base.drive }

/-- An axis order may start: R211. -/
abbrev mayMove (axis : Nat) (d : Dev) : Prop :=
  d.door.state = 12 ∧ d.axisMoving axis = false ∧ (∀ o ∈ d.leaf.orders, o.2.2 = axis → o.1 ≠ 0x30 ∧ o.1 ≠ 0x31) ∧ d.supply.vdrv = true
    ∧ d.supply.reef < (if axis = 0 then 3 else 2)

theorem hyp_AxisOrders : (
    meets (.axisHome 0) maint (mayMove 0)
    && meets (.axisHome 1) (setPar P.SYS_STEP_FITTED 1 maint) (fun d => mayMove 1 d ∧ d.par P.SYS_STEP_FITTED ≠ 0)
    && meets (.axisMove 0 0) maint (fun d => mayMove 0 d ∧ d.par P.SEXT_SOFT_LOW ≤ toSigned 32 0 ∧ toSigned 32 0 ≤ d.par P.SEXT_SOFT_HIGH)
    && meets (.axisMove 1 0) (setPar P.SYS_STEP_FITTED 1 maint) (fun d => mayMove 1 d ∧ d.step.unverified = false ∧ d.par P.SYS_STEP_FITTED ≠ 0
        ∧ 0 ≤ toSigned 32 0 ∧ toSigned 32 0 ≤ d.par P.PLAN_STEP_EXT_MAX)
    && meets (.axisStop 2) maint (fun d => d.door.state = 12)
    && meets (.axisLink 1) base (fun d => d.inMotion = false)
    && due (leafWith fun l => { l with orders := [(0x31, 3, 0)] }) (fun d => ∃ e ∈ d.leaf.orders, e.2.1 = 3)
    && due base (fun d => ¬ ∃ e ∈ d.leaf.orders, e.2.1 = 3) ) = true := by decide +kernel

/-- Manual current of the leaf in Maintenance. -/
def manual : Dev := { maint with pilot := { maint.pilot with leafMode := { mode := 1 } } }

theorem hyp_LoopCommands : (
    meets (.loopMode 0 0) maint (fun d => d.door.state = 12 ∧ d.pilot.dr ≠ 1)
    && meets (.loopMode 1 2) maint (fun d => 2 ≠ 0 ∧ d.door.state = 12 ∧ d.axisMoving 1 = false ∧ d.pilot.dr ≠ 1)
    && meets (.loopManual 0 1000) manual (fun d => d.door.state = 12 ∧ (d.pilot.modeOf 0).mode ≠ 0
        ∧ ((toSigned 32 1000).natAbs : Int) ≤ (if (d.pilot.modeOf 0).mode = 1 then d.par P.PILOT_I_MAX else d.drive.vbus))
    && meets (.injectStart 0 3 1 0 1000 0 0 0 3 1 16) maint (fun d => loopOfAxis 0 3 = true ∧ d.pointExists 3 1 = true
        ∧ signalFails 0 0 0 0 = none ∧ d.door.state = 12 ∧ d.pilot.inject = none ∧ (d.pilot.modeOf 0).mode = 0)
    && meets (.pilotFlagsClear 0 0xFFFFFFFF) base (fun _ => True)
    && meets (.tableWrite 8 0 511 [32767]) base (fun d => ((8 : Nat) = 8 → (0 : Nat) = 0) ∧ 511 + 1 ≤ 512
        ∧ (∀ v ∈ ([32767] : List Nat), ((toSigned 16 v).natAbs : Int) ≤ 32767) ∧ d.axisMoving 1 = false ∧ d.axisOrder 1 = false)
    && meets (.tableWrite 0 1 2047 [0]) base (fun d => 2047 + 1 ≤ 2048
        ∧ (∀ v ∈ ([0] : List Nat), ((toSigned 16 v).natAbs : Int) ≤ d.par P.PILOT_FRIC_MAX / 10) ∧ d.axisMoving 0 = false ∧ d.axisOrder 0 = false)
    && meets (.compareArm 3 2 2 0) (sextWith fun x => { x with ref := 1 })
        (fun d => d.par P.SEXT_SOFT_LOW ≤ toSigned 32 0 ∧ toSigned 32 0 ≤ d.par P.SEXT_SOFT_HIGH ∧ d.sext.ref ≠ 0)
    && meets (.captureRead 0 1) (pilotWith fun p => { p with capture := [(0, 0)] }) (fun d => 0 < d.pilot.capture.length ∧ 1 ≤ 1 ∧ 1 ≤ 125)
    && meets (.axisState 1) base (fun _ => True) && meets (.pilotFlags 1) base (fun _ => True)
    && meets (.tableRead 8 0 1023 1) base (fun _ => 1023 + 1 ≤ 1024) && meets (.tableRead 2 1 1548 500) base (fun _ => 1548 + 500 ≤ 2048)
    && meets .latchRead base (fun _ => True) && meets .driveStatus base (fun _ => True) ) = true := by decide +kernel

theorem hyp_PlannerEvents : (
    due (leafWith fun l => { l with inPosSince := some gone }) (fun d => up d ∧ d.leaf.atTarget = false ∧ d.leaf.inPosSince = some gone ∧ ms 10 ≤ d.now - gone)
    && due (stepWith fun s => { s with atTarget := false, inPosSince := some gone })
        (fun d => up d ∧ d.step.atTarget = false ∧ d.step.inPosSince = some gone ∧ ms 10 ≤ d.now - gone)
    && due (leafWith fun l => { l with ownBase := { v := 1000000 * planQ }, ownTime := sec 1000, own := [{ num := 4, dur := none }] }) (fun d => up d ∧ d.leaderOverdue = true)
    && due base (fun d => up d ∧ d.sext.ptSector = none)
    && due (leafWith fun l => { l with leaderWait := some gone, next := some { target := 0, toEnd := false } })
        (fun d => up d ∧ d.leaf.leaderWait = some gone ∧ d.leaf.next = some { target := 0, toEnd := false } ∧ gone ≤ d.now)
    && due (stepWith id) (fun d => d.live = true ∧ 2 ≤ 2 ∧ d.par P.SYS_STEP_FITTED ≠ 0 ∧ d.step.slimExt.level ≠ true)
    && due (stepWith fun s => { s with refsw := { level := true, since := gone } }) (fun d => d.live = true ∧ d.step.refsw.level = true
        ∧ d.step.refsw.stable = false ∧ ms (d.parN P.PLAN_HOME_STABLE) ≤ d.now - d.step.refsw.since)
    && due (stepWith fun s => { s with home := 1 }) (fun d => up d ∧ d.step.home ≠ 0)
    && due (stepWith id) (fun d => d.live = true ∧ d.par P.SYS_STEP_FITTED = 1 ∧ d.step.reduced = false ∧ d.step.phases = [] ∧ d.step.stalled = false
        ∧ ms (d.parN P.PLAN_STEP_HOLD_DELAY) ≤ d.now - d.step.stillSince)
    && due { leafWith fun l => { l with stillSince := some gone } with drive := { base.drive with leaf := { mode := 2 } } }
        (fun d => d.live = true ∧ d.leaf.reduced = false ∧ d.door.state ≠ 2 ∧ d.door.state ≠ 9 ∧ d.pilot.leafMode.mode = 0 ∧ d.pilot.short = false
          ∧ d.door.landfall.busy = false ∧ d.modulating = true ∧ d.leaf.stillSince = some gone ∧ ms (d.parN P.PLAN_HOLD_DELAY) ≤ d.now - gone)
    && due (stepWith fun s => { s with home := 1 }) (fun d => d.step.home ≠ 0 ∧ d.homingSwitch ≤ 2
        ∧ (if d.homingSwitch = 0 then d.step.shome.level else if d.homingSwitch = 1 then d.step.slimRet.level else d.step.slimExt.level) ≠ true
        ∧ 2 ≠ d.homingSwitch)
    && due (stepWith fun s => { s with home := 1 }) (fun d => d.step.home ≠ 0 ∧ d.homingSwitch ≤ 2
        ∧ (if d.homingSwitch = 0 then d.step.shome.level else if d.homingSwitch = 1 then d.step.slimRet.level else d.step.slimExt.level) ≠ true
        ∧ d.par P.SYS_STEP_FITTED ≠ 0)
    && due (stepWith id) (fun d => d.step.home = 0 ∧ d.step.slimExt.level ≠ true)
    && due (stepWith fun s => { s with tripped := true }) (fun d => d.leaf.inbox = [] ∧ d.step.tripped = true) ) = true := by decide +kernel

/-- An injection of the leaf. -/
def leafInjection : Injection :=
  { axis := 0, loop := 3, point := 1, signal := 0, amplitude := 0, p1 := 0, p2 := 0, p3 := 0, respLoop := 3, respPoint := 1, decimation := 1, slot := 0 }

theorem hyp_SamplesAndLoopEvents : (
    due base (fun d => d.live = true ∧ d.pilot.samples % 5 = 0 ∧ d.pilot.samples % 20 = 0)
    && due { pilotWith fun p => { p with vObs := 1000000 } with
          sext := { base.sext with edgeTimes := [gone] }, drive := { base.drive with leaf := { mode := 2 } } }
        (fun d => d.live = true ∧ d.edgeOverdue = true)
    && due (pilotWith fun p => { p with dr := 1, endStop := true }) (fun d => d.ready = true ∧ d.live = true ∧ d.pilot.dr = 1 ∧ d.pilot.endStop = true)
    && due (pilotWith fun p => { p with leafMode := { mode := 1, toAuto := true } })
        (fun d => d.live = true ∧ d.pilot.samples % 20 = 0 ∧ (d.pilot.modeOf 0).mode ≠ 0 ∧ (d.pilot.modeOf 0).toAuto = true)
    && due (pilotWith fun p => { p with inject := some leafInjection, capture := List.replicate 4096 (0, 0) })
        (fun d => d.live = true ∧ d.pilot.inject.isSome = true ∧ 4096 ≤ d.pilot.capture.length)
    && due (pilotWith fun p => { p with inject := some leafInjection })
        (fun d => d.live = true ∧ d.pilot.inject = some leafInjection ∧ d.door.state ≠ 12) ) = true := by decide +kernel

theorem hyp_HallCodes : (
    due State.reset.dev (fun d => d.live = false) && due base (fun d => (0 : Nat) = d.sext.code) && decide (7 < 8)
    && due base (fun d => d.live = true ∧ 7 ≠ d.sext.code ∧ 7 ≤ 7 ∧ hallSector 7 = none)
    && due base (fun d => d.live = true ∧ 1 ≠ d.sext.code ∧ (hallSector 1).isSome = true ∧ d.sext.sector = none)
    && (List.range 6).all (fun old => due (sextWith fun x => { x with sector := some old, illegal := false }) fun d =>
        d.sext.illegal = false ∧ d.sext.sector = some old ∧ d.live = true ∧ 1 ≠ d.sext.code)
    && (List.range 6).any (fun old => (((hallSector 1).getD 0) + 6 - old) % 6 = 1) && (List.range 6).any (fun old => (((hallSector 1).getD 0) + 6 - old) % 6 = 5)
    && (List.range 6).any (fun old => (((hallSector 1).getD 0) + 6 - old) % 6 = 3)
    && due (setPar P.SYS_DRIVE_ROLE 2 base) (fun d => d.live = true ∧ d.par P.SYS_DRIVE_ROLE = 2 ∧ 7 ≠ d.sext.ptCode)
    && due (sextWith fun x => { x with edgeTimes := [gone], edgeKnown := gone }) (fun d => d.live = true ∧ d.sext.illegal = false
        ∧ d.sext.edgeTimes ≠ [] ∧ ms (d.parN P.SEXT_SPEED_TIMEOUT) ≤ d.now - d.sext.edgeKnown) ) = true := by decide +kernel

/-- The soft limits hold the counter, which stands at `c` with this overrun. -/
def limitedAt (c over_ : Int) : Dev := sextWith fun x => { x with ref := 1, counter := c, overrun := over_ }

theorem hyp_CountedEdges :
    base.softHeld = false ∧ (limitedAt 0 1).softHeld = true ∧ (limitedAt 0 1).sext.overrun ≠ 0
    ∧ ((limitedAt base.softHigh 0).softHeld = true ∧ (limitedAt base.softHigh 0).softHigh < (limitedAt base.softHigh 0).sext.counter + 256)
    ∧ ((limitedAt base.softLow 0).softHeld = true ∧ (limitedAt base.softLow 0).sext.counter - 256 < (limitedAt base.softLow 0).softLow)
    ∧ ((limitedAt 0 0).softLow ≤ (limitedAt 0 0).sext.counter + 256 ∧ (limitedAt 0 0).sext.counter + 256 ≤ (limitedAt 0 0).softHigh) := by decide +kernel

theorem hyp_CompareUnitsIdle : State.reset.dev.sext.units ≠ [] ∧ (base.enterReset [0]).sext.units ≠ [] := by decide +kernel

/-- A device whose bridges all modulate. -/
def driving : Dev := driveWith fun v => { v with leaf := { mode := 2 }, stepA := { mode := 2 }, stepB := { mode := 2 } }

theorem hyp_DriveEvents : (
    due driving (fun d => d.live = true ∧ 6 ≤ 6 ∧ (d.drive.bridge (bridgeOf 6)).mode ≠ 0 ∧ (d.drive.leg 6).suspectLow = false
        ∧ (d.drive.leg 6).suspectHigh = false ∧ (d.drive.leg 6).gateFault = false)
    && due (driveWith fun v => { v with leaf := { v.leaf with mode := 4 } })
        (fun d => d.live = true ∧ 2 ≤ 6 ∧ (d.drive.bridge (bridgeOf 2)).mode = 4 ∧ (d.drive.leg 2).suspectLow = false)
    && due base (fun d => d.live = true ∧ 7999 < 8000)
    && due (driveWith fun v => { v with stepB := { mode := 1, precharge := some gone } })
        (fun d => d.live = true ∧ 2 ≤ 2 ∧ (d.drive.bridge 2).precharge = some gone ∧ gone ≤ d.now)
    && due base (fun d => d.parN P.DRV_VBUS_OV ≤ d.parN P.DRV_VBUS_OV ∧ d.drive.overVoltage = false ∧ d.live = true)
    && due (driveWith fun v => { v with overVoltage := true }) (fun d => d.live = true ∧ d.drive.overVoltage = true
        ∧ 0 + d.parN P.DRV_VBUS_HYST < d.parN P.DRV_VBUS_OV)
    ) = true := by decide +kernel

theorem hyp_BridgeLatch : 2 < 3 ∧ (0 < 3 ∧ 0 ≠ 2) ∧ (driving.drive.bridge 2).latched = false := by decide +kernel


/-! ### Skin and loads -/

/-- A device with port A in this condition. -/
def portWith (q : Port) (d : Dev) : Dev := { d with skin := { d.skin with ports := [q, {}, {}] } }

/-- A tile without faults. -/
def aTile : Tile := { type := 1, serial := 1, hw := 0, fw := 0, endOfChain := true }

/-- A port that runs with one tile and one contact. -/
def running : Port := { state := 3, tiles := [aTile], rows := List.replicate 32 {}, contacts := [{}] }

theorem hyp_SkinCommands : (
    meets (.skinPortSet 0 0) (inState 10 base) (fun d => d.portLink 0 ≠ 0 ∧ d.door.state = 10)
    && meets (.skinPortSet 2 1) base (fun d => d.portLink 2 ≠ 0) && meets (.skinPortSet 1 2) base (fun d => d.portLink 1 ≠ 0 ∧ d.inMotion = false)
    && meets (.skinBaselineRebuild 1) (portWith running base) (fun d => d.inMotion = false ∧ d.skin.rebuildOrder = none
        ∧ ∀ p ∈ portsOf 1, (d.port p).state = 3 ∨ (d.port p).state = 4)
    && meets (.skinBaselineRebuild 0) base (fun d => d.inMotion = false ∧ d.skin.rebuildOrder = none ∧ portsOf 0 = [])
    && meets (.skinPortStatus 2) base (fun _ => True) && meets (.skinTileList 2) base (fun _ => True)
    && meets (.skinFrameRead 0 4 255 1 0 32) (portWith running base) (fun d => 255 + 1 ≤ 256 * (d.port 0).tiles.length ∧ 0 + 32 ≤ 32 ∧ 1 * 32 ≤ 480)
    && meets (.contactList 0 0 0 24) (portWith running base) (fun d => 0 < (d.port 0).contacts.length)
    && meets (.contactList 2 1 64 8) base (fun d => (d.port 2).state = 0)
    && meets .obstacleState base (fun _ => True) && meets .dragState base (fun _ => True) && meets .legacyEdgeStatus base (fun _ => True) ) = true := by
  decide +kernel

/-- A frame runs on a device whose port A is this. -/
def inFrame (q : Port) : Dev := let d := portWith q base; { d with skin := { d.skin with running := true } }

theorem hyp_SkinEvents : (
    due base (fun d => d.live = true)
    && due (inFrame running) (fun d => d.live = true ∧ d.skin.running = true ∧ (d.port 0).framed = true)
    && due (portWith running base) (fun d => d.live = true ∧ d.portLink 0 ≠ 0 ∧ (d.port 0).state ≠ 0)
    && due (portWith { running with tiles := [{ aTile with faults := 1 }] } base) (fun d => d.live = true ∧ d.portLink 0 ≠ 0 ∧ (d.port 0).state ≠ 0
        ∧ (d.port 0).state ≠ 5 ∧ (d.port 0).tiles ≠ [] ∧ ∀ t ∈ (d.port 0).tiles, t.faults ≠ 0)
    && due (portWith { state := 1, trainStart := some 0 } base) (fun d => d.live = true ∧ d.portLink 0 ≠ 0 ∧ (d.port 0).trainStart.isSome = true)
    && due (portWith { state := 5, cause := 1, retryAt := some gone } base) (fun d => d.live = true ∧ d.portLink 0 ≠ 0 ∧ (d.port 0).retryAt = some gone ∧ gone ≤ d.now)
    && due (portWith { running with rebuild := some 16 } base) (fun d => d.live = true ∧ (d.port 0).rebuild = some 16)
    && due (setPar P.SKIN_A_EDGE 1 base) (fun d => d.live = true ∧ d.excOn = true ∧ 9499 < 9500 ∧ d.skin.excFault = false)
    && due { base with skin := { base.skin with edges := [{ hold := some gone }, {}, {}] } } (fun d => d.live = true ∧ (d.edge 0).hold = some gone ∧ gone ≤ d.now)
    ) = true := by decide +kernel

/-- A packet of tile 0, row 31, frame 0: bytes of zeros under a right check. -/
def rowPacket (type n : Nat) : List Byte :=
  let body := u8 type ++ u8 0 ++ u8 0 ++ u8 31 ++ u16 n ++ List.replicate n 0#8
  body ++ u32 (crc32c body)

theorem hyp_TilePackets :
    let d := inFrame running
    d.skin.running = true ∧ (d.port 0).framed = true ∧ 0 < d.skin.ports.length
    ∧ 8 ≤ (d.port 0).frameCodes + 8 ∧ ((d.port 0).frameCodes + 7 < 8 ∧ 7 ≠ 0)
    ∧ ([] : List Byte).length ≠ fieldAt 4 2 [] + 10
    ∧ (let b := rowPacket 0x12 32
       b.length = fieldAt 4 2 b + 10 ∧ crc32c (b.take (6 + fieldAt 4 2 b)) = fieldAt (6 + fieldAt 4 2 b) 4 b ∧ fieldAt 2 1 b = d.skin.frame % 256
         ∧ tileLength (fieldAt 0 1 b) ((b.drop 6).take (fieldAt 4 2 b)) = fieldAt 4 2 b ∧ fieldAt 1 1 b % 16 < (d.port 0).tiles.length
         ∧ fieldAt 3 1 b < 32 ∧ (d.port 0).scan ≠ 2)
    ∧ (let b := rowPacket 0x10 40
       b.length = fieldAt 4 2 b + 10 ∧ crc32c (b.take (6 + fieldAt 4 2 b)) = fieldAt (6 + fieldAt 4 2 b) 4 b ∧ fieldAt 2 1 b = d.skin.frame % 256
         ∧ tileLength (fieldAt 0 1 b) ((b.drop 6).take (fieldAt 4 2 b)) = fieldAt 4 2 b ∧ fieldAt 1 1 b % 16 < (d.port 0).tiles.length) := by
  decide +kernel

/-- A device with these channels' settings: channel `n` of kind 1 and in this condition. -/
def loadWith (n : Nat) (c : Channel) (d : Dev) : Dev :=
  setPar (P.loadField n 0) 1 { d with load := { d.load with channels := setAt n c d.load.channels } }

/-- The jury's copy of the pair enable, the mask and the map. -/
def juryWith (pairs mask map : Nat) (d : Dev) : Dev := { d with nv := { d.nv with jury := some (pairs, mask, map) } }

theorem hyp_LoadCommands : (
    meets (.lchSet 0xFFE 0) base (fun d => ∀ n ∈ List.range 12, bitAt 0xFFE n = true → (bitAt 0 n = true → d.chKind n ≠ 0)
        ∧ d.pairOfCh n = none ∧ d.isLock n = false)
    && meets (.lchSet 2 2) (loadWith 1 {} base) (fun d => d.chKind 1 ≠ 0 ∧ d.pairOfCh 1 = none ∧ d.isLock 1 = false)
    && meets (.lchUnlatch 0xFFF) base (fun _ => True)
    && meets (.lchOffTest 2) (loadWith 1 {} base) (fun d => d.load.testOrder = none ∧ ∀ n ∈ List.range 12, bitAt 2 n = true → d.chKind n ≠ 0)
    && meets (.juryMaskSet 0 0 0) base (fun d => juryRange 0 0 0 = none ∧ d.load.jury = false ∧ d.inMotion = false
        ∧ firstFailure [P.LCH_PAIR_ENABLE] (d.parWith (juryWrites 0 0 0)) = none)
    && meets .lchStatus base (fun _ => True) && meets .juryStatus base (fun _ => True) ) = true := by decide +kernel

theorem hyp_LoadEvents : (
    due (loadWith 11 { on := true, inrushEnd := sec 1001 } base) (fun d => (d.ch 11).on = true ∧ d.now < (d.ch 11).inrushEnd)
    && due (loadWith 11 { on := true } base) (fun d => (d.ch 11).on = true ∧ (d.ch 11).inrushEnd ≤ d.now)
    && due (loadWith 0 { pauseEnd := some gone } base) (fun d => (d.ch 0).pauseEnd = some gone ∧ gone ≤ d.now)
    && due (loadWith 0 { on := true, onSince := sec 999 } base) (fun d => (d.ch 0).on = true ∧ sec 1 ≤ d.now - (d.ch 0).onSince)
    && due (loadWith 0 { thermal := true } base) (fun d => (d.ch 0).thermal = true ∧ 1600 ≤ 1600)
    && due base (fun d => d.supply.vhv = true)
    && due (loadWith 8 { on := true, below := 10 } base) (fun d => d.supply.vhv = true ∧ (d.ch 8).on = true ∧ 10 ≤ (d.ch 8).below ∧ (d.ch 8).darkOn = false)
    && due (loadWith 8 { on := true, above := 10, darkOn := true } base)
        (fun d => d.supply.vhv = true ∧ (d.ch 8).on = true ∧ 10 ≤ (d.ch 8).above ∧ (d.ch 8).darkOn = true)
    && due (let d := loadWith 1 {} base; { d with load := { d.load with testOrder := some (0, 2, []) } })
        (fun d => d.chKind 1 ≠ 0 ∧ (d.ch 1).demand = false ∧ d.supply.vhv = true ∧ d.load.testOrder = some (0, 2, []) ∧ bitAt 2 1 = true)
    && due (setPar (P.loadField 1 6) 1 (loadWith 1 {} base)) (fun d => d.chKind 1 ≠ 0 ∧ (d.ch 1).demand = false ∧ d.supply.vhv = true
        ∧ d.parN (P.loadField 1 6) = 1 ∧ ms 50 ≤ d.now - (d.ch 1).demandOff ∧ ms (d.parN P.LCH_OFF_TEST_PERIOD) ≤ d.now - (d.ch 1).testAt)
    && due (loadWith 3 { offAt := gone } base) (fun d => d.live = true ∧ (d.ch 3).freewheel = false ∧ (d.ch 3).on = false ∧ (-1001 : Int) < -1000
        ∧ ms 1 ≤ d.now - (d.ch 3).offAt ∧ (d.ch 3).offAt ≠ 0)
    && due base (fun d => d.load.jury ≠ true ∧ d.supply.vhv = true)
    && due base (fun d => 3 ≤ 3 ∧ d.load.jin.getD 3 false ≠ true ∧ d.supply.vhv = true ∧ sec 1 ≤ d.now - d.load.jinAt.getD 3 0) ) = true := by decide +kernel

theorem hyp_DemandTable : (
    due State.reset.dev (fun d => d.supply.vhv = false) && due (setPar (P.loadField 0 0) 0 base) (fun d => d.chKind 0 = 0)
    && due (let d := juryWith 0 2 0 (loadWith 1 {} base); { d with load := { d.load with jury := true } })
        (fun d => d.supply.vhv = true ∧ d.chKind 1 ≠ 0 ∧ d.load.jury = true ∧ bitAt d.juryCopy.2.1 1 = true)
    && due (juryWith 1 0 0 (loadWith 9 {} (loadWith 8 { failed := true } base))) (fun d => d.supply.vhv = true ∧ d.chKind 9 ≠ 0 ∧ d.load.jury = false
        ∧ d.pairOfCh 9 = some (0, false) ∧ (d.ch (primaryOf 0)).failed = true)
    && due (loadWith 0 {} base) (fun d => d.supply.vhv = true ∧ d.chKind 0 ≠ 0 ∧ d.load.jury = false ∧ d.live = true
        ∧ d.parN P.DOOR_LOCK_CHANNEL = 0 ∧ d.door.state ≠ 12 ∧ d.pairOfCh 0 = none)
    && due (juryWith 1 0 0 (loadWith 8 { failed := true } base)) (fun d => d.supply.vhv = true ∧ d.chKind 8 ≠ 0 ∧ d.load.jury = false ∧ d.live = true
        ∧ d.parN P.DOOR_LOCK_CHANNEL ≠ 8 ∧ d.supply.reef = 0 ∧ d.supply.dieHot.getD 1 false = false ∧ d.door.flashing = false
        ∧ d.pairOfCh 8 = some (0, true) ∧ (d.ch 8).failed = true)
    && due (loadWith 8 {} base) (fun d => d.supply.vhv = true ∧ d.chKind 8 ≠ 0 ∧ d.load.jury = false ∧ d.live = true
        ∧ d.parN P.DOOR_LOCK_CHANNEL ≠ 8 ∧ d.supply.reef = 0 ∧ d.supply.dieHot.getD 1 false = false ∧ d.door.flashing = false ∧ d.pairOfCh 8 = none) ) = true := by
  decide +kernel

theorem hyp_HostOrdersKept : 11 < base.load.channels.length ∧ ((loadWith 8 { order := true } base).demandRow 8).1 = 9 := by decide +kernel

theorem hyp_TriesAndPauses :
    (loadWith 0 { on := true } base).tripHolds 0 4 = true
    ∧ ((1 : Nat) ≠ 4 ∧ 3 ≤ 2 + 1 ∧ 1 + 1 < 3) ∧ ((4 : Nat) = 4 ∧ ¬ (sec 1 - 0 ≤ ms 10) ∧ (0 : Nat) ≠ 1)
    ∧ (here (loadWith 11 { on := true, onSince := sec 999 } base)).load.channels.length = 12
    ∧ ((here (loadWith 11 { on := true, onSince := sec 999 } base)).ch 11).on = true
    ∧ sec 1 ≤ (here (loadWith 11 { on := true, onSince := sec 999 } base)).now
        - ((here (loadWith 11 { on := true, onSince := sec 999 } base)).ch 11).onSince := by decide +kernel

theorem hyp_RestartConditions :
    11 < base.load.channels.length ∧ ms 11 - (base.ch 11).onSince > ms 10
    ∧ (let d := loadWith 11 { latched := true, thermal := true } base; d.chKind 11 ≠ 0 ∧ (d.ch 11).latched = true)
    ∧ (let d := loadWith 11 { thermal := true, pauseEnd := some 0 } base; (d.ch 11).latched = false ∧ (d.ch 11).thermal = true)
    ∧ (let d := loadWith 11 { pauseEnd := some 0 } base; (d.ch 11).latched = false ∧ (d.ch 11).thermal = false ∧ (d.ch 11).pauseEnd.isSome = true) := by
  decide +kernel


/-! ### Binnacle, buses, Chronometer and Log -/

/-- A ready device with this much of Binnacle set. -/
def binWith (f : Binnacle → Binnacle) : Dev := { base with bin := f base.bin }

/-- A device whose values in force pass the checks of SEAL_CONFIRM and stand in the stored image: connection 0 takes the vehicle telegram on CAN FD. -/
def sealable : Dev :=
  let d := setPar (P.connField 0 0) 3 (setPar (P.busField 0 0) 2 (binWith fun b => { b with selfTest := true }))
  { d with nv := { d.nv with image := some d.prm.working } }

theorem hyp_BinnacleCommands : (
    meets .sealStatus base (fun _ => True) && meets .safeIo base (fun _ => True) && meets .safeFunctions base (fun _ => True)
    && meets .telegramStatus base (fun _ => True) && meets .binDiag base (fun _ => True)
    && meets .debugEnable base (fun d => d.bin.isSealed = false)
    && due sealable (fun d => d.host.isOpen = true ∧ d.freeEntry = some 0 ∧ d.openFor 0x91 = true
        ∧ d.host.flights = [] ∧ d.inMotion = false ∧ d.sealChecks = none ∧ d.imageAgrees = true ∧ d.bin.classA = false ∧ d.bin.selfTest = true)
    ) = true := by decide +kernel

/-- The value and the grade of SEAL_CONFIRM fit its body, whatever the grade of the module is. -/
theorem hyp_SealConfirmFits (d : Dev) : wfCmd (.sealConfirm (d.sealOver d.storedValues) (Config.grade % 256)) = true := by
  exact Bool.and_eq_true_iff.2 ⟨decide_eq_true (BitVec.isLt _), decide_eq_true (Nat.mod_lt _ (by decide))⟩

theorem hyp_BinnacleEvents : (
    due (supplyWith fun u => { u with step := 9 }) (fun d => d.binRuns = true)
    && decide (2000 ≤ 2000 ∧ 1999 < 2000)
    && due (binWith fun b => { b with out1 := { energised := true, current := 2000 } }) (fun d => d.binRuns = true ∧ 1 ≤ 1
        ∧ (d.bin.out 1).energised = true ∧ 2000 ≤ (d.bin.out 1).current ∧ ms 100 ≤ d.now - (d.bin.out 1).pulsed)
    && due (binWith fun b => { b with out0 := { energised := true, lowSince := some gone } }) (fun d => d.binRuns = true
        ∧ (d.bin.out 0).lowSince = some gone ∧ sec 1 ≤ d.now - gone ∧ (d.bin.out 0).energised = true ∧ (d.bin.out 0).loopOpen = false)
    && due (binWith fun b => { b with dragStill := some gone }) (fun d => d.binRuns = true ∧ d.bin.dragStill = some gone ∧ sec 1 ≤ d.now - gone)
    && due base (fun d => d.binRuns = true ∧ d.bin.hallCode ≠ 7) && due base (fun d => d.binRuns = true ∧ ms 500 ≤ d.now - d.bin.lastEdge)
    && due (binWith fun b => { b with demandSince := some gone })
        (fun d => d.binRuns = true ∧ d.bin.unproven = false ∧ d.bin.demandSince = some gone ∧ d.bin.anyEdge = false ∧ ms 100 ≤ d.now - gone)
    && due (binWith fun b => { b with unproven := true }) (fun d => d.binRuns = true ∧ d.bin.unproven = true ∧ d.bin.unprovenInhibit = false
        ∧ sec (d.parN P.BIN_UNPROVEN_MAX) ≤ d.now - d.bin.unprovenSince)
    && due base (fun d => 9 ≤ 9 ∧ 9 ≠ 5 ∧ 9 ≠ 6 ∧ 0 < d.supply.step ∧ d.supply.mode = 0)
    && due base (fun d => d.binRuns = true ∧ d.bin.report.seq = none) && due State.reset.dev (fun d => ¬ d.binRuns = true) ) = true := by decide +kernel

theorem hyp_ClassAFault : base.supply.mode = 0 := rfl

theorem hyp_FaultPin : base.supply.mode = 0 ∧ State.reset.dev.supply.step < 13 ∧ 2 ≤ 2 ∧ base.host.stands 17 0xFF = false
    ∧ (State.reset.dev.startStep4 { bankBad := 3 }).1 = false := by decide +kernel

/-- A sealed device with every safe input made, the pinch line clear and one tick short of its proving time. -/
def proving : Dev :=
  let d := binWith fun b => { b with isSealed := true, channels := List.replicate 16 { level := true }, reading := 0 }
  { d with bin := { d.bin with prove := d.parN P.BIN_PROVE_TIME - 1 } }

theorem hyp_SafeOutputs :
    base.proveConds.all id = false ∧ proving.proveConds.all id = true ∧ proving.bin.out0.holdUntil = none
    ∧ proving.parN P.BIN_PROVE_TIME ≤ proving.bin.prove + 1 ∧ proving.tickProved.bin.out0.energised = true
    ∧ (proving.supply.vhv = true ∧ proving.supply.reef < 4)
    ∧ ¬ ((supplyWith fun u => { u with vhv := false }).supply.vhv = true ∧ (supplyWith fun u => { u with vhv := false }).supply.reef < 4)
    ∧ (binWith fun b => { b with out0 := { energised := true } }).bin.out0.holdUntil = none
    ∧ (setPar P.BIN_SOUT1_ENABLE 0 base).par P.BIN_SOUT1_ENABLE = 0
    ∧ (let d := setPar P.BIN_SOUT1_ENABLE 1 (binWith fun b => { b with isSealed := true })
       (d.supply.vhv = true ∧ d.supply.reef < 4) ∧ d.bin.isSealed = true ∧ 13 ≤ d.supply.step ∧ d.bin.classA = false ∧ d.bin.out1.fault = false ∧ d.par P.BIN_SOUT1_ENABLE = 1 ∧ d.bin.drag = false
         ∧ d.bin.out1.holdUntil = none ∧ d.tickTraction.bin.out1.energised = true)
    ∧ (base.bin.view ≠ 0 ∧ (binWith fun b => { b with violation := true }).bin.violation = true ∧ base.bin.drag = false)
    ∧ base.bin.pinchStands = false ∧ base.bin.violation = false := by decide +kernel

theorem hyp_SealGainedAndLost : (binWith fun b => { b with sealBroken := some 7 }).bin.sealBroken = some 7 ∧ base.bin.sealBroken = none := by
  decide +kernel

/-- A ready device whose controller A is this, on CAN XL. -/
def busWith (b : Bus) : Dev := { base with bus := { base.bus with a := b } }

/-- Controller A error-active, with object 127 a send object. -/
def active : Bus := { state := 2, mode := 3, table := { dirs := 2 ^ 111 } }

/-- A frame of object 127 that is pending. -/
def pendingSend : SendObject := { object := 127, frame := { ident := 0x100, format := 2 }, slot := 3, deadline := some gone }

theorem hyp_BusCommands : (
    meets (.busStatus 1) base (fun _ => True)
    && meets (.busRecover 0 100) (busWith { active with state := 4 }) (fun d => 60000 ≤ 60000 ∧ (d.busOf 0).state = 4)
    && meets (.busSend 0 127 0x100 2 0 0 0 0 1 0 [1#8]) (busWith active) (fun d => bitAt (d.busOf 0).table.dirs (127 - 16) = true
        ∧ (d.busOf 0).sendOf 127 = none ∧ (d.busOf 0).running = true ∧ carries (d.busOf 0).mode 2 = true ∧ (d.busOf 0).listen = false)
    && meets (.busRead 0 0 16 1 0 0) (busWith active) (fun d => bitAt (d.busOf 0).table.dirs (16 - 16) = false
        ∧ (sget ({} : RxBuffer) 16 (d.busOf 0).buffers).entry = none)
    && meets (.busRead 0 1 7 0 0 1) (busWith { active with prioBuffers := [(7, { entry := some ({ data := [1#8] }, 0, false) })] })
        (fun d => 0 + 1 ≤ (((sget ({} : RxBuffer) 7 (d.busOf 0).prioBuffers).entry.getD ({}, 0, false)).1.data.length))
    && meets (.busTxCancel 0 127) (busWith active) (fun d => bitAt (d.busOf 0).table.dirs (127 - 16) = true)
    && meets (.busFilterLoad 0 0 0 (List.replicate 28 0#8)) base (fun _ => guardFilter 0 0 (List.replicate 28 0#8) = none)
    && meets (.busFilterApply 0) (busWith active) (fun d => d.bus.a.shadow = none ∧ d.bus.a.table.rules = [] ∧ d.bus.a.sends = [])
    && meets (.busFilterDiscard 0) base (fun _ => True) ) = true := by decide +kernel

theorem hyp_BusEvents : (
    due (busWith active) (fun d => 7 ≤ d.supply.step ∧ (d.busOf 0).running = true ∧ carries (d.busOf 0).mode 4 = true)
    && due (busWith { active with sends := [pendingSend] }) (fun d => (d.busOf 0).running = true ∧ (d.busOf 0).listen = false
        ∧ (d.busOf 0).committed = none ∧ (chooseFrame (d.pendingFrames 0)).isSome = true)
    && due (busWith { active with state := 5 }) (fun d => (d.busOf 0).state = 5)
    && due (busWith { active with state := 5, recover := some (3, gone) }) (fun d => (d.busOf 0).recover = some (3, gone) ∧ gone ≤ d.now)
    && due (busWith { active with sends := [pendingSend] }) (fun d => (d.busOf 0).committed ≠ some 127 ∧ (d.busOf 0).sendOf 127 = some pendingSend
        ∧ pendingSend.deadline = some gone ∧ gone ≤ d.now)
    && due (busWith { active with state := 7 }) (fun d => (d.busOf 0).state = 7 ∧ (d.busOf 0).committed = none)
    && due (busWith { active with mode := 2 }) (fun d => (d.busOf 0).mode = 2 ∧ (d.busOf 0).running = true)
    && due (busWith { active with state := 1 }) (fun d => (d.busOf 0).state = 1) ) = true := by decide +kernel

theorem hyp_BusOffSilent : (1 ≤ 1 ∧ (here (busWith { active with state := 4 })).busOf 0 = { active with state := 4 }) := by decide +kernel

/-- A device that shares the time of the master of rank 3, whose message before this it holds. -/
def slaved : Dev :=
  setPar P.CHRON_ROLE 1 { base with chron := { base.chron with state := 3, rank := some 3, heard := some (sec 1000), prev := some (3, 65535, 7) } }

/-- A reference message of rank 3: valid time, a stamp and no discontinuity, with this count and stamp. -/
def refMessage (flags : Nat) : List Byte := u8 3 ++ u8 flags ++ u16 0 ++ u64 5

/-- A master of rank 5. -/
def mastering : Dev := setPar P.CHRON_ROLE 2 (setPar P.CHRON_RANK 5 { base with chron := { base.chron with state := 5, rank := some 5 } })

theorem hyp_ReferenceMessages : (
    due (setPar P.CHRON_ROLE 0 base) (fun d => d.par P.CHRON_ROLE = 0) && due slaved (fun d => d.par P.CHRON_ROLE ≠ 0 ∧ (refMessage 3).length = 12 ∧ ([] : List Byte).length ≠ 12)
    && due mastering (fun d => d.par P.CHRON_ROLE ≠ 0 ∧ d.chron.state = 5 ∧ ¬ (fieldAt 0 1 (refMessage 2) < d.parN P.CHRON_RANK ∧ bitAt (fieldAt 1 1 (refMessage 2)) 0 = true))
    && due mastering (fun d => d.par P.CHRON_ROLE ≠ 0 ∧ d.chron.state = 5 ∧ fieldAt 0 1 (refMessage 3) < d.parN P.CHRON_RANK ∧ bitAt (fieldAt 1 1 (refMessage 3)) 0 = true)
    && due slaved (fun d => d.chron.state ≠ 5
        ∧ (({ d with chron := { d.chron with references := 0 } } : Dev).chronMaster (some 3)).chron.prev = some (fieldAt 0 1 (refMessage 3), 65535, 7)
        ∧ (65535 + 1) % 65536 = fieldAt 2 2 (refMessage 3) ∧ bitAt (fieldAt 1 1 (refMessage 3)) 0 = true ∧ bitAt (fieldAt 1 1 (refMessage 3)) 1 = true
        ∧ bitAt (fieldAt 1 1 (refMessage 1)) 1 = false)
    && due slaved (fun d => d.par P.CHRON_ROLE ≠ 0 ∧ d.chron.state ≠ 5 ∧ d.chron.heard = some (sec 1000) ∧ d.now - sec 1000 < 3 * ms (d.parN P.CHRON_REF_PERIOD))
    && meets (.chronSet 0) slaved (fun d => d.chron.state ≠ 5)
    && due base (fun d => ({ d with chron := { d.chron with state := 3 } } : Dev).timeValid = true ∧ d.timeValid = false)
    && due slaved (fun d => d.timeValid = true ∧ d.chron.rank = some 3 ∧ d.chron.rank ≠ none) ) = true := by decide +kernel

theorem hyp_ChronometerAndTelegramRows : (
    meets (.chronSet 0) (setPar P.CHRON_ROLE 0 base) (fun d => d.par P.CHRON_ROLE = 0) && meets .chronRead base (fun _ => True)
    && meets (.chronSet 0) (setPar P.CHRON_ROLE 1 { base with chron := { base.chron with heard := some gone } })
        (fun d => d.par P.CHRON_ROLE = 1 ∧ d.chron.heard = some gone ∧ 3 * d.refPeriod ≤ d.now - gone)
    && due (setPar P.CHRON_ROLE 1 base) (fun d => d.live = true ∧ d.deviceRoute (d.parN P.CHRON_REF_BUS) { ident := d.parN P.CHRON_REF_ID + 7, format := 2 } = some .reference)
    && due { base with chron := { base.chron with state := 5 } } (fun d => d.live = true ∧ d.chron.state = 5 ∧ d.refPeriod ≤ d.now - d.chron.sentAt)
    && due (setPar P.CHRON_ROLE 2 (setPar P.CHRON_REF_BUS 0 { busWith active with chron := { base.chron with state := 4 } }))
        (fun d => d.live = true ∧ d.par P.CHRON_ROLE = 2 ∧ d.chron.state ≠ 5 ∧ d.timeValid = true ∧ (d.busOf (d.parN P.CHRON_REF_BUS)).running = true
          ∧ 3 * d.refPeriod + d.parN P.CHRON_RANK * d.refPeriod / 8 ≤ d.now - d.chron.refSeen)
    && due { base with chron := { base.chron with state := 3 } } (fun d => d.live = true ∧ d.chron.state = 3 ∧ 3 * d.refPeriod ≤ d.now - d.chron.usable)
    && due (setPar P.CHRON_HOLDOVER 60 { base with chron := { base.chron with state := 4 } })
        (fun d => d.live = true ∧ d.chron.state = 4 ∧ sec (d.parN P.CHRON_HOLDOVER) ≤ d.now - d.chron.heldAt)
    && due (setPar (P.connField 11 0) 5 base) (fun d => d.ready = true ∧ d.live = true ∧ d.connKind 11 = 5 ∧ ms 10 ≤ d.now - (d.conn 11).builtAt)
    && due { base with chron := { base.chron with conns := [{ sinceBuilt := 10 }] } } (fun d => d.ready = true ∧ d.live = true ∧ d.connKind 0 ≠ 5 ∧ 10 ≤ (d.conn 0).sinceBuilt)
    && due (setPar (P.connField 0 0) 3 base) (fun d => d.live = true
        ∧ d.deviceRoute (d.parN (P.connField 0 1)) { ident := d.parN (P.connField 0 2), format := connFormat (d.parN (P.connField 0 4)) } = some (.connection 0))
    && due (setPar (P.connField 0 0) 4 { base with chron := { base.chron with conns := [{ valid := true, last := some gone }] } })
        (fun d => d.live = true ∧ (d.conn 0).valid = true ∧ d.connKind 0 = 4 ∧ ms 30 ≤ d.now - (d.conn 0).last.getD d.now)
    && due (setPar (P.connField 0 0) 3 { base with chron := { base.chron with conns := [{ valid := false, last := some gone, ticks := 30 }] } })
        (fun d => d.live = true ∧ d.connKind 0 = 3 ∧ (d.conn 0).last.isSome = true ∧ (d.conn 0).expired = false ∧ 30 ≤ (d.conn 0).ticks) ) = true := by decide +kernel

/-- A device with connection 0 receiving the vehicle telegram under identity 7. -/
def listening : Dev := setPar (P.connField 0 0) 3 (setPar (P.connField 0 3) 7 base)

/-- A vehicle telegram of this sequence with a payload of zeros. -/
def telegram (seq : Nat) : FrameIn := { ident := 0, data := telegramBytes 7 seq 3 0 (List.replicate (payloadLength 3) 0#8) }

theorem hyp_ReferenceDiscipline : base.chron.state = 0
    ∧ (let d : Dev := { base with chron := { base.chron with state := 3 } }
       d.chron.state ≠ 0 ∧ ¬ (us (d.parN P.CHRON_STEP_LIMIT) : Int) < (us (d.parN P.CHRON_STEP_LIMIT) : Int).natAbs
         ∧ (us (d.parN P.CHRON_STEP_LIMIT) : Int) < ((us (d.parN P.CHRON_STEP_LIMIT) : Int) + 1).natAbs) := by decide +kernel

theorem hyp_TelegramsChecked :
    0 < listening.chron.conns.length ∧ listening.live = true ∧ listening.connKind 0 = 3
    ∧ ((listening.receiveTelegram 0 { ident := 0 }).conn 0).checkErrors = 1
    ∧ (let d := listening.receiveTelegram 0 (telegram 1); ((d.receiveTelegram 0 (telegram 2)).conn 0).payload ≠ (d.conn 0).payload) := by decide +kernel

/-- A device with one record and one trace in the Log. -/
def logged : Dev :=
  let d := base.putTrace 511 { state := 2 }
  { d with nv := { d.nv with header := some { next := 1 } } }

/-- A ready device with this much of the Log's work set. -/
def logWith (f : Log → Log) : Dev := { base with log := f base.log }

/-- A ready device whose Log has failed, one with a capture running, and one with as many traces pinned as there may be. -/
def noLog : Dev := { logged with nv := { logged.nv with header := some { next := 1, failed := true } } }
def capturing : Dev := { logged with log := { logged.log with capture := some { slot := 0, period := 2 } } }
def fullyPinned : Dev := { logged with nv := { logged.nv with header := some { next := 1, pinned := 512 } } }

theorem hyp_LogCommandsAndEvents : (
    meets .logStatus base (fun _ => True)
    && meets (.logRead 0xFFFFFFFF 20) logged (fun d => d.logFailed = false ∧ d.header.oldest ≤ max d.header.oldest (d.header.next - 20))
    && meets (.logRead 0 1) logged (fun d => d.logFailed = false ∧ d.header.oldest ≤ 0 ∧ 0 + 1 ≤ d.header.next)
    && meets (.traceList 511 1) logged (fun d => d.logFailed = false ∧ 511 + 1 ≤ 512)
    && meets (.traceRead 511 7232 960) logged (fun d => d.logFailed = false ∧ 7232 + 960 ≤ 8192)
    && meets (.traceCapture 64 255 1) base (fun d => d.logFailed = false ∧ d.log.capture = none ∧ d.supply.reef = 0)
    && meets (.tracePin 511 1) logged (fun d => d.logFailed = false ∧ d.nv.traceOrder.contains 511 = true ∧ (traceHdr d.nv.main 511).state ≠ 0
        ∧ d.header.pinned < d.parN P.LOG_PIN_MAX)
    && meets (.logErase 7) base (fun d => d.inMotion = false ∧ d.log.capture = none ∧ d.bin.isSealed = false)
    && [HostCmd.logRead 0 1, .traceList 0 1, .traceRead 0 0 1, .traceCapture 1 0 0, .tracePin 0 1].all (fun c => meets c noLog (fun d => d.logFailed = true))
    && meets (.logRead 0 0) logged (fun d => d.logFailed = false ∧ 0 < 1) && meets (.logRead 0 21) logged (fun d => d.logFailed = false ∧ 20 < 21)
    && meets (.logRead 1 1) logged (fun d => d.logFailed = false ∧ d.header.next < 1 + 1)
    && meets (.traceList 512 1) logged (fun d => d.logFailed = false ∧ 511 < 512) && meets (.traceList 511 2) logged (fun d => d.logFailed = false ∧ 512 < 511 + 2)
    && meets (.traceRead 512 0 1) logged (fun d => d.logFailed = false) && meets (.traceRead 511 8192 1) logged (fun d => d.logFailed = false ∧ 8192 < 8192 + 1)
    && meets (.traceRead 511 0 961) logged (fun d => d.logFailed = false ∧ 960 < 961)
    && meets (.traceCapture 65 0 0) logged (fun d => d.logFailed = false ∧ 64 < 65) && meets (.traceCapture 64 254 0) logged (fun d => d.logFailed = false)
    && meets (.traceCapture 64 253 0) capturing (fun d => d.logFailed = false ∧ d.log.capture.isSome = true)
    && meets (.traceCapture 64 255 0) { logged with supply := { base.supply with reef := 1 } }
        (fun d => d.logFailed = false ∧ d.log.capture = none ∧ 1 ≤ d.supply.reef)
    && meets (.tracePin 512 0) logged (fun d => d.logFailed = false) && meets (.tracePin 0 0) logged (fun d => d.logFailed = false ∧ d.traceFree 0 = true)
    && meets (.tracePin 511 1) fullyPinned (fun d => d.logFailed = false ∧ d.traceFree 511 = false ∧ (traceHdr d.nv.main 511).pinned = false
        ∧ d.parN P.LOG_PIN_MAX ≤ d.header.pinned)
    && meets (.logErase 7) rolling (fun d => d.inMotion = true)
    && meets (.logErase 7) capturing (fun d => d.inMotion = false ∧ d.log.capture.isSome = true)
    && meets (.logErase 7) { logged with bin := { base.bin with isSealed := true } }
        (fun d => d.inMotion = false ∧ d.log.capture = none ∧ d.bin.isSealed = true ∧ d.logFailed = false)
    && due (logWith fun l => { l with run := { l.run with ended := [{ kind := 1 }] } }) (fun d => d.log.run.ended = [{ kind := 1 }])
    && due (logWith fun l => { l with triggers := [(1, 65535, 0)] }) (fun d => d.log.triggers = [(1, 65535, 0)] ∧ d.logFailed = false ∧ d.log.capture = none)
    && due { noLog with log := { noLog.log with triggers := [(1, 65535, 0)] } } (fun d => d.log.triggers = [(1, 65535, 0)] ∧ d.logFailed = true)
    && due { capturing with log := { capturing.log with triggers := [(1, 65535, 0)] } } (fun d => d.log.triggers = [(1, 65535, 0)] ∧ d.logFailed = false
        ∧ d.log.capture = some { slot := 0, period := 2 })
    && due capturing (fun d => ∃ c, d.log.capture = some c ∧ c.updates < c.period)
    && due (logWith fun l => { l with capture := some { slot := 0, period := 1, updates := 1 } }) (fun d => ∃ c, d.log.capture = some c ∧ c.period ≤ c.updates ∧ c.samples < 254)
    && due (logWith fun l => { l with capture := some { slot := 0, period := 1, updates := 1, samples := 254 } })
        (fun d => ∃ c, d.log.capture = some c ∧ c.period ≤ c.updates ∧ 254 ≤ c.samples)
    && due (logWith fun l => { l with run := { l.run with ended := [{}] } }) (fun d => up d ∧ d.log.run.ended ≠ [])
    && due (logWith fun l => { l with tablesDue := true }) (fun d => up d ∧ d.log.tablesDue = true)
    && due (logWith fun l => { l with run := { l.run with active := true } }) (fun d => up d ∧ d.log.run.active = true ∧ d.logFailed = false)
    && due (logWith fun l => { l with triggers := [(1, 65535, 0)] }) (fun d => up d ∧ d.log.triggers ≠ [])
    && due { logWith fun l => { l with run := { l.run with active := true } } with now := sec 100000 } (fun d => up d ∧ d.log.run.active = true
        ∧ d.log.run.record.kind = 3 ∧ sec (d.parN P.LOG_QUIET_MAX) ≤ d.now - d.log.run.began)
    && due (logWith fun l => { l with capture := some { slot := 0, period := 1, samples := 254 } })
        (fun d => d.live = true ∧ d.log.capture = some { slot := 0, period := 1, samples := 254 }) ) = true := by decide +kernel

theorem hyp_MemoryReadsBack : Memory.wf [] = true ∧ Memory.wf (memStore [] 48 [1#8, 0#8, 2#8]) = true := by decide +kernel

theorem hyp_CastRecord : Memory.wf logged.nv.main = true ∧ logged.nv.main ≠ [] := by decide +kernel


/-! ### Tests against values that the manual prints -/

/-- The ASCII string "123456789", over which the manual prints check values. -/
def ascii : List Byte := [0x31#8, 0x32#8, 0x33#8, 0x34#8, 0x35#8, 0x36#8, 0x37#8, 0x38#8, 0x39#8]

/-- R101 prints 0xE3069283, R129 prints 0x29B1. -/
theorem test_host_checks : crc32c ascii = 0xE3069283 ∧ crc16 ascii = 0x29B1 := by decide +kernel

/-- R470 prints 0xCBF43926; R534 prints 0x1697D06A for the initial value of identity 0. -/
theorem test_safety_checks : crc32 ascii = 0xCBF43926 ∧ telegramCheck 0 ascii = 0x1697D06A := by decide +kernel

/-- The header and the body of ECHO with one byte, written out from R100: sync, opcode, tag, flags, length, reserved, header check, body, body check. -/
theorem test_packet_layout : (packet 0x0D 5 0 [0x77#8]).take 7 = [0xA5#8, 0x0D#8, 0x05#8, 0x00#8, 0x01#8, 0x00#8, 0x00#8]
    ∧ (packet 0x0D 5 0 [0x77#8]).length = 13 ∧ (packet 0x0D 5 0 [0x77#8]).getD 8 0 = 0x77#8 := by decide +kernel

/-- R6: at car 4 a target of 1,000 µm is stored as 137 sub-edges and reads back as 1,003 µm. -/
theorem test_position_round_trip :
    (setPar P.SEXT_UM_PER_EDGE 1875 base).subOfUm 1000 = 137 ∧ (setPar P.SEXT_UM_PER_EDGE 1875 base).umOfSub 137 = 1003 := by decide +kernel

/-- The closing limits of car 4 (example after R199). -/
def closing : Limits := { speed := 500000, acc := 800000, dec := 800000, jerk := 4000000, finalSpeed := 50000, finalDist := 40000 }

/-- The example's phases, in units of 10 ns: 0.2, 0.425 and 0.2 s, 0.400625 s, 0.2, 0.3625 and 0.2 s, 0.688196 s, and twice 0.111803 s. -/
theorem test_closing_stroke : ((planMove { p := 656250 * planQ } 0 closing true).map fun l => l.map fun p => (p.num, p.dur.map (· / 100))) = some [
    (1, some 200000), (2, some 425000), (3, some 200000), (4, some 400625), (5, some 200000), (6, some 362500), (7, some 200000),
    (8, some 688196), (9, some 111803), (11, some 111803)] := by decide +kernel

/-- The example of a lower deceleration: from 340,000 µm/s at −800,000 µm/s² the stop takes 160,250 µm. -/
theorem test_stop_distance : roundDiv (stopDist { v := 340000 * planQ, a := -800000 * planQ } 300000 4000000) planQ = 160250 := by decide +kernel

/-- R90, at 110 V: entry thresholds of the four stages, and the recovery threshold of Reef 4; the floors at 24 V. -/
theorem test_reef_thresholds : (List.range 4).map (fun n => reefThreshold 5 (n + 1)) = [77000, 68200, 60500, 49500] ∧ reefRecovery 5 4 = 55000
    ∧ (List.range 4).map (fun n => reefThreshold 0 (n + 1)) = [18000, 16800, 15600, 14400] := by decide +kernel

/-- The shorted heater of car 4: pauses of 10, 20 and 40 ms, the third of a thermal off within 10 ms of the switch-on. -/
theorem test_retry_pauses :
    let one := ({ on := true } : Channel).trip 2 (us 40030) 4 10 0
    let two := ({ one with on := true } : Channel).trip 3 (us 50240) 4 10 0
    let three := ({ two with on := true, onSince := us 70240 } : Channel).trip 4 (us 70390) 4 10 0
    one.pauseEnd = some (us 50030) ∧ two.pauseEnd = some (us 70240) ∧ three.pauseEnd = some (us 110390) ∧ three.tries = 3 := by decide +kernel

/-- R275: codes 1, 3, 2, 6, 4, 5 are sectors 0 to 5, and codes 0 and 7 are none. -/
theorem test_hall_sectors : [1, 3, 2, 6, 4, 5].map hallSector = (List.range 6).map some ∧ hallSector 0 = none ∧ hallSector 7 = none := by decide +kernel

/-- What the device is after this command at `d`, or `d` where the command does not complete. -/
def after (i : Instr) (d : Dev) : Dev := match exec i (at0 d) with
  | .next s => s.dev
  | _ => d

/-- ECHO is answered with opcode 0x8D, the command's tag, status DONE and its bytes (R103, R614). -/
theorem test_echo : ((after (.echo 0 head [0x77#8]) base).host.out.map fun p => p.bytes) = [packet 0x8D 5 0 [0x00#8, 0x77#8]] := by decide +kernel

/-- A packet whose body check is wrong is answered 0x02, with its tag (R111). -/
theorem test_body_check : ((after (.packetReceived 0 ((packet 0x0D 5 0 [0x77#8]).take 12 ++ [0x00#8])) base).host.out.map fun p => p.bytes)
    = [packet 0x8D 5 0 [0x02#8]] := by decide +kernel

/-- DOOR_OPEN while Isolated is refused with STATE, guard 1, and no order waits (R175). -/
theorem test_isolated_refuses_open : ((after (.doorOpen 0 head 0) (permitted 10)).door.inbox = [])
    ∧ (((after (.doorOpen 0 head 0) (permitted 10)).host.out.map fun p => (p.bytes.drop 8).take 2) = [[0x0F#8, 0x01#8]]) := by decide +kernel

/-- Time passes for every command: 1 s is 10^8 ticks of 10 ns, and at no correction the Chronometer moves as far (R522). -/
theorem test_time_passes : (after (.spiTransactionEnd (sec 1)) base).now = sec 1001 ∧ (after (.spiTransactionEnd (sec 1)) base).chron.time = sec 1 := by
  decide +kernel

/-- An edge in the opening direction adds 256 sub-edges, and one back takes them away (R278). -/
theorem test_hall_edges :
    let d := after (.hallStateChange 0 3) (after (.hallStateChange 0 1) base)
    d.sext.counter = 256 ∧ (after (.hallStateChange 0 1) d).sext.counter = 0 := by decide +kernel

/-- RST_N low for 10 µs sets cause bit 1, and for less than 1 µs does nothing (R82). -/
theorem test_rst_n : ((after (.rstNLow 0 (us 10)) base).nv.keep.cause = 3) ∧ (after (.rstNLow 0 (us 1 - 1)) base).supply.step = 13 := by decide +kernel

/-- A frame that comes whole enters the FIFO, and the 65th is counted as lost (R494). -/
theorem test_fifo_of_64 :
    let full : Bus := { active with fifo := List.replicate 64 { frame := {}, stamp := 0, inBusOff := false, table := 0 } }
    (after (.busFrameReceived 0 0 { ident := 1 }) (busWith active)).bus.a.fifo.length = 1
    ∧ (after (.busFrameReceived 0 0 { ident := 1 }) (busWith full)).bus.a.fifo.length = 64
    ∧ (after (.busFrameReceived 0 0 { ident := 1 }) (busWith full)).bus.a.counts.overflows = 1 := by decide +kernel

/-- The queue is first in, first out: the front command runs, and the rest stays. -/
theorem test_queue : (match step { pending := [.spiTransactionEnd 7, .debugReset 0], dev := base } with
    | .next s => (s.pending, s.dev.now)
    | _ => ([], 0)) = ([.debugReset 0], sec 1000 + 7) := by decide +kernel

/-- With nothing waiting, a step changes nothing. -/
theorem test_idle : step (at0 base) = .next (at0 base) := rfl


end Sys2Proof.Tests
end

section
/-! SUPPORT. The load channels (chapter 12): what one changed channel leaves of the others, what no demand changes of any, and the orders, tries and restart conditions of R410 to R414. -/

namespace Sys2Proof.Laws

open Sys2Proof Sys2Proof.Machine

/-! ### A channel after a change of one channel -/

/-- An entry of a numbered list is the list's entry with its number. -/
theorem getElem?_numFrom {α : Type} (l : List α) (i k : Nat) : (numFrom i l)[k]? = l[k]?.map fun x => (i + k, x) := by
  induction l generalizing i k with
  | nil => simp [numFrom]
  | cons x xs ih =>
    cases k with
    | zero => simp [numFrom]
    | succ k => simp [numFrom, ih, Nat.add_assoc, Nat.add_comm 1 k]

/-- An entry of a list changed entry by entry with its number. -/
theorem getD_map_numbered {α β : Type} (f : Nat × α → β) (l : List α) (x : α) (y : β) (n : Nat) (h : n < l.length) :
    ((numbered l).map f).getD n y = f (n, l.getD n x) := by
  simp [numbered, List.getD_eq_getElem?_getD, getElem?_numFrom, List.getElem?_eq_getElem h]

/-- The channel that is changed. -/
theorem ch_modCh_same (f : Channel → Channel) (d : Dev) (n : Nat) (h : n < d.load.channels.length) : (d.modCh n f).ch n = f (d.ch n) :=
  (getD_modAt f {} d.load.channels n n h).trans (if_pos rfl)

/-- A change of a channel that is not there. -/
theorem ch_modCh_past (f : Channel → Channel) (d : Dev) (n m : Nat) (h : d.load.channels.length ≤ n) : (d.modCh n f).ch m = d.ch m :=
  congrArg (fun l => l.getD m {}) (modAt_past f d.load.channels n h)

/-- Every other channel is as it was. -/
theorem ch_modCh_ne (f : Channel → Channel) (d : Dev) (n m : Nat) (h : m ≠ n) : (d.modCh n f).ch m = d.ch m := by
  rcases Nat.lt_or_ge n d.load.channels.length with hn | hn
  · exact (getD_modAt f {} d.load.channels n m hn).trans (if_neg h)
  · exact ch_modCh_past f d n m hn

/-- What a change of one channel keeps of every channel, it keeps in the device. -/
theorem ch_modCh_keeps {α : Type} (g : Channel → α) (f : Channel → Channel) (hf : ∀ c, g (f c) = g c) (d : Dev) (n m : Nat) :
    g ((d.modCh n f).ch m) = g (d.ch m) := by
  rcases Nat.lt_or_ge n d.load.channels.length with hn | hn
  · by_cases hm : m = n
    · subst hm; rw [ch_modCh_same f d m hn, hf]
    · rw [ch_modCh_ne f d n m hm]
  · rw [ch_modCh_past f d n m hn]

/-- The channels are those of the load block. -/
theorem ch_congr {d e : Dev} (h : d.load.channels = e.load.channels) (n : Nat) : d.ch n = e.ch n := by unfold Dev.ch; rw [h]

/-! ### What no demand changes (R410, R414) -/

/-- The host's order and the protection state of a channel, the rest left at its reset value. -/
def lasting (c : Channel) : Channel :=
  { order := c.order, tries := c.tries, latched := c.latched, pauseEnd := c.pauseEnd, thermal := c.thermal }

/-- Applying a demand switches, it neither orders nor protects. -/
theorem applyDemand_lasting (d : Dev) (n m : Nat) : lasting ((d.applyDemand n).ch m) = lasting (d.ch m) := by
  unfold Dev.applyDemand
  refine ch_modCh_keeps lasting _ (fun c => ?_) d n m
  dsimp only
  split
  · rfl
  · split <;> rfl

theorem applyDemands_lasting (ns : List Nat) (d : Dev) (m : Nat) : lasting ((Dev.applyDemands ns d).ch m) = lasting (d.ch m) := by
  induction ns generalizing d with
  | nil => rfl
  | cons n ns ih => exact (ih _).trans (applyDemand_lasting d n m)

/-- A primary that fails is marked so, and its protection state stays (R421). -/
theorem failPrimary_lasting (n why : Nat) (d : Dev) (m : Nat) : lasting ((d.failPrimary n why).ch m) = lasting (d.ch m) := by
  unfold Dev.failPrimary
  split
  · split
    · rfl
    · rw [ch_congr (congrArg Load.channels (Dev.raise_load ..))]
      exact ch_modCh_keeps lasting (fun c => { c with failed := true }) (fun _ => rfl) d n m
  · rfl

theorem judgePrimary_lasting (p : Nat) (d : Dev) (m : Nat) : lasting ((d.judgePrimary p).ch m) = lasting (d.ch m) := by
  unfold Dev.judgePrimary
  split
  · exact failPrimary_lasting _ 2 d m
  · rfl

/-- "Lamp pair dark" is reported and changes no channel (R421). -/
theorem judgePair_load (p : Nat) (d : Dev) : (d.judgePair p).load = d.load := by
  unfold Dev.judgePair
  dsimp only
  split
  · simp
  · split <;> simp

/-- An order of off-state tests that ends changes no channel (R429). -/
theorem judgeTests_channels (d : Dev) : d.judgeTests.load.channels = d.load.channels := by
  unfold Dev.judgeTests
  split
  · rfl
  · dsimp only
    split <;> simp

/-- Evaluating every demand keeps every host order and every protection state. -/
theorem refreshLoads_lasting (d : Dev) (m : Nat) : lasting (d.refreshLoads.ch m) = lasting (d.ch m) := by
  unfold Dev.refreshLoads
  rw [ch_congr (judgeTests_channels _), ch_congr (congrArg Load.channels (judgePair_load 1 _)), ch_congr (congrArg Load.channels (judgePair_load 0 _)),
    applyDemands_lasting, judgePrimary_lasting, judgePrimary_lasting]

@[simp] theorem refreshLoads_order (d : Dev) (n : Nat) : (d.refreshLoads.ch n).order = (d.ch n).order :=
  (congrArg Channel.order (refreshLoads_lasting d n) :)
@[simp] theorem refreshLoads_pauseEnd (d : Dev) (n : Nat) : (d.refreshLoads.ch n).pauseEnd = (d.ch n).pauseEnd :=
  (congrArg Channel.pauseEnd (refreshLoads_lasting d n) :)
@[simp] theorem refreshLoads_thermal (d : Dev) (n : Nat) : (d.refreshLoads.ch n).thermal = (d.ch n).thermal :=
  (congrArg Channel.thermal (refreshLoads_lasting d n) :)

/-! ### The demand applied (R409) -/

/-- The demand a channel is left with is the one its row decides. -/
theorem applyDemand_demand (d : Dev) (n : Nat) (h : n < d.load.channels.length) : ((d.applyDemand n).ch n).demand = (d.demandRow n).2 := by
  unfold Dev.applyDemand
  rw [ch_modCh_same _ d n h]
  dsimp only
  split
  · rfl
  · split <;> rfl

/-- A channel conducts after its demand is applied exactly when the demand is on and no protection state holds it off. -/
theorem applyDemand_on (d : Dev) (n : Nat) (h : n < d.load.channels.length) :
    ((d.applyDemand n).ch n).on = ((d.demandRow n).2 && !(d.ch n).held) := by
  unfold Dev.applyDemand
  rw [ch_modCh_same _ d n h]
  dsimp only
  generalize ((d.demandRow n).2 && !(d.ch n).held) = on
  split
  case isTrue hon => exact hon.1.symm
  case isFalse hon =>
    split
    case isTrue hoff => simpa using hoff.1
    case isFalse hoff =>
      cases on with
      | false => simpa using hoff
      | true => simpa using hon

/-- Applying a demand keeps the protection state of every channel. -/
theorem applyDemand_protection (d : Dev) (n m : Nat) :
    ((d.applyDemand n).ch m).latched = (d.ch m).latched ∧ ((d.applyDemand n).ch m).pauseEnd = (d.ch m).pauseEnd
      ∧ ((d.applyDemand n).ch m).thermal = (d.ch m).thermal ∧ ((d.applyDemand n).ch m).tries = (d.ch m).tries :=
  have kept := applyDemand_lasting d n m
  ⟨(congrArg Channel.latched kept :), (congrArg Channel.pauseEnd kept :), (congrArg Channel.thermal kept :), (congrArg Channel.tries kept :)⟩

theorem held_eq_false (c : Channel) : c.held = false ↔ c.latched = false ∧ c.pauseEnd = none ∧ c.thermal = false := by
  simp only [Channel.held, Bool.or_eq_false_iff, Option.isSome_eq_false_iff, Option.isNone_iff_eq_none]
  tauto

/-- Row 9 is the host's order. -/
theorem ownDemand_of_row9 (d : Dev) (n : Nat) (h : (d.ownDemand n).1 = 9) : (d.ownDemand n).2 = (d.ch n).order := by
  revert h
  unfold Dev.ownDemand
  split_ifs <;> simp

/-- Where no row before the ninth applies, the demand is the host's order (R409, R410). -/
theorem demandRow_of_row9 (d : Dev) (n : Nat) (h : (d.demandRow n).1 = 9) : (d.demandRow n).2 = (d.ch n).order := by
  revert h
  unfold Dev.demandRow
  split
  · simp
  · split
    · split
      · simp
      · exact ownDemand_of_row9 d n
    · dsimp only
      split
      · simp
      · exact ownDemand_of_row9 d n
    · exact ownDemand_of_row9 d n

/-! ### Host orders (R410) -/

/-- Where every order is off, so is that of a channel that is not there. -/
theorem order_off_of_all (d : Dev) (n : Nat) (h : ∀ c ∈ d.load.channels, c.order = false) : (d.ch n).order = false := by
  unfold Dev.ch
  rw [List.getD_eq_getElem?_getD]
  cases e : d.load.channels[n]? with
  | none => rfl
  | some c => exact h c (List.mem_of_getElem? e)

/-- A reset leaves every host order off. -/
theorem enterReset_order (causes : List Nat) (d : Dev) (n : Nat) : ((d.enterReset causes).ch n).order = false := by
  unfold Dev.enterReset
  rw [refreshLoads_order]
  exact order_off_of_all _ n (List.forall_mem_map.2 fun _ _ => rfl)

/-- LCH_SET replaces the orders of the channels it names and no other. -/
theorem lchSet_order (channels states : Nat) (d : Dev) (n : Nat) (h : n < d.load.channels.length) :
    ((d.lchSet channels states).ch n).order = if bitAt channels n then bitAt states n else (d.ch n).order := by
  unfold Dev.lchSet
  rw [refreshLoads_order]
  refine (congrArg Channel.order (getD_map_numbered _ d.load.channels {} {} n h)).trans ?_
  dsimp only
  split <;> rfl

/-- Settles O43: a row below the ninth overrides the order and never writes it, for no demand touches what `lasting` holds. -/
theorem hostOrdersKept : Obligations.HostOrdersKept := by
  unfold Obligations.HostOrdersKept
  refine ⟨fun n => ?_, enterReset_order, lchSet_order, refreshLoads_order, fun d n hn _ h9 => ?_⟩
  · exact order_off_of_all State.reset.dev n (by decide)
  · have order := demandRow_of_row9 d n h9
    exact ⟨order, (applyDemand_demand d n hn).trans order⟩

/-! ### Tries and pauses (R412) -/

/-- A trip counts as a try unless it is a thermal off later than 10 ms after the switch-on. -/
theorem countsAsTry_iff (cause now onSince : Nat) : countsAsTry cause now onSince = true ↔ cause ≠ 4 ∨ now - onSince ≤ ms 10 := by
  simp [countsAsTry]

section trip

variable (c : Channel) (cause now retryMax pause mode : Nat)

/-- Only a channel that conducts can trip. -/
theorem on_of_tripHolds (d : Dev) (n : Nat) (h : d.tripHolds n cause = true) : (d.ch n).on = true := by
  simp only [Dev.tripHolds, Bool.and_eq_true] at h
  exact h.1

/-- A trip turns the channel off, with its time and cause. -/
theorem trip_goes_off : (c.trip cause now retryMax pause mode).on = false ∧ (c.trip cause now retryMax pause mode).offAt = now
    ∧ (c.trip cause now retryMax pause mode).lastTrip = cause := by
  unfold Channel.trip
  dsimp only
  split_ifs <;> exact ⟨rfl, rfl, rfl⟩

theorem trip_tries : (c.trip cause now retryMax pause mode).tries = if countsAsTry cause now c.onSince then c.tries + 1 else c.tries := by
  unfold Channel.trip
  dsimp only
  split_ifs <;> rfl

variable {c cause now retryMax} in
/-- The try that reaches the maximum latches the channel. -/
theorem trip_last_try (h : countsAsTry cause now c.onSince = true) (hk : retryMax ≤ c.tries + 1) : (c.trip cause now retryMax pause mode).latched = true := by
  simp [Channel.trip, h, hk]

variable {c cause now retryMax mode} in
/-- A try below the maximum starts the pause that its number sets. -/
theorem trip_earlier_try (h : countsAsTry cause now c.onSince = true) (hk : c.tries + 1 < retryMax) (hm : cause ≠ 4 ∨ mode ≠ 1) :
    (c.trip cause now retryMax pause mode).latched = c.latched
      ∧ (c.trip cause now retryMax pause mode).pauseEnd = some (now + ms (pause * 2 ^ c.tries)) := by
  have hl : ¬ (retryMax ≤ c.tries + 1 ∨ cause = 4 ∧ mode = 1) := by omega
  simp [Channel.trip, h, hl]

variable {c cause now mode} in
/-- A thermal off that is no try latches nothing where the thermal mode does not. -/
theorem trip_no_try_latched (h : countsAsTry cause now c.onSince = false) (hm : mode ≠ 1) : (c.trip cause now retryMax pause mode).latched = c.latched := by
  simp [Channel.trip, h, hm]

variable {c cause now} in
/-- A thermal off that is no try leaves the pause as it is, in every thermal mode. -/
theorem trip_no_try_pauseEnd (h : countsAsTry cause now c.onSince = false) : (c.trip cause now retryMax pause mode).pauseEnd = c.pauseEnd := by
  simp only [Channel.trip, h, Bool.false_eq_true, false_and, false_or, if_false]
  split <;> rfl

end trip

/-- Settles O44: the clauses are those of one trip, and the count ends as its row says. -/
theorem triesAndPauses : Obligations.TriesAndPauses := by
  unfold Obligations.TriesAndPauses
  refine ⟨fun d n cause => on_of_tripHolds cause d n, fun c cause now retryMax pause mode => ?_, fun dt n s hl hn hon hsec => ?_⟩
  · dsimp only
    obtain ⟨off, offAt, lastTrip⟩ := trip_goes_off c cause now retryMax pause mode
    have tries := trip_tries c cause now retryMax pause mode
    rw [← countsAsTry_iff, Bool.not_eq_true]
    refine ⟨off, offAt, lastTrip, fun h => ?_, fun h => ?_, trip_last_try pause mode, trip_earlier_try pause, fun h hm => ?_⟩
    · rw [tries, if_pos h]
    · rw [tries, h]; rfl
    · exact ⟨trip_no_try_latched retryMax pause h hm, trip_no_try_pauseEnd retryMax pause mode h⟩
  · have ended : (s.later dt).triesReset n = (s.later dt).modCh n fun c => { c with tries := 0 } := if_pos ⟨hon, hsec⟩
    have same := ch_modCh_same (fun c => { c with tries := 0 }) (s.later dt) n (by omega)
    refine ⟨_, leaves_intro (f := Dev.triesReset n) rfl ended, rfl, ?_, ?_, fun other ho => ch_modCh_ne _ _ n other ho⟩
    · rw [same]
    · rw [same]; exact hon

/-! ### Restart conditions (R414) -/

/-- The end of a thermal off keeps every pause. -/
theorem thermalEnds_pauseEnd (d : Dev) (n m : Nat) (temp : Int) : ((d.thermalEnds n temp).ch m).pauseEnd = (d.ch m).pauseEnd := by
  unfold Dev.thermalEnds
  split
  · rw [refreshLoads_pauseEnd]
    exact ch_modCh_keeps Channel.pauseEnd (fun c => { c with thermal := false, temp := temp }) (fun _ => rfl) d n m
  · rfl

/-- The end of a pause keeps every thermal off. -/
theorem pauseEnds_thermal (d : Dev) (n m : Nat) : ((d.pauseEnds n).ch m).thermal = (d.ch m).thermal := by
  unfold Dev.pauseEnds
  split
  · split
    · rfl
    · rw [refreshLoads_thermal]
      exact ch_modCh_keeps Channel.thermal (fun c => { c with pauseEnd := none }) (fun _ => rfl) d n m
  · rfl

/-- Settles O45: a channel conducts when its demand is on and `Channel.held` is false, and the state reported reads the same three fields in order. -/
theorem restartConditions : Obligations.RestartConditions := by
  unfold Obligations.RestartConditions
  intro d n hn
  refine ⟨⟨?_, applyDemand_protection d n n⟩, fun now retryMax pause mode late => ?_,
    fun temp => ⟨thermalEnds_pauseEnd d n n temp, pauseEnds_thermal d n n⟩, fun hk => ⟨?_, ?_, ?_⟩⟩
  · rw [applyDemand_on d n hn, Bool.and_eq_true, Bool.not_eq_true', held_eq_false]
  · have untried : countsAsTry 4 now (d.ch n).onSince = false := by
      rw [← Bool.not_eq_true, countsAsTry_iff]; omega
    exact trip_no_try_pauseEnd retryMax pause mode untried
  · intro latched; simp [Dev.chState, hk, latched]
  · intro latched thermal; simp [Dev.chState, hk, latched, thermal]
  · intro latched thermal paused; simp [Dev.chState, hk, latched, thermal, paused]

end Sys2Proof.Laws
end

section
/-! SUPPORT. The FAULT_N pad (R579): its causes, the supply through the evaluation of the load demands, which a reset ends with, and the standing conditions after an event. -/

namespace Sys2Proof.Laws

open Sys2Proof Sys2Proof.Machine

/-! ### What drives the pad -/

/-- The causes of R579; Parked and Dormant release the pad. -/
theorem faultN_iff (d : Dev) :
    d.faultN = true ↔ d.supply.mode = 0 ∧ (d.supply.step < 13 ∨ d.bin.classA = true ∨ ∃ c ∈ d.host.standing, 2 ≤ c.severity) := by
  simp [Dev.faultN, Dev.ready, Dev.faultStands, or_assoc]

/-- Cause 1: start-up has not reached step 13. -/
theorem faultN_of_starting {d : Dev} (running : d.supply.mode = 0) (starting : d.supply.step < 13) : d.faultN = true :=
  (faultN_iff d).2 ⟨running, .inl starting⟩

/-- Cause 3: a standing condition of severity 2 or 3. -/
theorem faultN_of_standing {d : Dev} {c : Standing} (running : d.supply.mode = 0) (holds : c ∈ d.host.standing) (severe : 2 ≤ c.severity) : d.faultN = true :=
  (faultN_iff d).2 ⟨running, .inr (.inr ⟨c, holds, severe⟩)⟩

/-- The pad reads the supply, Binnacle and the standing conditions, and nothing else. -/
theorem faultN_congr {d e : Dev} (supply : d.supply = e.supply) (bin : d.bin = e.bin) (standing : d.host.standing = e.host.standing) : d.faultN = e.faultN := by
  rw [Bool.eq_iff_iff, faultN_iff, faultN_iff, supply, bin, standing]

/-! ### The supply through a reset (R82) -/

theorem applyDemands_supply (ns : List Nat) (d : Dev) : (Dev.applyDemands ns d).supply = d.supply := by
  induction ns generalizing d with
  | nil => rfl
  | cons n ns ih => exact ih (d.applyDemand n)

theorem failPrimary_supply (n why : Nat) (d : Dev) : (d.failPrimary n why).supply = d.supply := by
  unfold Dev.failPrimary
  split
  · split
    · rfl
    · rw [Dev.raise_supply, Dev.modCh_supply]
  · rfl

theorem judgePrimary_supply (p : Nat) (d : Dev) : (d.judgePrimary p).supply = d.supply := by
  unfold Dev.judgePrimary
  split
  · exact failPrimary_supply ..
  · rfl

theorem judgePair_supply (p : Nat) (d : Dev) : (d.judgePair p).supply = d.supply := by
  unfold Dev.judgePair
  dsimp only
  split
  · exact Dev.onset_supply ..
  · split
    · exact Dev.clearing_supply ..
    · rfl

theorem judgeTests_supply (d : Dev) : d.judgeTests.supply = d.supply := by
  unfold Dev.judgeTests
  split
  · rfl
  · dsimp only
    split
    · exact Dev.done_supply ..
    · rfl

/-- Evaluating every demand leaves the supply as it is. -/
theorem refreshLoads_supply (d : Dev) : d.refreshLoads.supply = d.supply := by
  unfold Dev.refreshLoads
  rw [judgeTests_supply, judgePair_supply, judgePair_supply, applyDemands_supply, judgePrimary_supply, judgePrimary_supply]

/-- A reset begins start-up anew, in neither Parked nor Dormant. -/
theorem enterReset_starting (causes : List Nat) (d : Dev) : (d.enterReset causes).supply.mode = 0 ∧ (d.enterReset causes).supply.step = 0 := by
  unfold Dev.enterReset
  rw [refreshLoads_supply]
  exact ⟨rfl, rfl⟩

/-! ### The boot ROM (R85) -/

/-- Where start-up ends at step 4, no bank verifies: the boot ROM runs, and neither the mode nor the step has moved. -/
theorem startStep4_bootRom {found : StartUpIn} {d : Dev} (ends : (d.startStep4 found).1 = false) :
    (d.startStep4 found).2.supply = { d.supply with bootRom := true } := by
  revert ends
  unfold Dev.startStep4
  dsimp only
  split
  case isTrue => exact nofun
  case isFalse =>
    split
    case isTrue => exact nofun
    case isFalse => intro _; simp

/-! ### Events and standing conditions (R576) -/

/-- An event, of whatever phase and however it ends, moves no standing condition. -/
theorem raiseAt_standing (src sev phase subject : Nat) (fields : List Byte) (time : Nat) (d : Dev) :
    (d.raiseAt src sev phase subject fields time).host.standing = d.host.standing :=
  (congrArg (fun d => d.host.standing) (raiseAt_eq src sev phase subject fields time d) :)

/-- An onset adds its condition where it does not stand yet. -/
theorem onset_standing {src subject : Nat} {d : Dev} (sev : Nat) (fields : List Byte) (fresh : d.host.stands src subject = false) :
    (d.onset src sev subject fields).host.standing = d.host.standing ++ [Standing.mk src subject sev] := by
  unfold Dev.onset
  rw [fresh]
  exact raiseAt_standing ..

/-- A one-shot event does not move the pad. -/
theorem raise_faultN (src sev subject : Nat) (fields : List Byte) (d : Dev) : (d.raise src sev subject fields).faultN = d.faultN :=
  faultN_congr (Dev.raise_supply ..) (Dev.raise_bin ..) (raiseAt_standing ..)

/-- The onset of a condition of severity 2 or 3 asserts the pad, for the condition stands whatever became of its event. -/
theorem onset_faultN {src sev subject : Nat} {d : Dev} (fields : List Byte) (running : d.supply.mode = 0) (severe : 2 ≤ sev)
    (fresh : d.host.stands src subject = false) : (d.onset src sev subject fields).faultN = true := by
  have stands : Standing.mk src subject sev ∈ (d.onset src sev subject fields).host.standing := by
    rw [onset_standing sev fields fresh]
    exact List.mem_append_right _ (List.mem_singleton_self _)
  exact faultN_of_standing ((congrArg Supply.mode (Dev.onset_supply ..)).trans running) stands severe

/-- Settles O49: reset and the boot ROM are cause 1, and the pad follows the standing conditions, which an onset adds to and no event touches. -/
theorem faultPin : Obligations.FaultPin := by
  unfold Obligations.FaultPin
  refine ⟨faultN_iff, faultN_of_starting rfl (by decide), fun causes d => ?_, fun found d starting running ends => ?_, raise_faultN,
    fun src sev subject fields d running severe fresh => onset_faultN fields running severe fresh⟩
  · obtain ⟨mode, step⟩ := enterReset_starting causes d
    exact faultN_of_starting mode (by omega)
  · have supply := startStep4_bootRom ends
    exact ⟨congrArg Supply.bootRom supply,
      faultN_of_starting ((congrArg Supply.mode supply).trans running) ((congrArg Supply.step supply).trans_lt starting)⟩

end Sys2Proof.Laws
end

section
/-! SUPPORT. The bodies of the host commands read back (R614 and the body tables): one lemma per shape of body, then the commands by their shape. -/

namespace Sys2Proof.Laws

open Sys2Proof Sys2Proof.Machine

/-! ### Shapes of body -/

/-- Packed fields are read back, whatever follows them. -/
theorem takeFields_packFields (fs : List (Nat × Nat)) (r : List Byte) (h : (fs.all fun f => holds f.1 f.2) = true) :
    takeFields (fs.map (·.1)) (packFields fs ++ r) = some (fs.map (·.2), r) := by
  induction fs with
  | nil => rfl
  | cons f fs ih =>
    simp only [List.all_cons, Bool.and_eq_true] at h
    simp only [packFields, List.map_cons, List.append_assoc, takeFields_cons _ _ _ _ h.1, ih h.2, Option.map_some]

/-- Packed fields that are the whole body are read back. -/
theorem takeFields_packFields_all (fs : List (Nat × Nat)) (h : (fs.all fun f => holds f.1 f.2) = true) :
    takeFields (fs.map (·.1)) (packFields fs) = some (fs.map (·.2), []) := by
  simpa using takeFields_packFields fs [] h

theorem byteBody_packFields (f : Nat → HostCmd) {a : Nat} (h : holds 1 a = true) : byteBody f (packFields [(1, a), (3, 0)]) = some (f a) := by
  have := takeFields_packFields_all [(1, a), (3, 0)] (by simp [h])
  simp only [List.map] at this
  simp only [byteBody, this]

/-- A list of entries of `w` bytes has as many entries as were packed. -/
theorem listBody_of_length {w lo hi n : Nat} {bs : List Byte} (hw : 0 < w) (hl : bs.length = w * n) (h : between lo hi n = true) :
    listBody w lo hi bs = some n := by
  have hn : bs.length / w = n := by rw [hl, Nat.mul_div_cancel_left n hw]
  have hm : bs.length % w = 0 := by rw [hl, Nat.mul_mod_right]
  simp only [between, Bool.and_eq_true, decide_eq_true_eq] at h
  rw [listBody, if_pos ⟨hm, by omega, by omega⟩, hn]

theorem holds_of_lt {w v : Nat} (h : v < 256 ^ w) : holds w v = true := decide_eq_true h

/-- A section of BUS_FILTER_LOAD reads back: section 0 is 28 bytes of its own, sections 1 and 2 are entries of 20 bytes under their count (R519). -/
theorem parseBody_busFilterLoad {b p f : Nat} {bs : List Byte} (hw : wfCmd (.busFilterLoad b p f bs) = true) :
    parseBody (opcodeOf (.busFilterLoad b p f bs)) (encodeBody (.busFilterLoad b p f bs)) = some (.busFilterLoad b p f bs) := by
  simp only [wfCmd, Bool.and_eq_true] at hw
  obtain ⟨hb, hw⟩ := hw
  split at hw
  case isTrue hp =>
    simp only [Bool.and_eq_true, decide_eq_true_eq] at hw
    obtain ⟨rfl, hl⟩ := hw
    simp [hp, opcodeOf, encodeBody, parseBody, parseBus, parseFilter, packFields, takeFields_cons, hb, hl]
  case isFalse =>
    simp only [between, Bool.and_eq_true, decide_eq_true_eq] at hw
    obtain ⟨⟨⟨hp, hf⟩, -, hl⟩, hm⟩ := hw
    have count : holds 1 (bs.length / 20) = true := holds_of_lt (by omega)
    have whole : bs.length = 20 * (bs.length / 20) := by omega
    obtain rfl | rfl : p = 1 ∨ p = 2 := by omega
    all_goals simp [opcodeOf, encodeBody, parseBody, parseBus, parseFilter, packFields, takeFields_cons, hb, hf, count, holds_of_lt, ← whole]

/-- Settles O5, by the shape of each body: none, one byte, fixed fields, a list of entries, or fields before bytes. -/
theorem bodiesReadBack : Obligations.BodiesReadBack := by
  unfold Obligations.BodiesReadBack
  intro c hw
  cases c with
  | identify | status | reset | park | dormant | journalRead | paramImageSave | paramFactory | doorRelease | doorIsolate | doorRestore
  | landfallWithdraw | stepDeploy | stepRetract | maintenanceEnter | maintenanceExit | doorFaultClear | doorState | latchRead | driveStatus
  | obstacleState | dragState | legacyEdgeStatus | lchStatus | juryStatus | sealStatus | safeIo | safeFunctions | telegramStatus | binDiag
  | debugEnable | chronRead | logStatus => rfl
  | eventCounts a | fwActivate a | cancel a | landfallAnnounce a | axisHome a | axisStop a | axisLink a | axisState a | pilotFlags a
  | skinPortStatus a | skinTileList a | busStatus a => exact byteBody_packFields _ hw
  | paramRead ids => 
    simp only [wfCmd, Bool.and_eq_true] at hw
    simp [opcodeOf, encodeBody, parseBody, parseParam, listBody_of_length (by omega) (length_packWords 2 ids) hw.1, takeWords_packWords 2 ids hw.2]
  | paramGroupDiscard ids =>
    simp only [wfCmd, Bool.and_eq_true] at hw
    simp [opcodeOf, encodeBody, parseBody, parseParam, listBody_of_length (by omega) (length_packWords 2 ids) hw.1, takeWords_packWords 2 ids hw.2]
  | paramWrite ps =>
    simp only [wfCmd, Bool.and_eq_true] at hw
    simp [opcodeOf, encodeBody, parseBody, parseParam, listBody_of_length (by omega) (length_packPairs ps) hw.1, takePairs_packPairs ps hw.2]
  | eventMask | fwLoadBegin | fwLoadEnd | paramInfo | paramImageRead | paramImageInstall | paramList | doorOpen | doorClose | doorHold
  | axisMove | loopMode | loopManual | injectStart | captureRead | pilotFlagsClear | tableRead | compareArm | skinPortSet | skinFrameRead
  | contactList | juryMaskSet | sealConfirm | busRecover | busTxCancel | busFilterApply | busFilterDiscard | chronSet | logRead
  | traceList | traceRead | traceCapture | tracePin =>
    simp only [wfCmd, Bool.and_eq_true] at hw
    simp [opcodeOf, encodeBody, parseBody, parseSystem, parseParam, parseDoor, parseAxis, parseSkin, parseLoad, parseSafety, parseBus, parseLog,
      parseFilter, packFields, takeFields_cons, takeFields_last, holds_of_lt, hw]
  | skinBaselineRebuild m =>
    simp only [wfCmd, between, Bool.and_eq_true, decide_eq_true_eq] at hw
    simp [opcodeOf, encodeBody, parseBody, parseSkin, packFields, takeFields_cons, takeFields_last, holds_of_lt (w := 1) (v := m) (by omega)]
    omega
  | lchSet m n =>
    simp only [wfCmd, between, Bool.and_eq_true, decide_eq_true_eq] at hw
    simp [opcodeOf, encodeBody, parseBody, parseLoad, packFields, takeFields_cons, takeFields_last, holds_of_lt (w := 2) (v := m) (by omega),
      holds_of_lt (w := 2) (v := n) (by omega)]
    omega
  | lchUnlatch m | lchOffTest m =>
    simp only [wfCmd, between, Bool.and_eq_true, decide_eq_true_eq] at hw
    simp [opcodeOf, encodeBody, parseBody, parseLoad, packFields, takeFields_cons, takeFields_last, holds_of_lt (w := 2) (v := m) (by omega)]
    omega
  | logErase w =>
    simp only [wfCmd, between, Bool.and_eq_true, decide_eq_true_eq] at hw
    simp [opcodeOf, encodeBody, parseBody, parseLog, packFields, takeFields_cons, takeFields_last, holds_of_lt (w := 1) (v := w) (by omega)]
    omega
  | busRead b k i c o n =>
    simp only [wfCmd, between, Bool.and_eq_true, decide_eq_true_eq] at hw
    obtain ⟨⟨⟨hf, -, hc⟩, ho⟩, hn⟩ := hw
    simp [opcodeOf, encodeBody, parseBody, parseBus, packFields, takeFields_cons, takeFields_last, hf, ho, hn, holds_of_lt (w := 1) (v := c) (by omega)]
    omega
  | echo bs => 
    simp only [wfCmd, between, Bool.and_eq_true, decide_eq_true_eq] at hw
    exact if_pos hw.2
  | fwLoadData o bs =>
    simp only [wfCmd, between, Bool.and_eq_true, decide_eq_true_eq] at hw
    have h := takeFields_packFields [(4, o)] bs (by simp [hw])
    simp only [List.map] at h
    simp [opcodeOf, encodeBody, parseBody, parseSystem, h, hw]
  | paramImageLoad o bs =>
    simp only [wfCmd, between, Bool.and_eq_true, decide_eq_true_eq] at hw
    have h := takeFields_packFields [(4, o)] bs (by simp [hw])
    simp only [List.map] at h
    simp [opcodeOf, encodeBody, parseBody, parseParam, h, hw]
  | paramGroupStage g vs =>
    simp only [wfCmd, between, Bool.and_eq_true, decide_eq_true_eq] at hw
    obtain ⟨⟨hg, -, hl⟩, hv⟩ := hw
    simp [opcodeOf, encodeBody, parseBody, parseParam, packFields, takeFields_cons, hg, holds_of_lt (w := 1) (v := vs.length) (by omega), takeWords_packWords 4 vs hv]
  | paramCommit gs =>
    simp only [wfCmd, between, Bool.and_eq_true, decide_eq_true_eq] at hw
    obtain ⟨⟨hl, hl'⟩, hv⟩ := hw
    simp [opcodeOf, encodeBody, parseBody, parseParam, packFields, takeFields_cons, holds_of_lt (w := 1) (v := gs.length) (by omega), takeWords_packWords 2 gs hv, hl, hl']
  | tableWrite t d o es =>
    simp only [wfCmd, between, Bool.and_eq_true, decide_eq_true_eq] at hw
    obtain ⟨⟨⟨⟨ht, hd⟩, ho⟩, -, hl⟩, hv⟩ := hw
    simp [opcodeOf, encodeBody, parseBody, parseAxis, packFields, takeFields_cons, ht, hd, ho, holds_of_lt (w := 2) (v := es.length) (by omega), takeWords_packWords 2 es hv]
  | busSend b o i f sdt vc sec af n life bs =>
    simp only [wfCmd, between, Bool.and_eq_true, decide_eq_true_eq] at hw
    obtain ⟨⟨⟨⟨⟨hf, -, hs⟩, ha⟩, hn⟩, hl⟩, -⟩ := hw
    simp [opcodeOf, encodeBody, parseBody, parseBus, packFields, takeFields_cons, hf, ha, hn, hl, holds_of_lt (w := 1) (v := sec) (by omega)]
    omega
  | busFilterLoad b p f bs => exact parseBody_busFilterLoad hw
end Sys2Proof.Laws
end

section
/-! SUPPORT. The step completes on every command, and time passes for the Chronometer alone. -/

namespace Sys2Proof.Laws

open Sys2Proof Sys2Proof.Machine

/-- Every row answers a next state in which the queue is as it was. -/
theorem exec_next (i : Instr) (s : State) : ∃ d : Dev, exec i s = .next { s with dev := d } := by
  cases i <;> exact ⟨_, rfl⟩

/-- Settles O2: the step hands the front of the queue to a row, and every row completes. -/
theorem everyCommandCompletes : Obligations.EveryCommandCompletes := by
  unfold Obligations.EveryCommandCompletes
  exact ⟨⟨exec_next, fun i rest d => exec_next i { pending := rest, dev := d }⟩, fun _ => rfl⟩

theorem advance_of_reset (dt : Nat) (d : Dev) (h : d.supply.step = 0) : d.advance dt = { d with now := d.now + dt } := by
  simp [Dev.advance, h]

theorem advance_of_running (dt : Nat) (d : Dev) (h : 0 < d.supply.step) :
    d.advance dt = { d with now := d.now + dt, chron := chronAdvance dt d.chron } := by
  simp [Dev.advance, h]

/-- The carried fraction makes two intervals count like the one they make up. -/
theorem chronAdvance_add (a b : Nat) (t : Chron) : chronAdvance b (chronAdvance a t) = chronAdvance (a + b) t := by
  simp only [chronAdvance, Nat.add_mul, Chron.mk.injEq, and_true]
  generalize a * (1000000000 + t.c).toNat = x
  generalize b * (1000000000 + t.c).toNat = y
  omega

theorem advance_add (a b : Nat) (d : Dev) : (d.advance a).advance b = d.advance (a + b) := by
  rcases Nat.eq_zero_or_pos d.supply.step with h | h
  · simp [advance_of_reset, h, Nat.add_assoc]
  · simp [advance_of_running, h, chronAdvance_add, Nat.add_assoc]

/-- Settles O7. -/
theorem chronometerAdvances : Obligations.ChronometerAdvances := by
  unfold Obligations.ChronometerAdvances
  exact ⟨advance_of_reset, advance_of_running, advance_add⟩

/-- Settles O1: the front of the queue is what a step matches on. -/
theorem stepRunsFront : Obligations.StepRunsFront := by
  unfold Obligations.StepRunsFront
  exact fun _ _ _ => rfl

/-- Settles O3: no byte of the reset memory is listed, and the journal has its 64 entries. -/
theorem resetMeetsInvariant : Obligations.ResetMeetsInvariant := by
  unfold Obligations.ResetMeetsInvariant
  exact ⟨reset_memory_wf, rfl⟩

/-- Settles O6: each field is read off the reset state, and the twelve channels and the compare units one by one. -/
theorem resetState : Obligations.ResetState := by
  unfold Obligations.ResetState
  decide

end Sys2Proof.Laws
end

section
/-! SUPPORT. The host interface (chapter 04): the course of a packet, replies, events and standing conditions. -/

namespace Sys2Proof.Laws

open Sys2Proof Sys2Proof.Machine

/-! ### A packet judged (R111, R130) -/

/-- A packet that finds the interface open and a free entry is journalled, then read. -/
theorem receive_journalled {p : InPacket} {slot : Nat} {d : Dev} (ho : d.host.isOpen = true) (hf : d.freeEntry = some slot) :
    d.receive p = match p.command with
      | .error status => (d.received p slot).reply slot status []
      | .ok c => match (d.received p slot).refusal p c with
        | some (status, data) => (d.received p slot).reply slot status data
        | none => ((d.received p slot).entered p slot).hostRun c slot := by
  have e : (d.heardHost p).putEntry slot (p.entry (d.heardHost p).chron.time) = d.received p slot := by
    unfold Dev.received
    congr 2
    unfold Dev.heardHost
    split
    · rw [clearing_eq]
    · rfl
  simp only [Dev.receive, ho, not_true_eq_false, if_false, heardHost_freeEntry, hf, e]
  rfl

/-- A packet that R111 turns down before its command is known is answered with the status alone. -/
theorem receive_unreadable {p : InPacket} {slot status : Nat} {d : Dev} (ho : d.host.isOpen = true) (hf : d.freeEntry = some slot)
    (hc : p.command = .error status) : d.receive p = (d.received p slot).reply slot status [] := by
  rw [receive_journalled ho hf, hc]

theorem received_openFor (p : InPacket) (slot op : Nat) (d : Dev) : (d.received p slot).openFor op = d.openFor op := by
  rw [received_eq]; rfl

theorem received_flights (p : InPacket) (slot : Nat) (d : Dev) : (d.received p slot).host.flights = d.host.flights := by
  rw [received_eq]

/-- Past readiness, the in-flight limit and the tag, a command's own checks decide (R111). -/
theorem refusal_of_admitted {p : InPacket} {c : HostCmd} {slot : Nat} {d : Dev} (ready : d.openFor p.opcode = true)
    (room : d.host.flights.length < 32) (fresh : ∀ f ∈ d.host.flights, f.tag ≠ p.tag) :
    (d.received p slot).refusal p c = (d.received p slot).hostGuard c := by
  have none : ¬ ∃ f ∈ d.host.flights, f.tag = p.tag := by simpa using fresh
  simp [Dev.refusal, refuseIf, received_openFor, received_flights, ready, Nat.not_le.2 room, none]

/-- Settles O8: the reading of the packet decides the first seven statuses, and `Dev.refusal` the rest in its order. -/
theorem packetsJudgedInOrder : Obligations.PacketsJudgedInOrder := by
  unfold Obligations.PacketsJudgedInOrder
  refine ⟨fun p d slot ho hf => ?_, fun p d => ⟨fun h => ?_, fun h hf => ?_⟩⟩
  · dsimp only
    refine ⟨fun hl => ?_, fun hl hw => ?_, fun hl hw => ⟨fun hb => ?_, fun hb => ?_⟩⟩
    · exact receive_unreadable ho hf (if_pos hl)
    · exact receive_unreadable ho hf (by simp [InPacket.command, Nat.not_lt.2 hl, hw])
    · exact receive_unreadable ho hf (by simp [InPacket.command, Nat.not_lt.2 hl, hw, hb])
    · have hb' : ¬ (p.body ≠ [] ∧ p.check ≠ crc32c p.body) := by tauto
      refine ⟨fun hr => ?_, fun hr hg hk => ?_, fun hr hg hk hn => ?_, fun c hr hg hk hc => ⟨fun he => ?_, fun he => ?_⟩⟩
      · exact receive_unreadable ho hf (by simp only [InPacket.command, Nat.not_lt.2 hl, hw, hb', hr]; simp)
      · exact receive_unreadable ho hf (by simp only [InPacket.command, Nat.not_lt.2 hl, Nat.not_lt.2 hg, hw, hb', hr, hk]; simp)
      · exact receive_unreadable ho hf (by simp only [InPacket.command, Nat.not_lt.2 hl, Nat.not_lt.2 hg, hw, hb', hr, hk, hn]; simp)
      · exact receive_unreadable ho hf (by simp only [InPacket.command, Nat.not_lt.2 hl, Nat.not_lt.2 hg, hw, hb', hr, hk, hc, he]; simp)
      · have command : p.command = .ok c := by
          simp only [InPacket.command, Nat.not_lt.2 hl, Nat.not_lt.2 hg, hw, hb', hr, hk, hc, he]; simp
        refine ⟨fun h1 => ?_, fun h1 h2 => ?_, fun h1 h2 h3 => ?_, fun h1 h2 h3 => ⟨fun status data h4 => ?_, fun h4 => ?_⟩⟩
        · exact receive_refused ho hf command (by simp [Dev.refusal, refuseIf, received_openFor, h1])
        · exact receive_refused ho hf command (by simp [Dev.refusal, refuseIf, received_openFor, received_flights, h1, h2])
        · exact receive_refused ho hf command (by simp [Dev.refusal, refuseIf, received_openFor, received_flights, h1, Nat.not_le.2 h2, h3])
        · exact receive_refused ho hf command ((refusal_of_admitted h1 h2 h3).trans h4)
        · exact receive_runs ho hf command ((refusal_of_admitted h1 h2 h3).trans h4)
  · simp [Dev.receive, h]
  · simp [Dev.receive, h, heardHost_freeEntry, hf]

/-! ### Replies and packets that leave (R103, R112, R130) -/

theorem entry_putEntry_same {slot : Nat} (e : JEntry) {d : Dev} (h : slot < d.nv.journal.length) :
    (d.putEntry slot e).entry slot = { e with
      seq := d.nv.journalWrites % 65536, change := if e.state = (d.entry slot).state then e.change else d.chron.time
      older := (d.entry slot).toJSlot } := by
  show (modAt _ slot d.nv.journal).getD slot {} = _
  rw [getD_modAt _ _ _ _ _ h, if_pos rfl]

theorem entry_putEntry_ne {slot k : Nat} (e : JEntry) {d : Dev} (h : slot < d.nv.journal.length) (hk : k ≠ slot) :
    (d.putEntry slot e).entry k = d.entry k := by
  show (modAt _ slot d.nv.journal).getD k {} = _
  rw [getD_modAt _ _ _ _ _ h, if_neg hk]
  rfl

/-- The front packet is a reply: it leaves, and nothing behind it. -/
theorem replySent_of_reply {d : Dev} {p : OutPacket} {rest : List OutPacket} (ho : d.host.out = p :: rest) (hp : p.event = false) :
    d.replySent = d.packetLeft.judgePark := by
  simp [Dev.replySent, ho, Dev.sendUpTo, hp]

/-- Settles O9: a reply is one journal write and one packet behind what waits, and the front packet ends its command or moves the last sequence sent. -/
theorem replyIsQueued : Obligations.ReplyIsQueued := by
  unfold Obligations.ReplyIsQueued
  refine ⟨fun d slot status data h => ?_, fun dt s p rest => ?_⟩
  · have same := entry_putEntry_same { d.entry slot with state := 3, status := status } h
    exact ⟨rfl, congrArg (·.state) same, congrArg (·.status) same, congrArg (·.tag) same, congrArg (·.opcode) same,
      fun k hk => entry_putEntry_ne _ h hk, rfl⟩
  · intro d ho
    refine ⟨fun hp => leaves_intro (f := Dev.replySent) rfl ?_, fun hp => ?_⟩
    · rw [replySent_of_reply ho hp]
      simp only [Dev.packetLeft, ho, hp]
      rfl
    · simp [Dev.packetLeft, ho, hp]

/-! ### Events (R134 to R136, R576) -/

theorem unmaskable_iff (src sev : Nat) : unmaskable src sev = true ↔ sev = 3 ∨ src ≤ 2 := by
  simp only [unmaskable, Bool.or_eq_true, decide_eq_true_eq]; omega

/-- Settles O10, along the branches of the queueing of an event. -/
theorem eventsQueuedMaskedOrLost : Obligations.EventsQueuedMaskedOrLost := by
  unfold Obligations.EventsQueuedMaskedOrLost
  intro d src sev subject fields ho
  have masked : (¬ d.host.mask.getLsbD src = true ∧ ¬ unmaskable src sev = true) ↔ ¬ (sev = 3 ∨ src ≤ 2 ∨ d.host.mask.getLsbD src = true) := by
    rw [unmaskable_iff]; tauto
  have queued : d.raise src sev subject fields = d.queueEvent src sev (u8 0 ++ u8 subject ++ fields) d.chron.time := if_pos ho
  dsimp only
  rw [queued]
  refine ⟨?_, fun hm => ?_, fun hm hf => ?_, fun hm hf => ?_, ?_⟩
  · rw [queueEvent_eq]
  · rw [← masked] at hm
    simp only [Dev.queueEvent, if_pos hm]
  · have hm' := mt masked.1 (not_not.2 hm)
    simp only [Dev.queueEvent, if_neg hm']
    rw [if_pos hf]
  · have hm' := mt masked.1 (not_not.2 hm)
    simp only [Dev.queueEvent, if_neg hm']
    rw [if_neg hf]
  · conv => lhs; rw [queueEvent_eq]
    conv => rhs; rw [queueEvent_eq]

theorem stands_append (h : HostSide) (c : Standing) (src subject : Nat) :
    ({ h with standing := h.standing ++ [c] } : HostSide).stands src subject = (h.stands src subject || (c.source = src && c.subject = subject)) := by
  simp [HostSide.stands]

/-- An event, of whatever phase, ends and begins no standing condition. -/
theorem raiseAt_stands (src sev phase subject : Nat) (fields : List Byte) (time : Nat) (d : Dev) (src' subject' : Nat) :
    (d.raiseAt src sev phase subject fields time).host.stands src' subject' = d.host.stands src' subject' := by
  unfold HostSide.stands
  rw [raiseAt_standing]

/-- After an onset its condition stands, and every other as before. -/
theorem onset_stands (src sev subject : Nat) (fields : List Byte) (d : Dev) (src' subject' : Nat) :
    (d.onset src sev subject fields).host.stands src' subject' = (d.host.stands src' subject' || (src = src' && subject = subject')) := by
  unfold Dev.onset
  split
  case isTrue h =>
    by_cases e : src = src' ∧ subject = subject'
    · obtain ⟨rfl, rfl⟩ := e; simp [h]
    · simp [show (decide (src = src') && decide (subject = subject')) = false by simpa using e]
  case isFalse h => exact (raiseAt_stands ..).trans (stands_append ..)

/-- After a clearing its condition stands no more, and every other as before. -/
theorem clearing_stands (src subject : Nat) (fields : List Byte) (d : Dev) (src' subject' : Nat) :
    (d.clearing src subject fields).host.stands src' subject' = (d.host.stands src' subject' && !(src' = src && subject' = subject)) := by
  unfold Dev.clearing
  split
  case isTrue h =>
    rw [raiseAt_stands]
    simp only [Dev.endStanding, HostSide.stands, List.any_filter]
    by_cases e : src' = src ∧ subject' = subject
    · obtain ⟨rfl, rfl⟩ := e
      simp only [decide_true, Bool.and_true, Bool.not_true, Bool.and_false, List.any_eq_false]
      intro c _
      by_cases hc : c.source = src' ∧ c.subject = subject' <;> simp [hc]
    · rw [show (decide (src' = src) && decide (subject' = subject)) = false by simpa using e, Bool.not_false, Bool.and_true]
      congr 1
      funext c
      by_cases hc : c.source = src' ∧ c.subject = subject'
      · obtain ⟨rfl, rfl⟩ := hc; simp [e]
      · simp [show (decide (c.source = src') && decide (c.subject = subject')) = false by simpa using hc]
  case isFalse h =>
    by_cases e : src' = src ∧ subject' = subject
    · obtain ⟨rfl, rfl⟩ := e; simpa using h
    · simp [show (decide (src' = src) && decide (subject' = subject)) = false by simpa using e]

/-- Settles O11. -/
theorem standingConditions : Obligations.StandingConditions := by
  unfold Obligations.StandingConditions
  intro d src sev subject fields
  have stands : (d.onset src sev subject fields).host.stands src subject = true := by simp [onset_stands]
  refine ⟨stands, if_pos stands, fun h => if_pos h, by simp [clearing_stands], fun h => if_neg (by simp [h]), fun src' subject' hne => ?_⟩
  have e : ¬ (src' = src ∧ subject' = subject) := fun h => hne (by rw [h.1, h.2])
  have e' : ¬ (src = src' ∧ subject = subject') := fun h => e ⟨h.1.symm, h.2.symm⟩
  simp only [clearing_stands, onset_stands]
  rw [show (decide (src = src') && decide (subject = subject')) = false by simpa using e',
    show (decide (src' = src) && decide (subject' = subject)) = false by simpa using e]
  simp

/-! ### A packet as bytes (R100, R101) -/

/-- The header of a packet whose fields fit their bytes. -/
theorem packetHeader_eq (opcode tag flags length : Nat) :
    ∃ check : Nat, check < 256 ∧ check = crc8 ((packetHeader opcode tag flags length).take 7) ∧
      packetHeader opcode tag flags length = [0xA5#8, BitVec.ofNat 8 opcode, BitVec.ofNat 8 tag, BitVec.ofNat 8 flags, BitVec.ofNat 8 length,
        BitVec.ofNat 8 (length / 256), 0#8, BitVec.ofNat 8 check] :=
  ⟨_, BitVec.isLt _, rfl, rfl⟩

theorem length_packetHeader (opcode tag flags length : Nat) : (packetHeader opcode tag flags length).length = 8 := rfl

theorem crc32c_lt (bs : List Byte) : crc32c bs < 256 ^ 4 := BitVec.isLt _

/-- A field that follows some bytes is read back at their length. -/
theorem fieldAt_append {w v : Nat} (xs ys : List Byte) (h : holds w v = true) : fieldAt xs.length w (xs ++ (leBytes w v ++ ys)) = v := by
  simp [fieldAt, leNat_leBytes_of_holds h]

theorem fieldAt_header {off n : Nat} {h : List Byte} (bs : List Byte) (fits : off + n ≤ h.length) : fieldAt off n (h ++ bs) = fieldAt off n h := by
  unfold fieldAt
  rw [List.drop_append_of_le_length (by omega), List.take_append_of_le_length (by simp; omega)]

/-- A whole packet passes the check of its header. -/
theorem headerOk_packet (opcode tag flags : Nat) (body : List Byte) : headerOk (packet opcode tag flags body) = true := by
  obtain ⟨check, hlt, hcheck, heq⟩ := packetHeader_eq opcode tag flags body.length
  have take : (packet opcode tag flags body).take 7 = (packetHeader opcode tag flags body.length).take 7 := by
    unfold packet
    rw [List.take_append_of_le_length (by simp [length_packetHeader])]
  unfold headerOk
  rw [take, ← hcheck]
  unfold packet
  rw [fieldAt_header _ (by simp [length_packetHeader]), fieldAt_header _ (by simp [length_packetHeader]), heq]
  simp [fieldAt, leNat, Nat.mod_eq_of_lt hlt]

/-- The packet that a command is packed into is the one that its bytes carry. -/
theorem packetAt_packet {opcode tag flags : Nat} {body : List Byte} (ho : opcode < 256) (ht : tag < 256) (hf : flags < 256) (hb : body.length ≤ 1024) :
    packetAt (packet opcode tag flags body) =
      { opcode := opcode, tag := tag, flags := flags, length := body.length, body := body, check := if body = [] then 0 else crc32c body } := by
  obtain ⟨check, hlt, hcheck, heq⟩ := packetHeader_eq opcode tag flags body.length
  have field {off n : Nat} (fits : off + n ≤ 8) :
      fieldAt off n (packet opcode tag flags body) = fieldAt off n (packetHeader opcode tag flags body.length) := by
    exact fieldAt_header _ (by simpa [length_packetHeader] using fits)
  have opcodeAt : fieldAt 1 1 (packet opcode tag flags body) = opcode := by
    rw [field (by omega), heq]; simp [fieldAt, leNat, Nat.mod_eq_of_lt ho]
  have tagAt : fieldAt 2 1 (packet opcode tag flags body) = tag := by
    rw [field (by omega), heq]; simp [fieldAt, leNat, Nat.mod_eq_of_lt ht]
  have flagsAt : fieldAt 3 1 (packet opcode tag flags body) = flags := by
    rw [field (by omega), heq]; simp [fieldAt, leNat, Nat.mod_eq_of_lt hf]
  have reservedAt : fieldAt 6 1 (packet opcode tag flags body) = 0 := by
    rw [field (by omega), heq]; simp [fieldAt, leNat]
  have lengthAt : fieldAt 4 2 (packet opcode tag flags body) = body.length := by
    rw [field (by omega), heq]; simp [fieldAt, leNat]; omega
  unfold packetAt packetLength
  simp only [opcodeAt, tagAt, flagsAt, reservedAt, lengthAt]
  by_cases e : body = []
  · subst e
    simp [packet, length_packetHeader]
  · have hp : packet opcode tag flags body = packetHeader opcode tag flags body.length ++ (body ++ u32 (crc32c body)) := by simp [packet, e]
    have whole : 12 + body.length ≤ (packet opcode tag flags body).length := by
      rw [hp]; simp [length_packetHeader, u32]; omega
    have bodyAt : ((packet opcode tag flags body).drop 8).take body.length = body := by
      rw [hp, List.drop_append_of_le_length (by simp [length_packetHeader]), List.drop_eq_nil_of_le (by simp [length_packetHeader])]
      simp
    have checkAt : fieldAt (8 + body.length) 4 (packet opcode tag flags body) = crc32c body := by
      have h := fieldAt_append (w := 4) (packetHeader opcode tag flags body.length ++ body) [] (holds_of_lt (crc32c_lt body))
      simpa [hp, u32, length_packetHeader] using h
    simp [whole, bodyAt, checkAt, hb, e]

theorem opcodeOf_lt (c : HostCmd) : opcodeOf c < 256 := by
  have known := knownOpcode_opcodeOf c
  simp only [knownOpcode, Bool.or_eq_true, Bool.and_eq_true, decide_eq_true_eq] at known
  omega

/-- Settles O12: the bytes carry the very packet that the row of the command brings. -/
theorem packetBytesAreTheCommand : Obligations.PacketBytesAreTheCommand := by
  unfold Obligations.PacketBytesAreTheCommand
  refine ⟨fun dt h c s hw => leaves_intro (f := Dev.packetBytes _) rfl ?_, fun dt bytes s ho hl hs hc => leaves_intro (f := Dev.packetBytes _) rfl ?_⟩
  · have command : packetAt (packet (opcodeOf c) h.tag.toNat (bit h.note) (encodeBody c)) = packetOf h c :=
      packetAt_packet (opcodeOf_lt c) h.tag.isLt (by unfold bit; split <;> omega) (length_encodeBody_le c hw)
    have ok := headerOk_packet (opcodeOf c) h.tag.toNat (bit h.note) (encodeBody c)
    obtain ⟨long, sync⟩ : 8 ≤ (packet (opcodeOf c) h.tag.toNat (bit h.note) (encodeBody c)).length
        ∧ fieldAt 0 1 (packet (opcodeOf c) h.tag.toNat (bit h.note) (encodeBody c)) = 0xA5 := by
      simp only [headerOk, Bool.and_eq_true, decide_eq_true_eq] at ok
      exact ok.1
    unfold Dev.packetBytes Dev.hostCommand
    rw [command]
    by_cases ho : (s.later dt).host.isOpen = true
    · simp [ho, ok, sync, Nat.not_lt.2 long]
    · simp [ho, Dev.receive]
  · have bad : headerOk bytes = false := by simp [headerOk, hc]
    simp [Dev.packetBytes, ho, hs, bad, Nat.not_lt.2 hl]

end Sys2Proof.Laws
end

section
/-! SUPPORT. How the rows of host commands run and are refused, now that every body reads back: a command's own checks see the device but for the receipt of its packet. -/

namespace Sys2Proof.Laws

open Sys2Proof Sys2Proof.Machine

/-- A command's own checks do not see the receipt of its packet: the event sequence, the journal, and the host interface's counts, queue,
standing conditions and time of the last packet. -/
def GuardBlind (c : HostCmd) : Prop := ∀ (d : Dev) es j jw m l ls o hd st lv, Dev.hostGuard c { d with
  nv := { d.nv with eventSeq := es, journal := j, journalWrites := jw }
  host := { d.host with masked := m, lost := l, lostSince := ls, out := o, held := hd, standing := st, lastValid := lv } } = Dev.hostGuard c d

/-- The check of pairs sees whether the doorway moves, and nothing else of the device. -/
theorem guardParamWrite_congr {d e : Dev} (h : d.inMotion = e.inMotion) (ws : List (Nat × Nat)) : d.guardParamWrite ws = e.guardParamWrite ws := by
  have pair (w) : d.checkPair w = e.checkPair w := by unfold Dev.checkPair; rw [h]
  have pairs (i) : d.checkPairs i ws = e.checkPairs i ws := by
    induction ws generalizing i with
    | nil => rfl
    | cons w ws ih => simp only [Dev.checkPairs, pair, ih]
  unfold Dev.guardParamWrite
  rw [pairs]

/-- What BUS_READ answers is read from the controllers alone. -/
theorem busRead_congr {d e : Dev} (h : d.bus = e.bus) (x kind index consume off count : Nat) :
    (d.busRead x kind index consume off count).1 = (e.busRead x kind index consume off count).1
      ∧ (d.busRead x kind index consume off count).2.1 = (e.busRead x kind index consume off count).2.1 := by
  have same : d.busOf x = e.busOf x := by unfold Dev.busOf; rw [h]
  unfold Dev.busRead
  rw [same]
  simp only [apply_ite Prod.fst, apply_ite Prod.snd, and_self]

theorem guardBusRead_congr {d e : Dev} (h : d.bus = e.bus) (x kind index off count : Nat) :
    d.guardBusRead x kind index off count = e.guardBusRead x kind index off count := by
  unfold Dev.guardBusRead
  dsimp only
  rw [(busRead_congr h x kind index 0 off count).1, (busRead_congr h x kind index 0 off count).2]

theorem guardBlind (c : HostCmd) : GuardBlind c := by
  cases c with
  | paramWrite ps =>
    intro d _ _ _ _ _ _ _ _ _ _
    exact guardParamWrite_congr (by rfl) ps
  | busRead b k i c o n =>
    intro d _ _ _ _ _ _ _ _ _ _
    exact guardBusRead_congr (by rfl) b k i o n
  | _ => exact fun _ _ _ _ _ _ _ _ _ _ _ => rfl

/-- A host command that its own checks let through runs. -/
theorem runs_row {i : Instr} {h : CmdHead} {c : HostCmd} {dt : Nat} {s : State} {ok : Dev → Prop} {eff : Nat → Dev → Dev}
    (hex : exec i s = .next { s with dev := (s.later dt).hostCommand h c })
    (passes : ∀ d, ok d → Dev.hostGuard c d = none)
    (he : ∀ slot d, ok d → (d.taken h c slot).hostRun c slot = eff slot (d.taken h c slot)) : Runs i h c dt s ok eff :=
  runs_intro hex (fun d hd es j jw m l ls o hh st lv => (guardBlind c d es j jw m l ls o hh st lv).trans (passes d hd)) (bodiesReadBack c) he

/-- A host command without checks of its own always runs. -/
theorem runs_unchecked {i : Instr} {h : CmdHead} {c : HostCmd} {dt : Nat} {s : State} {ok : Dev → Prop} {eff : Nat → Dev → Dev}
    (hex : exec i s = .next { s with dev := (s.later dt).hostCommand h c }) (free : ∀ d, Dev.hostGuard c d = none)
    (he : ∀ slot d, d.hostRun c slot = eff slot d) : Runs i h c dt s ok eff :=
  runs_row hex (fun d _ => free d) (fun slot _ _ => he slot _)

/-- A host command that its own checks turn down is refused. -/
theorem refuses_row {i : Instr} {h : CmdHead} {c : HostCmd} {dt : Nat} {s : State} {why : Dev → Prop} {status : Nat} {data : List Byte}
    (hex : exec i s = .next { s with dev := (s.later dt).hostCommand h c })
    (fails : ∀ d, why d → Dev.hostGuard c d = some (status, data)) : Refuses i h c dt s why status data :=
  refuses_intro hex (fun d hd es j jw m l ls o hh st lv => (guardBlind c d es j jw m l ls o hh st lv).trans (fails d hd)) (bodiesReadBack c)

/-! ### System commands (R87, R131, R135, R614) -/

theorem refuseIf_eq_none {c : Bool} {r next : Refused} (hc : c = false) (hn : next = none) : refuseIf c r next = none := by
  rw [refuseIf, hc, hn]; rfl

theorem refuseIf_pass {c : Bool} (r next : Refused) (h : c = false) : refuseIf c r next = next := by rw [refuseIf, h]; rfl

theorem refuseIf_fail {c : Bool} (r next : Refused) (h : c = true) : refuseIf c r next = r := by rw [refuseIf, h]; rfl

/-- At rest, locked or isolated, with no step in the way, the device may be parked. -/
theorem guardPark_pass {d : Dev} (still : d.inMotion = false) (door : d.door.state = 0 ∨ d.door.state = 10)
    (step : d.door.step = 0 ∨ d.door.step = 5) : d.guardPark = none := by
  unfold Dev.guardPark
  rw [refuseIf_pass _ _ still, refuseIf_pass]
  rcases door with h | h <;> rcases step with k | k <;> simp [h, k]

/-- Settles O13. -/
theorem systemCommands : Obligations.SystemCommands := by
  unfold Obligations.SystemCommands
  refine ⟨fun h dt s => ⟨?_, ?_, fun group => ?_, ?_, fun bytes => ?_⟩, fun h dt s => ⟨?_, ?_, ?_, fun mask => ?_⟩⟩
  · exact runs_unchecked rfl (fun _ => rfl) (fun _ _ => rfl)
  · exact runs_unchecked rfl (fun _ => rfl) (fun _ d => by simp [Dev.hostRun, Dev.done, Dev.statusData, Dev.ready])
  · exact runs_row rfl (fun d hd => refuseIf_pass _ _ (by simpa using hd)) (fun _ _ _ => rfl)
  · exact runs_unchecked rfl (fun _ => rfl) (fun _ _ => rfl)
  · exact runs_unchecked rfl (fun _ => rfl) (fun _ _ => rfl)
  · exact runs_unchecked rfl (fun _ => rfl) (fun _ _ => rfl)
  · exact runs_row rfl (fun d hd => guardPark_pass hd.1 hd.2.1 hd.2.2) (fun _ _ _ => rfl)
  · exact runs_row rfl (fun d hd => guardPark_pass hd.1 hd.2.1 hd.2.2) (fun _ _ _ => rfl)
  · exact runs_unchecked rfl (fun _ => rfl) (fun _ _ => rfl)

/-! ### Firmware orders and CANCEL (R117, R119) -/

theorem taken_flights (h : CmdHead) (c : HostCmd) (slot : Nat) (d : Dev) :
    (d.taken h c slot).host.flights = d.host.flights ++ [{ slot := slot, tag := h.tag.toNat, opcode := opcodeOf c }] := by
  rw [taken_eq]

/-- The order in flight with a tag, once a further command is in flight: the one there was, else at most the further command. -/
theorem flightOf_taken (h : CmdHead) (c : HostCmd) (slot target : Nat) (d : Dev) :
    (d.taken h c slot).host.flightOf target = (d.host.flightOf target).or
      (if h.tag.toNat = target then some { slot := slot, tag := h.tag.toNat, opcode := opcodeOf c } else none) := by
  unfold HostSide.flightOf
  rw [taken_flights, List.find?_append]
  congr 1
  by_cases e : h.tag.toNat = target <;> simp [e]

/-- CANCEL of an order that can be cancelled. -/
theorem runCancel_hit {d : Dev} {target slot : Nat} {f : Flight} (hf : d.host.flightOf target = some f) (hop : f.opcode ∈ cancellable) :
    d.runCancel target slot = ((d.undoOrder f).reply f.slot 0x12 []).done slot [] := by
  simp [Dev.runCancel, hf, hop]

/-- CANCEL of anything else. -/
theorem runCancel_miss {d : Dev} {target slot : Nat} (miss : ∀ f, d.host.flightOf target = some f → f.opcode ∉ cancellable) :
    d.runCancel target slot = d.reply slot 0x13 [] := by
  unfold Dev.runCancel
  split
  case h_1 f hf => simp [miss f hf]
  case h_2 => rfl

/-- Settles O14. -/
theorem firmwareAndCancel : Obligations.FirmwareAndCancel := by
  unfold Obligations.FirmwareAndCancel
  refine ⟨fun h dt s => ⟨fun bank length => ?_, fun off bytes => ?_, fun crc => ?_, fun bank => ?_⟩, fun h dt s target => ⟨?_, ?_⟩⟩
  · refine runs_row rfl (fun d hd => ?_) (fun _ _ _ => rfl)
    refine refuseIf_eq_none (by simpa using hd.1) (refuseIf_eq_none ?_ rfl)
    rcases hd.2 with h | h <;> simp [h]
  · refine runs_row rfl (fun d hd => ?_) (fun _ _ _ => rfl)
    obtain ⟨l, hl, fits⟩ := hd
    simp only [Dev.hostGuard, Dev.guardFwData, hl]
    exact refuseIf_eq_none (by simpa using fits) rfl
  · refine runs_row rfl (fun d hd => ?_) (fun _ _ _ => rfl)
    exact refuseIf_eq_none (by simpa [Option.isSome_iff_ne_none] using hd) rfl
  · refine runs_row rfl (fun d hd => ?_) (fun _ _ _ => rfl)
    simp only [Dev.hostGuard, Dev.guardFwActivate, refuseIf]
    rcases hd with h | ⟨h, still⟩
    · simp [h]
    · rcases h with h | h | h <;> simp [h, still]
  · refine runs_row rfl (fun _ _ => rfl) (fun slot d hd => ?_)
    obtain ⟨f, hf, hop⟩ := hd
    have now := flightOf_taken h (.cancel target) slot target d
    rw [hf, Option.some_or] at now
    rw [now]
    exact runCancel_hit now hop
  · refine runs_row rfl (fun _ _ => rfl) (fun slot d hd => runCancel_miss fun f hf => ?_)
    rw [flightOf_taken] at hf
    cases hd' : d.host.flightOf target with
    | some g =>
      rw [hd', Option.some_or, Option.some.injEq] at hf
      exact hf ▸ hd g hd'
    | none =>
      rw [hd', Option.none_or] at hf
      split at hf
      · cases hf; exact (by decide : (0x0C : Nat) ∉ cancellable)
      · cases hf

end Sys2Proof.Laws
end

section
/-! SUPPORT. The parameter commands (R121 to R127): what PARAM_WRITE checks and does, groups and images, and the writes that wait for a boundary. -/

namespace Sys2Proof.Laws

open Sys2Proof Sys2Proof.Machine

/-! ### PARAM_WRITE (R15, R121) -/

/-- What PARAM_WRITE asks of one pair: it names a parameter that is not grouped, its value is in range, and one of class S finds the doorway at rest. -/
def PairGood (d : Dev) (w : Nat × Nat) : Prop := ∃ p, paramDef? w.1 = some p ∧ p.timing ≠ .grouped ∧ p.timing ≠ .groupedStandstill
  ∧ p.inRange (p.ofWire w.2) = true ∧ (p.timing = .standstill → d.inMotion = false)

theorem checkPair_of_good {d : Dev} {w : Nat × Nat} (h : PairGood d w) : (d.checkPair w).1 = 0 := by
  obtain ⟨p, hp, h1, h2, h3, h4⟩ := h
  have rest : ¬ (p.timing = .standstill ∧ d.inMotion = true) := fun ⟨a, b⟩ => by simp [h4 a] at b
  simp only [Dev.checkPair, hp]
  rw [if_neg (by tauto), if_neg (by simpa using h3), if_neg rest]

theorem checkPairs_of_good {d : Dev} {ws : List (Nat × Nat)} (h : ∀ w ∈ ws, PairGood d w) (i : Nat) : d.checkPairs i ws = none := by
  induction ws generalizing i with
  | nil => rfl
  | cons w ws ih =>
    rw [Dev.checkPairs, if_pos (checkPair_of_good (h w (by simp)))]
    exact ih (fun v hv => h v (by simp [hv])) (i + 1)

/-- The first pair that fails is the one that is told. -/
theorem checkPairs_of_bad {d : Dev} {first last : List (Nat × Nat)} {w : Nat × Nat} (h : ∀ v ∈ first, PairGood d v)
    (bad : (d.checkPair w).1 ≠ 0) (i : Nat) : d.checkPairs i (first ++ w :: last) = some (i + first.length, (d.checkPair w).1) := by
  induction first generalizing i with
  | nil => simp [Dev.checkPairs, bad]
  | cons v vs ih =>
    rw [List.cons_append, Dev.checkPairs, if_pos (checkPair_of_good (h v (by simp))), ih (fun u hu => h u (by simp [hu])), List.length_cons]
    congr 2
    omega

/-- PARAM_WRITE is refused for its first bad pair, with that pair's index. -/
theorem paramWrite_refused {dt : Nat} {h : CmdHead} {s : State} {first last : List (Nat × Nat)} {w : Nat × Nat} {why : Dev → Prop} {status : Nat}
    (bad : ∀ d, why d → (d.checkPair w).1 = status) (hs : status ≠ 0) :
    Refuses (.paramWrite dt h (first ++ w :: last)) h (.paramWrite (first ++ w :: last)) dt s
      (fun d => (∀ v ∈ first, PairGood d v) ∧ why d) status (u8 first.length) := by
  refine refuses_row rfl (fun d hd => ?_)
  simp only [Dev.hostGuard, Dev.guardParamWrite]
  rw [checkPairs_of_bad hd.1 (by rw [bad d hd.2]; exact hs), bad d hd.2, Nat.zero_add, Option.map_some]

/-- A PARAM_WRITE without a pair of class S waits whole. -/
theorem paramWrite_waits {slot : Nat} {pairs : List (Nat × Nat)} {d : Dev}
    (none : (pairs.map fun w => (w.1, (d.checkPair w).2)).filter (fun w => atOnce w.1) = []) :
    d.paramWrite slot pairs = { d with prm := { d.prm with
      waiting := d.prm.waiting ++ [{ slot := slot, writes := pairs.map fun w => (w.1, (d.checkPair w).2) }] } } := by
  simp only [Dev.paramWrite, Dev.takeOne, none]
  rfl

/-- The pairs of class S of a PARAM_WRITE take effect; the reply comes at once where no other is left. -/
theorem paramWrite_acts {slot : Nat} {pairs : List (Nat × Nat)} {d : Dev}
    (some : (pairs.map fun w => (w.1, (d.checkPair w).2)).filter (fun w => atOnce w.1) ≠ []) :
    let ws := pairs.map fun w => (w.1, (d.checkPair w).2)
    let now := ws.filter fun w => atOnce w.1
    let rest := ws.filter fun w => !atOnce w.1
    let t := (d.takeEffect now).2
    d.paramWrite slot pairs =
      if rest = [] then t.reply slot 0x00 (u8 (bit (d.takeEffect now).1))
      else { t with prm := { t.prm with waiting := t.prm.waiting ++ [{ slot := slot, writes := rest, broke := (d.takeEffect now).1 }] } } := by
  dsimp only
  generalize hws : (pairs.map fun w => (w.1, (d.checkPair w).2)) = ws at some ⊢
  unfold Dev.paramWrite Dev.takeOne
  rw [hws]
  simp only [List.isEmpty_iff, some, Bool.false_or, List.contains_nil, Bool.false_and, Bool.false_eq_true, if_false]
  split
  · simp [Dev.finishWrite, Dev.done, Dev.reply, Dev.replyFlags, Dev.putEntry]
  · rfl

/-- Settles O15. -/
theorem parameterReadAndWrite : Obligations.ParameterReadAndWrite := by
  unfold Obligations.ParameterReadAndWrite
  refine ⟨fun h dt s => ⟨fun ids => ?_, fun id p hp => ?_, fun id hp => ?_, fun off n => ?_, fun off n => ?_, fun off n => ?_, fun block start => ?_⟩,
    fun h dt s pairs => ⟨?_, fun first last w hpairs => ?_⟩⟩
  · refine runs_unchecked rfl (fun _ => rfl) (fun slot d => ?_)
    have entry (id : Nat) : d.paramEntry id = if (paramDef? id).isSome then u8 0 ++ i32 (sget (paramDefault id) id d.prm.working) else u8 9 ++ u32 0 := by
      unfold Dev.paramEntry
      split <;> simp [*, Dev.par]
    simp only [Dev.hostRun, Dev.done, funext entry]
  · refine runs_row rfl (fun d _ => refuseIf_pass _ _ (by simp [hp])) (fun slot d _ => ?_)
    simp only [Dev.hostRun, hp]
    rfl
  · exact refuses_row rfl (fun d _ => refuseIf_fail _ _ (by simp [hp]))
  · refine runs_row rfl (fun d hd => ?_) (fun _ _ _ => rfl)
    exact refuseIf_eq_none (by simp; omega) (refuseIf_eq_none (by simp; omega) rfl)
  · refine refuses_row rfl (fun d hd => refuseIf_fail _ _ ?_)
    simp; omega
  · refine refuses_row rfl (fun d hd => (refuseIf_pass _ _ ?_).trans (refuseIf_fail _ _ ?_)) <;> simp <;> omega
  · exact runs_unchecked rfl (fun _ => rfl) (fun _ _ => rfl)
  · refine runs_row rfl (fun d hd => ?_) (fun slot d _ => ?_)
    · simp only [Dev.hostGuard, Dev.guardParamWrite]
      rw [checkPairs_of_good hd, Option.map_none]
    · dsimp only
      split
      case isTrue none => exact paramWrite_waits none
      case isFalse some => exact paramWrite_acts some
  · subst hpairs
    refine ⟨fun hp => paramWrite_refused (fun d _ => by simp [Dev.checkPair, hp]) (by omega), fun p hp => ⟨fun ht => ?_, fun h1 h2 => ⟨fun hr => ?_, fun hr ht => ?_⟩⟩⟩
    · exact paramWrite_refused (fun d _ => by simp [Dev.checkPair, hp, ht]) (by omega)
    · exact paramWrite_refused (fun d _ => by simp [Dev.checkPair, hp, h1, h2, hr]) (by omega)
    · exact paramWrite_refused (fun d hd => by simp [Dev.checkPair, hp, ht, hr, hd]) (by omega)

/-! ### Groups and images (R122 to R128) -/

theorem stageGuard_pass {group : Nat} {values : List Nat} {d : Dev} (hg : isGroup group = true) (hl : values.length = (groupFields group).length)
    (hr : rangeFails 0 (groupFields group) values = none) (room : d.prm.staged.length < 16 ∨ ∃ g ∈ d.prm.staged, g.group = group) :
    d.stageGuard group values = none := by
  have known : (paramDef? group).isNone = false := by
    unfold isGroup at hg
    split at hg
    · simp [*]
    · cases hg
  have full : ¬ (16 ≤ d.prm.staged.length ∧ ¬ d.prm.staged.any (fun s => s.group = group) = true) := by
    simp only [List.any_eq_true, decide_eq_true_eq]
    rcases room with h | h
    · omega
    · exact fun k => k.2 h
  simp only [Dev.stageGuard, known, hg, hl, hr]
  rw [if_neg (by simp), if_neg (by simp), if_neg full]

theorem discardGuard_pass {groups : List Nat} (h : groups = [0xFFFF] ∨ ∀ g ∈ groups, isGroup g = true) : discardGuard groups = none := by
  unfold discardGuard
  split
  · rfl
  · have all : groups.find? (fun g => !isGroup g) = none := by
      rcases h with h | h
      · contradiction
      · simpa [List.find?_eq_none] using h
    rw [all]

theorem commitGuard_pass {groups : List Nat} {d : Dev} (block : ∀ g ∈ groups, g / 256 = groups.headD 0 / 256)
    (staged : ∀ g ∈ groups, ∃ t ∈ d.prm.staged, t.group = g) (jury : P.LCH_PAIR_ENABLE ∈ groups → d.load.jury = false)
    (still : standstillGroups groups = true → d.inMotion = false) (checks : firstFailure groups (d.parWith (d.commitWrites groups)) = none) :
    d.commitGuard groups = none := by
  have one : (groups.any fun g => g / 256 ≠ groups.headD 0 / 256) = false := by simpa using block
  have all : groups.find? (fun g => !d.prm.staged.any fun s => s.group = g) = none := by simpa [List.find?_eq_none] using staged
  have free : ¬ (groups.contains P.LCH_PAIR_ENABLE = true ∧ d.load.jury = true) := fun ⟨a, b⟩ => by simp [jury (by simpa using a)] at b
  have rest : ¬ (standstillGroups groups = true ∧ d.inMotion = true) := fun ⟨a, b⟩ => by simp [still a] at b
  simp only [Dev.commitGuard, one, all, checks]
  rw [if_neg (by simp), if_neg free, if_neg rest]

/-- Settles O16. -/
theorem groupsAndImages : Obligations.GroupsAndImages := by
  unfold Obligations.GroupsAndImages
  refine ⟨fun h dt s => ⟨fun group values => ?_, fun groups => ?_, fun groups => ?_⟩,
    fun h dt s => ⟨?_, fun off bytes => ?_, fun crc => ?_, ?_⟩⟩
  · exact runs_row rfl (fun d ⟨hg, hl, hr, room⟩ => stageGuard_pass hg hl hr room) (fun _ _ _ => rfl)
  · exact runs_row rfl (fun _ hd => discardGuard_pass hd) (fun _ _ _ => rfl)
  · refine runs_row rfl (fun d ⟨block, staged, jury, still, checks⟩ => commitGuard_pass block staged jury still checks) (fun slot d _ => ?_)
    simp only [Dev.hostRun, Dev.commit, List.contains_iff_mem]
    rfl
  · exact runs_unchecked rfl (fun _ => rfl) (fun _ _ => rfl)
  · exact runs_row rfl (fun _ hd => refuseIf_pass _ _ (by simpa using hd)) (fun _ _ _ => rfl)
  · exact runs_unchecked rfl (fun _ => rfl) (fun _ _ => rfl)
  · exact runs_unchecked rfl (fun _ => rfl) (fun _ _ => rfl)

/-! ### Writes at their boundary (R18, R19) -/

/-- A pending write none of whose pairs is picked waits on. -/
theorem takeOne_waits {picks : PendingWrite → Nat → Bool} {w : PendingWrite} {d : Dev} (none : w.writes.filter (fun x => picks w x.1) = []) :
    d.takeOne picks w = (some w, d) := by
  simp only [Dev.takeOne, none]
  rfl

/-- Where none of the pending writes has a pair picked, all wait on. -/
theorem takeList_waits {picks : PendingWrite → Nat → Bool} {ws : List PendingWrite} {d : Dev}
    (none : ∀ w ∈ ws, w.writes.filter (fun x => picks w x.1) = []) : Dev.takeList picks ws d = (ws, d) := by
  induction ws with
  | nil => rfl
  | cons w ws ih =>
    simp only [Dev.takeList, takeOne_waits (none w (by simp)), ih (fun v hv => none v (by simp [hv]))]
    rfl

/-! ### A table in the order of its keys, defaults among its values or not -/

/-- The keys of a table rise. -/
abbrev Rising {α : Type} (t : List (Nat × α)) : Prop := (t.map (·.1)).Pairwise (· < ·)

theorem sget_cons {α : Type} (d : α) (j a : Nat) (x : α) (t : List (Nat × α)) :
    sget d j ((a, x) :: t) = if j = a then x else if j < a then d else sget d j t := rfl

/-- A key below every key of a rising table reads as the default. -/
theorem sget_of_below {α : Type} {d : α} {j : Nat} {t : List (Nat × α)} (h : ∀ a ∈ t.map (·.1), j < a) : sget d j t = d := by
  cases t with
  | nil => rfl
  | cons p t =>
    have hp : j < p.1 := h p.1 (by simp)
    rw [sget_cons, if_neg (by omega), if_pos hp]

theorem sget_sset_same_of_rising {α : Type} [DecidableEq α] {d v : α} {k : Nat} {t : List (Nat × α)} (h : v ≠ d ∨ Rising t) :
    sget d k (sset d k v t) = v := by
  induction t with
  | nil =>
    unfold sset scons
    split
    · next e => exact e.symm
    · exact if_pos rfl
  | cons p t ih =>
    obtain ⟨a, x⟩ := p
    have tail : v ≠ d ∨ Rising t := h.imp_right fun r => (List.pairwise_cons.1 r).2
    unfold sset
    split_ifs with lt eq
    · unfold scons
      split
      · next e => rw [sget_cons, if_neg (by omega), if_pos lt, e]
      · exact if_pos rfl
    · subst eq
      unfold scons
      split
      · next e =>
        have r := h.resolve_left (not_not.2 e)
        rw [sget_of_below (List.pairwise_cons.1 r).1, e]
      · exact if_pos rfl
    · rw [sget_cons, if_neg eq, if_neg lt]
      exact ih tail

theorem sget_sset_ne_of_rising {α : Type} [DecidableEq α] {d e v : α} {j k : Nat} {t : List (Nat × α)} (h : v ≠ d ∨ Rising t) (hj : j ≠ k) :
    sget e j (sset d k v t) = sget e j t := by
  induction t with
  | nil =>
    unfold sset scons
    split
    · rfl
    · rw [sget_cons, if_neg hj]
      split <;> rfl
  | cons p t ih =>
    obtain ⟨a, x⟩ := p
    have tail : v ≠ d ∨ Rising t := h.imp_right fun r => (List.pairwise_cons.1 r).2
    unfold sset
    split_ifs with lt eq
    · unfold scons
      split
      · rfl
      · rw [sget_cons e j k, if_neg hj]
        split
        · rw [sget_cons, if_neg (by omega), if_pos (by omega)]
        · rfl
    · subst eq
      unfold scons
      split
      · next hv =>
        have r := h.resolve_left (not_not.2 hv)
        rw [sget_cons, if_neg hj]
        split
        · next below => exact sget_of_below fun b hb => below.trans ((List.pairwise_cons.1 r).1 b hb)
        · rfl
      · rw [sget_cons, sget_cons, if_neg hj, if_neg hj]
    · rw [sget_cons, sget_cons, ih tail]

theorem par_putWrites_one (d : Dev) (id : Nat) (v : Int) (other : Nat) :
    (d.putWrites [(id, v)]).2.par other = sget (paramDefault other) other (sset (paramDefault id) id v d.prm.working) := by
  unfold Dev.putWrites
  dsimp only
  split <;> split <;> rfl

/-- The whole write takes effect, of a command that no group belongs to. -/
theorem takeOne_acts {picks : PendingWrite → Nat → Bool} {w : PendingWrite} {d : Dev} (some : w.writes.filter (fun x => picks w x.1) ≠ [])
    (goes : ¬ (w.groups.contains d.movingGroup = true ∧ d.infeasible (d.parOver (w.writes.filter fun x => picks w x.1)) = true)) :
    d.takeOne picks w =
      let hit := w.writes.filter fun x => picks w x.1
      let v := { w with writes := w.writes.filter fun x => !picks w x.1, broke := w.broke || (d.takeEffect hit).1 }
      if v.writes.isEmpty then (none, (d.takeEffect hit).2.finishWrite v) else (Option.some v, (d.takeEffect hit).2) := by
  unfold Dev.takeOne
  dsimp only
  rw [if_neg (by simpa using some), if_neg (by simpa using goes)]

/-- Settles O17. -/
theorem writesTakeEffect : Obligations.WritesTakeEffect := by
  unfold Obligations.WritesTakeEffect
  intro pick
  refine ⟨fun dt s w hw => ?_, fun dt s none => ?_, fun dt s w hw hg hne hall => ?_, fun w ws d => ⟨rfl, rfl⟩, fun w d => ?_, fun d id v hv => ?_⟩
  · refine leaves_intro (f := Dev.takeWrites 4) rfl ?_
    unfold Dev.takeWrites Dev.takeWhere
    rw [hw]
  · refine leaves_intro (f := Dev.takeWrites 4) rfl ?_
    unfold Dev.takeWrites Dev.takeWhere
    rw [takeList_waits (fun w hw => by simpa using fun a b hab => none w hw (a, b) hab)]
  · have all : w.writes.filter (fun x => decide (boundaryOf x.1 = 4)) = w.writes := by simpa [List.filter_eq_self] using hall
    have left : w.writes.filter (fun x => !decide (boundaryOf x.1 = 4)) = [] := by simpa [List.filter_eq_nil_iff] using hall
    refine leaves_intro (f := Dev.takeWrites 4) rfl ?_
    unfold Dev.takeWrites Dev.takeWhere
    rw [hw]
    simp only [Dev.takeList]
    rw [takeOne_acts (by rw [all]; exact hne) (by simp [hg])]
    simp only [all, left]
    simp [Dev.finishWrite, hg, Dev.done]
  · dsimp only
    have left : w.writes.filter (fun x => decide (boundaryOf x.1 ≠ 4)) = w.writes.filter (fun x => !pick w x.1) := by simp [pick]
    refine ⟨fun hit => takeOne_waits (picks := pick) hit, fun hit kept => ?_, fun hit kept rest groups => ?_, fun hit kept rest => ?_⟩
    · unfold Dev.takeOne
      dsimp only
      rw [if_neg (by simpa [pick] using hit), if_pos (by simpa [pick] using kept)]
    · rw [left] at rest
      rw [takeOne_acts (picks := pick) hit kept]
      simp [rest, Dev.finishWrite, groups, Dev.done, pick]
    · rw [left] at rest ⊢
      rw [takeOne_acts (picks := pick) hit kept]
      simp only [List.isEmpty_iff, rest, if_false, pick]
  · simp only [par_putWrites_one]
    exact ⟨sget_sset_same_of_rising hv, fun other ho => sget_sset_ne_of_rising hv ho⟩

end Sys2Proof.Laws
end

section
/-! SUPPORT. When each doorway order is accepted (chapter 05): its body and its state let it through, and it waits for the next profile update. -/

namespace Sys2Proof.Laws

open Sys2Proof Sys2Proof.Machine

/-- A row of a doorway order that its body and its state let through: the order waits with progress 1 (R146). -/
theorem door_row {i : Instr} {h : CmdHead} {c : HostCmd} {dt : Nat} {s : State} {ok : Dev → Prop} (op value : Nat)
    (hex : exec i s = .next { s with dev := (s.later dt).hostCommand h c }) (hg : ∀ d, Dev.hostGuard c d = d.guardDoor op value)
    (hr : ∀ slot d, Dev.hostRun c slot d = d.acceptDoor op value slot)
    (body : ∀ d, ok d → d.doorBody op value = none) (state : ∀ d, ok d → d.doorGuard op = none) :
    Runs i h c dt s ok fun slot d => (d.progress slot 1).modDoor fun q => { q with
      inbox := q.inbox ++ [{ opcode := op, slot := some slot, start := if op = 0x21 ∨ op = 0x22 then value else 0, value := value }] } := by
  refine runs_row hex (fun d hd => ?_) (fun slot d _ => hr slot _)
  rw [hg, Dev.guardDoor, body d hd, state d hd]
  rfl

/-- A start time that is none, or one that a valid time puts inside the limit (R150, R153). -/
theorem doorBody_timed {op start : Nat} {d : Dev} (hop : op = 0x21 ∨ op = 0x22) (valid : start = 0 ∨ d.timeValid = true)
    (near : start ≤ d.chron.time + ms (d.parN P.DOOR_START_MAX_AHEAD)) : d.doorBody op start = none := by
  unfold Dev.doorBody
  rw [if_pos hop, if_neg (by rcases valid with h | h <;> simp [h]), if_neg (by omega)]

/-- Every other order but DOOR_HOLD asks nothing of its body. -/
theorem doorBody_none {op value : Nat} {d : Dev} (h : op ≠ 0x21 ∧ op ≠ 0x22 ∧ (op = 0x23 → value ≤ 600000)) : d.doorBody op value = none := by
  unfold Dev.doorBody
  rw [if_neg (by omega), if_neg (by omega)]

theorem doorGuard_release {d : Dev} (state : d.door.state = 0 ∨ d.door.state = 9) (free : d.door.landfall.leaving = false)
    (permit : d.door.copies.permit = true) : d.doorGuard 0x20 = none := by
  rcases state with h | h <;> simp [Dev.doorGuard, h, free, permit]

/-- Outside Emergency-released, or with both pairs of it calm, R176 stands in no order's way. -/
theorem doorGuard_open {d : Dev} (state : d.door.state ∈ [0, 2, 5, 6, 9] ∨ (d.door.state = 11 ∧ d.door.copies.egress = false ∧ d.door.copies.access = false))
    (free : d.door.landfall.leaving = false) (permit : d.door.copies.permit = true) (vdrv : d.supply.vdrv = true) : d.doorGuard 0x21 = none := by
  rcases state with h | ⟨h, calm⟩
  · simp only [List.mem_cons, List.not_mem_nil, or_false] at h
    rcases h with h | h | h | h | h <;> simp [Dev.doorGuard, h, free, permit, vdrv]
  · simp [Dev.doorGuard, h, calm, free, permit, vdrv]

theorem doorGuard_close {d : Dev} (state : d.door.state ∈ [2, 3, 4, 5, 6, 9] ∨ (d.door.state = 11 ∧ d.door.copies.egress = false ∧ d.door.copies.access = false)
      ∨ (d.door.state = 0 ∧ d.door.landfall.busy = true) ∨ (d.door.state = 13 ∧ d.door.fault = 5))
    (vdrv : d.door.state = 2 ∨ d.supply.vdrv = true) : d.doorGuard 0x22 = none := by
  rcases state with h | ⟨h, calm⟩ | ⟨h, busy⟩ | ⟨h, fault⟩
  · simp only [List.mem_cons, List.not_mem_nil, or_false] at h
    rcases h with h | h | h | h | h | h <;> simp_all [Dev.doorGuard, Dev.needsVdrv]
  · simp_all [Dev.doorGuard]
  · simp_all [Dev.doorGuard]
  · simp_all [Dev.doorGuard]

theorem doorGuard_hold {d : Dev} (state : d.door.state = 4 ∨ d.door.state = 5 ∨ (d.door.state = 6 ∧ d.door.copies.permit = true ∧ d.supply.vdrv = true)) :
    d.doorGuard 0x23 = none := by
  rcases state with h | h | ⟨h, permit, vdrv⟩
  · simp [Dev.doorGuard, h]
  · simp [Dev.doorGuard, h]
  · simp [Dev.doorGuard, h, permit, vdrv]

theorem doorGuard_isolate {d : Dev} (state : d.door.state ∉ [10, 11, 12, 13]) (vdrv : d.door.state ≤ 2 ∨ d.supply.vdrv = true) : d.doorGuard 0x24 = none := by
  simp only [List.mem_cons, List.not_mem_nil, or_false, not_or] at state
  rcases vdrv with h | h <;> simp [Dev.doorGuard, Dev.needsVdrv, state, h]

theorem doorGuard_landfall {d : Dev} (state : d.door.state = 0 ∨ d.door.state = 9) (enabled : d.par P.DOOR_LANDFALL_ENABLE = 1) (time : d.timeValid = true)
    (reef : d.supply.reef < 2) (vdrv : d.supply.vdrv = true) (step : d.door.step = 0 ∨ d.door.step = 5) (free : d.door.landfall.leaving = false) :
    d.doorGuard 0x26 = none := by
  rcases state with h | h <;> rcases step with k | k <;> simp [Dev.doorGuard, h, k, enabled, time, reef, vdrv, free]

theorem doorGuard_deploy {d : Dev} (state : d.door.state = 2 ∨ d.door.state = 4 ∨ (d.door.state = 5 ∧ d.door.origin = 1)) (step : d.door.step ∉ [4, 5])
    (port : (d.port 2).state ∉ [0, 5]) (vdrv : d.supply.vdrv = true) : d.doorGuard 0x28 = none := by
  simp only [List.mem_cons, List.not_mem_nil, or_false, not_or] at step port
  rcases state with h | h | ⟨h, origin⟩ <;> simp [Dev.doorGuard, Dev.findAway, *]

theorem doorGuard_retract {d : Dev} (state : d.door.state ∉ [9, 10, 11, 12]) (fitted : d.door.step ≠ 5)
    (trips : d.door.step = 4 → (d.drive.stepA.latched = true → d.drive.stepA.trips ≤ 3) ∧ (d.drive.stepB.latched = true → d.drive.stepB.trips ≤ 3))
    (vdrv : d.door.step = 0 ∨ d.supply.vdrv = true) : d.doorGuard 0x29 = none := by
  simp only [List.mem_cons, List.not_mem_nil, or_false, not_or] at state
  have few : ¬ (d.door.step = 4 ∧ ((d.drive.stepA.latched = true ∧ 3 < d.drive.stepA.trips) ∨ (d.drive.stepB.latched = true ∧ 3 < d.drive.stepB.trips))) := by
    rintro ⟨h, ⟨hl, ht⟩ | ⟨hl, ht⟩⟩
    · exact absurd ((trips h).1 hl) (by omega)
    · exact absurd ((trips h).2 hl) (by omega)
  have power : ¬ (d.needsVdrv 0x29 = true ∧ ¬ d.supply.vdrv = true) := by
    rcases vdrv with h | h <;> simp [Dev.needsVdrv, h]
  simp only [Dev.doorGuard]
  rw [if_neg (by simp [state]), if_neg few, if_neg power]
  simp [state, fitted]

theorem doorGuard_maintenance {d : Dev} (state : d.door.state ∈ [0, 4, 8, 10, 13]) (still : d.inMotion = false) (view : d.door.copies.view = 0) :
    d.doorGuard 0x2A = none := by
  simp only [List.mem_cons, List.not_mem_nil, or_false] at state
  rcases state with h | h | h | h | h <;> simp [Dev.doorGuard, h, still, view]

theorem doorGuard_clear {d : Dev} (state : (d.door.state = 8 ∧ (d.atOpenEnd = true ∨ (d.door.copies.permit = true ∧ d.supply.vdrv = true)))
    ∨ (d.door.state = 13 ∧ d.faultPresent = false)) : d.doorGuard 0x2C = none := by
  rcases state with ⟨h, k | ⟨permit, vdrv⟩⟩ | ⟨h, gone⟩
  · simp [Dev.doorGuard, Dev.needsVdrv, h, k]
  · simp [Dev.doorGuard, h, permit, vdrv]
  · simp [Dev.doorGuard, h, gone]

/-- Settles O18. -/
theorem doorOrdersWait : Obligations.DoorOrdersWait := by
  unfold Obligations.DoorOrdersWait
  intro h dt s waits calm timed
  refine ⟨?_, fun start => ?_, fun start => ?_, fun time => ?_, ?_, ?_, fun side => ?_, ?_, ?_, ?_, ?_, ?_, ?_, ?_⟩
  · exact door_row 0x20 0 rfl (fun _ => rfl) (fun _ _ => rfl) (fun _ _ => doorBody_none (by omega)) (fun d ⟨state, free, permit⟩ => doorGuard_release state free permit)
  · exact door_row 0x21 start rfl (fun _ => rfl) (fun _ _ => rfl) (fun d ⟨_, _, _, _, valid, near⟩ => doorBody_timed (by omega) valid near)
      (fun d ⟨state, free, permit, vdrv, _⟩ => doorGuard_open state free permit vdrv)
  · exact door_row 0x22 start rfl (fun _ => rfl) (fun _ _ => rfl) (fun d ⟨_, _, valid, near⟩ => doorBody_timed (by omega) valid near)
      (fun d ⟨state, vdrv, _⟩ => doorGuard_close state vdrv)
  · exact door_row 0x23 time rfl (fun _ => rfl) (fun _ _ => rfl) (fun d hd => doorBody_none ⟨by omega, by omega, fun _ => hd.1⟩) (fun d hd => doorGuard_hold hd.2)
  · exact door_row 0x24 0 rfl (fun _ => rfl) (fun _ _ => rfl) (fun _ _ => doorBody_none (by omega)) (fun d ⟨state, vdrv⟩ => doorGuard_isolate state vdrv)
  · exact door_row 0x25 0 rfl (fun _ => rfl) (fun _ _ => rfl) (fun _ _ => doorBody_none (by omega)) (fun d ⟨state, made⟩ => by simp [Dev.doorGuard, state, made])
  · exact door_row 0x26 side rfl (fun _ => rfl) (fun _ _ => rfl) (fun _ _ => doorBody_none (by omega))
      (fun d ⟨state, enabled, time, reef, vdrv, step, free⟩ => doorGuard_landfall state enabled time reef vdrv step free)
  · refine door_row 0x27 0 rfl (fun _ => rfl) (fun _ _ => rfl) (fun _ _ => doorBody_none (by omega)) (fun d hd => ?_)
    rcases hd with h | ⟨h, k⟩ <;> simp [Dev.doorGuard, *]
  · exact door_row 0x28 0 rfl (fun _ => rfl) (fun _ _ => rfl) (fun _ _ => doorBody_none (by omega))
      (fun d ⟨state, step, port, vdrv⟩ => doorGuard_deploy state step port vdrv)
  · exact door_row 0x29 0 rfl (fun _ => rfl) (fun _ _ => rfl) (fun _ _ => doorBody_none (by omega))
      (fun d ⟨state, fitted, trips, vdrv⟩ => doorGuard_retract state fitted trips vdrv)
  · exact door_row 0x2A 0 rfl (fun _ => rfl) (fun _ _ => rfl) (fun _ _ => doorBody_none (by omega))
      (fun d ⟨state, still, view⟩ => doorGuard_maintenance state still view)
  · exact door_row 0x2B 0 rfl (fun _ => rfl) (fun _ _ => rfl) (fun _ _ => doorBody_none (by omega))
      (fun d ⟨state, still⟩ => by simp [Dev.doorGuard, state, still])
  · exact door_row 0x2C 0 rfl (fun _ => rfl) (fun _ _ => rfl) (fun _ _ => doorBody_none (by omega)) (fun d state => doorGuard_clear state)
  · exact runs_unchecked rfl (fun _ => rfl) (fun _ _ => rfl)

end Sys2Proof.Laws
end

section
/-! SUPPORT. The profile update and the doorway's own timers (chapter 05): each acts once its condition holds, and idles else. -/

namespace Sys2Proof.Laws

open Sys2Proof Sys2Proof.Machine

/-- Settles O19: outside its grid the update idles, and on it the statement names its stages in their order. -/
theorem profileUpdate : Obligations.ProfileUpdate := by
  unfold Obligations.ProfileUpdate
  intro dt s
  refine acts_intro (f := Dev.profileUpdate Dev.takeAtProfile) rfl (fun d ⟨live, grid⟩ => ?_) (fun d idle => ?_)
  · have due : ¬ (¬ d.live = true ∨ ¬ d.onGrid 10 = true) := by simp [live, Dev.onGrid, grid]
    unfold Dev.profileUpdate Dev.handleInbox
    rw [if_neg due]
  · have off : ¬ d.live = true ∨ ¬ d.onGrid 10 = true := by
      simp only [Dev.onGrid, decide_eq_true_eq]; tauto
    unfold Dev.profileUpdate
    rw [if_pos off]

/-- A row of the sequencer acts where its own condition holds, once the device is ready and runs. -/
theorem readyRow {i : Instr} {dt : Nat} {s : State} {due : Dev → Prop} {effect f : Dev → Dev} (e : exec i s = onDev dt (Dev.whenReady f) s)
    (acts : ∀ d, due d → f d = effect d) (idles : ∀ d, ¬ due d → f d = d) :
    Acts i dt s (fun d => (d.ready = true ∧ d.live = true) ∧ due d) effect :=
  acts_intro e (fun d hd => (whenReady_due f d hd.1).trans (acts d hd.2)) (fun d hd => whenReady_not f d fun up => idles d fun k => hd ⟨up, k⟩)

/-! ### Orders, locks and the closing (R149 to R161, R182) -/

theorem startTime_due {d : Dev} {o : DoorOrder} (ho : d.door.waitOrder = some o) (due : d.beginTime o ≤ d.chron.time) :
    d.startTime = if d.juryComing then d.modDoor fun q => { q with waitOrder := none, inbox := q.inbox ++ [o] }
      else (d.modDoor fun q => { q with waitOrder := none }).startDoor o := by
  simp only [Dev.startTime, ho]
  rw [if_neg (by omega)]

theorem startTime_idle {d : Dev} (h : ¬ ∃ o, d.door.waitOrder = some o ∧ d.beginTime o ≤ d.chron.time) : d.startTime = d := by
  unfold Dev.startTime
  split
  case h_1 o ho => exact if_pos (not_le.1 fun k => h ⟨o, ho, k⟩)
  case h_2 => rfl

theorem warningFlash_idle {d : Dev} (h : ¬ (d.door.flashing = true ∧ d.door.flashNext ≤ d.now)) : d.warningFlash = d :=
  if_pos (by simpa only [not_and_or, not_le] using h)

theorem unlockTimeout_due {d : Dev} {t : Nat} (made : d.door.copies.lockMade = true) (ht : d.door.unlockBy = some t) (due : t ≤ d.now) :
    d.unlockTimeout = match d.door.landfall with
      | .unlocking _ => d.withdraw 8
      | _ => (d.setLock false).doorFault 1 := by
  simp only [Dev.unlockTimeout, ht, made]
  exact if_neg (by simpa using due)

theorem unlockTimeout_idle {d : Dev} (h : ¬ (d.door.copies.lockMade = true ∧ ∃ t, d.door.unlockBy = some t ∧ t ≤ d.now)) : d.unlockTimeout = d := by
  unfold Dev.unlockTimeout
  split
  case h_1 => rfl
  case h_2 t ht => exact if_pos (or_iff_not_imp_right.2 fun made => not_le.1 fun due => h ⟨not_not.1 made, t, ht, due⟩)

theorem lockTimeout_due {d : Dev} {t : Nat} (opened : d.door.copies.lockMade = false) (ht : d.door.lockBy = some t) (due : t ≤ d.now) :
    d.lockTimeout = if d.door.state = 1 ∧ d.door.landfall.leaving = false ∧ d.par P.DOOR_LOCK_RETRY = 1 ∧ d.door.lockRetried = false then
        (d.modDoor fun q => { q with lockRetried := true, lockBy := none, pulseEnd := some (d.now + ms 200) }).setLock true
      else d.doorFault 2 := by
  simp only [Dev.lockTimeout, ht]
  rw [if_neg (by simp [opened, due])]
  simp only [Bool.not_eq_true]

theorem lockTimeout_idle {d : Dev} (h : ¬ (d.door.copies.lockMade = false ∧ ∃ t, d.door.lockBy = some t ∧ t ≤ d.now)) : d.lockTimeout = d := by
  unfold Dev.lockTimeout
  split
  case h_1 => rfl
  case h_2 t ht => exact if_pos (or_iff_not_imp_right.2 fun opened => not_le.1 fun due => h ⟨Bool.not_eq_true _ ▸ opened, t, ht, due⟩)

theorem retryPulseEnd_due {d : Dev} {t : Nat} (ht : d.door.pulseEnd = some t) (due : t ≤ d.now) :
    d.retryPulseEnd = (d.modDoor fun q => { q with pulseEnd := none, lockBy := some (d.now + ms (d.parN P.DOOR_LOCK_TIME)) }).setLock false := by
  simp only [Dev.retryPulseEnd, ht]
  rw [if_neg (by omega)]

theorem retryPulseEnd_idle {d : Dev} (h : ¬ ∃ t, d.door.pulseEnd = some t ∧ t ≤ d.now) : d.retryPulseEnd = d := by
  unfold Dev.retryPulseEnd
  split
  case h_1 t ht => exact if_pos (not_le.1 fun due => h ⟨t, ht, due⟩)
  case h_2 => rfl

/-- DOOR_CLOSED_WAIT has passed since a time. -/
abbrev waited (d : Dev) (since : Option Nat) : Prop := ∃ t, since = some t ∧ ms (d.parN P.DOOR_CLOSED_WAIT) ≤ d.now - t

theorem closedWait_eq (d : Dev) : d.closedWait = if d.door.state ≠ 6 then d
    else if waited d d.door.waitPairs then (d.modDoor fun q => { q with waitPairs := none }).closingObstruction
    else if waited d d.door.waitWindow then d.doorFault 3 else d := by
  unfold Dev.closedWait
  cases d.door.waitPairs <;> cases d.door.waitWindow <;> simp [waited]

theorem lockOpenedLocked_idle {d : Dev} (h : ¬ (d.door.state = 0 ∧ d.door.copies.lockMade = false ∧ d.door.unlockBy = none ∧ d.door.landfall.leaving = false)) :
    d.lockOpenedLocked = d := if_neg (by simpa using h)

theorem holdingEnd_due {d : Dev} {t : Nat} (state : d.door.state = 5) (ht : d.door.holdEnd = some t) (due : t ≤ d.now) :
    d.holdingEnd =
      let d := d.modDoor fun q => { q with holdEnd := none }
      if d.door.origin = 1 then d.setDoor 4 else if d.door.origin = 2 then d.beginClosing 0 else d.beginOpening := by
  simp only [Dev.holdingEnd, ht]
  rw [if_neg (by omega)]

theorem holdingEnd_idle {d : Dev} (h : ¬ (d.door.state = 5 ∧ ∃ t, d.door.holdEnd = some t ∧ t ≤ d.now)) : d.holdingEnd = d := by
  unfold Dev.holdingEnd
  split
  case h_1 => rfl
  case h_2 t ht => exact if_pos (or_iff_not_imp_left.2 fun state => not_le.1 fun due => h ⟨not_not.1 state, t, ht, due⟩)

theorem reefResume_idle {d : Dev} (h : ¬ (d.door.suspended = true ∧ d.supply.reef < 3 ∧ ∃ t, d.door.resumeAt = some t ∧ t ≤ d.now)) : d.reefResume = d := by
  unfold Dev.reefResume
  split
  case h_1 => rfl
  case h_2 t ht =>
    refine if_pos ?_
    by_contra k
    rw [not_or, not_or, not_not, not_lt, not_le] at k
    exact h ⟨k.1, k.2.2, t, ht, k.2.1⟩

/-! ### The lock pair (R149 to R151, R163 to R169) -/

theorem lockPairMade_eq (d : Dev) : d.lockPairMade = if d.door.copies.lockMade = false then d
    else if d.door.landfall.leaving = true ∧ d.door.lockBy.isSome = true then
      (if d.door.state = 9 ∨ d.door.state = 0 then (d.setDoor 1).modDoor fun q => { q with lockBy := some d.now } else d).tryLock
    else if d.door.state = 1 ∧ d.door.pulseEnd = none then d.tryLock else d := by
  unfold Dev.lockPairMade
  simp only [Bool.not_eq_true, Option.isNone_iff_eq_none]

/-- A reversal or back-off is over where its leaf rests with no move before it. -/
theorem reversalOver_idle {back : Bool} {d : Dev} (h : ¬ (d.door.state = 7 ∧ d.door.backingOff = back ∧ d.door.stopping = false
    ∧ d.leaf.rests = true ∧ d.leaf.next = none ∧ d.door.suspended = false)) : d.reversalOver back = d :=
  if_neg (by simpa [Option.isNone_iff_eq_none] using h)

theorem reversalOver_due {back : Bool} {d : Dev} (h : d.door.state = 7 ∧ d.door.backingOff = back ∧ d.door.stopping = false
    ∧ d.leaf.rests = true ∧ d.leaf.next = none ∧ d.door.suspended = false) : d.reversalOver back = d.reversalEnds :=
  if_pos (by simpa [Option.isNone_iff_eq_none] using h)

/-! ### Landfall, the assist and the step (R163 to R173, R176) -/

theorem landfallCheck_idle {d : Dev} (h : ¬ ∃ slot t, d.door.landfall = .entering slot t ∧ ms 20 ≤ d.now - t) : d.landfallCheck = d := by
  unfold Dev.landfallCheck
  split
  case h_1 slot t ht => exact if_pos (not_le.1 fun due => h ⟨slot, t, ht, due⟩)
  case h_2 => rfl

theorem armExpiry_idle {d : Dev} (h : ¬ ∃ slot t, d.door.landfall = .armed slot t ∧ t ≤ d.now) : d.armExpiry = d := by
  unfold Dev.armExpiry
  split
  case h_1 slot t ht => exact if_pos (not_le.1 fun due => h ⟨slot, t, ht, due⟩)
  case h_2 => rfl

theorem landfallMax_idle {d : Dev} (h : ¬ ∃ t, d.door.landfall = .held t ∧ sec (d.parN P.DOOR_LANDFALL_MAX) ≤ d.now - t) : d.landfallMax = d := by
  unfold Dev.landfallMax
  split
  case h_1 t ht => exact if_pos (not_le.1 fun due => h ⟨t, ht, due⟩)
  case h_2 => rfl

theorem assistEnd_eq (d : Dev) : d.assistEnd =
    if d.door.state = 11 ∧ d.door.assist = true ∧ ((∃ t, d.door.assistStill = some t ∧ ms 500 ≤ d.now - t) ∨ d.atOpenEnd = true) then d.freeLeaves else d := by
  unfold Dev.assistEnd Dev.endAssist
  cases d.door.assistStill <;> simp

theorem stepTimeout_idle {d : Dev} (h : ¬ ((d.door.step = 1 ∨ d.door.step = 3) ∧ ∃ t, d.door.stepSince = some t ∧ sec 3 ≤ d.now - t)) : d.stepTimeout = d := by
  unfold Dev.stepTimeout
  split
  case h_1 t ht => exact if_neg fun due => h ⟨due.1, t, ht, due.2⟩
  case h_2 => rfl

theorem findContinue_eq (d : Dev) : d.findContinue =
    if d.door.step = 1 ∧ d.door.stepSince = none ∧ d.step.phases = [] ∧ d.stepObstacle = false
      ∧ ms (d.parN P.DOOR_RECLOSE_DELAY) ≤ d.now - d.obst.stepClearSince ∧ d.door.stepWaiting = false ∧ d.step.find ≠ 0
    then d.modDoor fun q => { q with stepSince := some d.now } else d := by
  unfold Dev.findContinue
  simp only [Option.isNone_iff_eq_none, List.isEmpty_iff, Bool.not_eq_true]

theorem retractAgain_due {d : Dev} {t : Nat} (step : d.door.step = 2) (clear : d.stepObstacle = false)
    (wait : ms (d.parN P.DOOR_RECLOSE_DELAY) ≤ d.now - d.obst.stepClearSince) (ht : d.door.stepAgain = some t) (due : t ≤ d.now) :
    d.retractAgain = d.beginRetract := by
  simp only [Dev.retractAgain, ht]
  exact if_neg (by simp [step, clear]; omega)

theorem retractAgain_idle {d : Dev} (h : ¬ (d.door.step = 2 ∧ d.stepObstacle = false ∧ ms (d.parN P.DOOR_RECLOSE_DELAY) ≤ d.now - d.obst.stepClearSince
    ∧ ∃ t, d.door.stepAgain = some t ∧ t ≤ d.now)) : d.retractAgain = d := by
  unfold Dev.retractAgain
  split
  case h_1 => rfl
  case h_2 t ht =>
    refine if_pos ?_
    by_contra k
    rw [not_or, not_or, not_or, not_lt, not_not, not_lt, Bool.not_eq_true] at k
    exact h ⟨k.2.1, k.2.2.1, k.2.2.2, t, ht, k.1⟩

/-- Settles O20: a row acts on its condition by the lemma of its timer, and idles by its partner. -/
theorem doorwayTimers : Obligations.DoorwayTimers := by
  unfold Obligations.DoorwayTimers
  refine ⟨fun dt s => ?_, fun dt s => ?_, fun dt s => ?_⟩
  · intro up
    refine ⟨readyRow rfl (fun d => ?_) (fun d => startTime_idle), readyRow rfl (fun d => ?_) (fun d => warningFlash_idle),
      readyRow rfl (fun d => ?_) (fun d => unlockTimeout_idle), readyRow rfl (fun d => ?_) (fun d => ?_),
      readyRow rfl (fun d => ?_) (fun d => lockTimeout_idle), readyRow rfl (fun d => ?_) (fun d => retryPulseEnd_idle),
      readyRow rfl (fun d => ?_) (fun d => lockOpenedLocked_idle), readyRow rfl (fun d => ?_) (fun d => holdingEnd_idle),
      readyRow rfl (fun d => ?_) (fun d => reefResume_idle)⟩
    · rintro ⟨o, ho, due⟩
      simpa only [ho] using startTime_due ho due
    · rintro ⟨flashing, due⟩
      exact if_neg (by simp [flashing, due])
    · rintro ⟨made, t, ht, due⟩
      exact unlockTimeout_due made ht due
    · rintro ⟨state, due⟩
      rw [closedWait_eq, if_neg (not_not.2 state)]
      split
      · rfl
      · next h => exact if_pos (due.resolve_left h)
    · intro idle
      rw [closedWait_eq]
      split
      · rfl
      · next state => rw [if_neg fun h => idle ⟨not_not.1 state, .inl h⟩, if_neg fun h => idle ⟨not_not.1 state, .inr h⟩]
    · rintro ⟨opened, t, ht, due⟩
      exact lockTimeout_due opened ht due
    · rintro ⟨t, ht, due⟩
      exact retryPulseEnd_due ht due
    · exact fun due => if_pos (by simpa using due)
    · rintro ⟨state, t, ht, due⟩
      exact holdingEnd_due state ht due
    · rintro ⟨suspended, reef, t, ht, due⟩
      simp only [Dev.reefResume, ht]
      rw [if_neg (by simp [suspended]; omega)]
      simp only [Bool.not_eq_true, Bool.decide_or]
  · intro up past
    refine ⟨readyRow rfl (fun d => ?_) (fun d => ?_), readyRow rfl (fun d => ?_) (fun d => ?_),
      readyRow rfl (fun d h => (reversalOver_due h).trans ?_) (fun d => reversalOver_idle),
      readyRow rfl (fun d h => (reversalOver_due h).trans ?_) (fun d => reversalOver_idle)⟩
    · rintro ⟨opened, waiting⟩
      have due : ¬ (d.door.unlockBy.isNone = true ∨ d.door.copies.lockMade = true) := by
        rw [← Option.not_isSome]
        simp [opened, waiting]
      unfold Dev.lockPairOpened
      rw [if_neg due]
      cases d.door.landfall with
      | unlocking slot => rfl
      | _ =>
        cases ho : d.door.order with
        | none => simp
        | some o => simp
    · intro idle
      refine if_pos (or_iff_not_imp_right.2 fun opened => ?_)
      by_contra waiting
      exact idle ⟨Bool.not_eq_true _ ▸ opened, by simpa [Option.isSome_iff_ne_none] using waiting⟩
    · rintro ⟨made, h⟩
      rw [lockPairMade_eq, if_neg (by simp [made])]
      split
      · rfl
      · next other => exact if_pos (h.resolve_left other)
    · intro idle
      rw [lockPairMade_eq]
      split
      · rfl
      · next made =>
        have made := Bool.not_eq_false _ ▸ made
        rw [if_neg fun h => idle ⟨made, .inl h⟩, if_neg fun h => idle ⟨made, .inr h⟩]
    · simp only [Dev.reversalEnds, h.2.1]
      rfl
    · simp only [Dev.reversalEnds, h.2.1]
      rfl
  · intro up
    refine ⟨readyRow rfl (fun d => ?_) (fun d => landfallCheck_idle), readyRow rfl (fun d => ?_) (fun d => armExpiry_idle),
      readyRow rfl (fun d => ?_) (fun d => landfallMax_idle), readyRow rfl (fun d due => if_pos (by simpa using due)) (fun d idle => if_neg (by simpa using idle)),
      readyRow rfl (fun d due => (assistEnd_eq d).trans (if_pos due)) (fun d idle => (assistEnd_eq d).trans (if_neg idle)),
      readyRow rfl (fun d => ?_) (fun d => stepTimeout_idle),
      readyRow rfl (fun d due => (findContinue_eq d).trans (if_pos due)) (fun d idle => (findContinue_eq d).trans (if_neg idle)),
      readyRow rfl (fun d => ?_) (fun d => retractAgain_idle)⟩
    · rintro ⟨slot, t, ht, due⟩
      simp only [Dev.landfallCheck, ht]
      rw [if_neg (by omega)]
      unfold Dev.forceCheck
      dsimp only
      split <;> rfl
    · rintro ⟨slot, t, ht, due⟩
      simp only [Dev.armExpiry, ht]
      exact if_neg (by omega)
    · rintro ⟨t, ht, due⟩
      simp only [Dev.landfallMax, ht]
      exact if_neg (by omega)
    · rintro ⟨step, t, ht, due⟩
      simp only [Dev.stepTimeout, ht]
      exact if_pos ⟨step, due⟩
    · rintro ⟨step, clear, wait, t, ht, due⟩
      exact retractAgain_due step clear wait ht due

end Sys2Proof.Laws
end

section
/-! SUPPORT. The host link (R98 to R116, R138): a packet through SPI and through one CAN segment, the events of the link, and the jobs of orders that end. -/

namespace Sys2Proof.Laws

open Sys2Proof Sys2Proof.Machine

/-! ### A whole packet through a channel -/

/-- The bytes of a command, as its row packs them. -/
abbrev rowBytes (h : CmdHead) (c : HostCmd) : List Byte := packet (opcodeOf c) h.tag.toNat (bit h.note) (encodeBody c)

theorem packetAt_rowBytes (h : CmdHead) {c : HostCmd} (hw : wfCmd c = true) : packetAt (rowBytes h c) = packetOf h c :=
  packetAt_packet (opcodeOf_lt c) h.tag.isLt (by unfold bit; split <;> omega) (length_encodeBody_le c hw)

theorem length_packet (opcode tag flags : Nat) (body : List Byte) :
    (packet opcode tag flags body).length = if body = [] then 8 else 12 + body.length := by
  by_cases h : body = []
  · simp [packet, h, length_packetHeader]
  · simp [packet, h, length_packetHeader, u32]; omega

theorem headerOk_length {bs : List Byte} (h : headerOk bs = true) : 8 ≤ bs.length := by
  simp only [headerOk, Bool.and_eq_true, decide_eq_true_eq] at h
  exact h.1.1

/-- A packet's bytes begin with the sync, announce their own length, and that is no longer than a packet may be. -/
theorem rowBytes_shape (h : CmdHead) {c : HostCmd} (hw : wfCmd c = true) :
    (∃ rest, rowBytes h c = 0xA5#8 :: rest) ∧ packetLength (rowBytes h c) = (rowBytes h c).length ∧ fieldAt 4 2 (rowBytes h c) ≤ 1024
      ∧ (rowBytes h c).length ≤ 1036 := by
  have body := length_encodeBody_le c hw
  have field : fieldAt 4 2 (rowBytes h c) = (encodeBody c).length := congrArg InPacket.length (packetAt_rowBytes h hw)
  refine ⟨⟨_, rfl⟩, ?_, by omega, ?_⟩
  · unfold packetLength
    simp only [field, length_packet, List.length_eq_zero_iff]
  · rw [length_packet]
    split <;> omega

/-- The bytes of one packet alone are taken as that packet. -/
theorem deframe_packet (h : CmdHead) {c : HostCmd} (hw : wfCmd c = true) (d : Dev) :
    Dev.deframe (rowBytes h c).length inboundSize (rowBytes h c) d = ([], d.hostCommand h c) := by
  have ok : headerOk (rowBytes h c) = true := headerOk_packet ..
  have command := packetAt_rowBytes h hw
  obtain ⟨⟨rest, hrest⟩, size, short, most⟩ := rowBytes_shape h hw
  have long := headerOk_length ok
  obtain ⟨n, hn⟩ : ∃ n, (rowBytes h c).length = n + 2 := ⟨(rowBytes h c).length - 2, by omega⟩
  rw [hn]
  generalize rowBytes h c = bs at *
  subst hrest
  have room : ¬ inboundSize < (0xA5#8 :: rest).length := by simp only [inboundSize]; omega
  unfold Dev.deframe
  simp only [ne_eq, not_true_eq_false, if_false, Nat.not_lt.2 long, ok, size, Nat.not_lt.2 short, decide_false, Bool.false_eq_true, lt_irrefl, room,
    command, List.drop_length]
  rfl

theorem spiTransaction_packet (h : CmdHead) {c : HostCmd} (hw : wfCmd c = true) (first : Byte) {d : Dev} (ho : d.host.isOpen = true)
    (hs : d.host.chan.channel = 0) (hin : d.host.spiIn = []) (hout : d.host.out = []) :
    d.spiTransaction (first :: rowBytes h c) =
      (let t : Dev := ({ d with host := { d.host with
          selected := true, spiOut := BitVec.ofNat 8 d.spiStatus :: List.replicate (rowBytes h c).length 0#8 } } : Dev).hostCommand h c;
        Dev.judgePark { t with host := { t.host with spiIn := [], spiLast := t.now } }) := by
  have ne : rowBytes h c ≠ [] := fun e => by
    obtain ⟨⟨rest, hrest⟩, -⟩ := rowBytes_shape h hw
    rw [e] at hrest
    cases hrest
  have out (n : Nat) (e : Dev) : Dev.shiftOut 0 n e = (List.replicate n 0#8, e) := rfl
  unfold Dev.spiTransaction
  simp only [ho, Dev.spiRuns, hs, Dev.dropSpi, hin, hout, List.length_cons, List.length_nil, List.drop_succ_cons, List.drop_zero,
    Nat.add_sub_cancel, ne]
  simp [out, deframe_packet h hw]

/-- The last segment of a packet that came whole. -/
theorem judgeSegments_packet (h : CmdHead) {c : HostCmd} (hw : wfCmd c = true) (next seq last : Nat) (d : Dev) :
    d.judgeSegments true { bytes := rowBytes h c, next := next, seq := seq, last := last } =
      ({ d with host := { d.host with reasm := none } } : Dev).hostCommand h c := by
  have ok : headerOk (rowBytes h c) = true := headerOk_packet ..
  have long := headerOk_length ok
  obtain ⟨-, -, short, -⟩ := rowBytes_shape h hw
  simp only [Dev.judgeSegments, ok, long, Nat.not_lt.2 short, packetAt_rowBytes h hw]
  simp [Dev.hostCommand]

theorem firstSegment_packet (h : CmdHead) {c : HostCmd} (hw : wfCmd c = true) {seq : Nat} {d : Dev} (hr : d.host.reasm = none)
    (hp : ∀ p, d.host.prevSeq = some p → seq = (p + 1) % 256) :
    d.firstSegment 0 seq true (rowBytes h c) =
      ({ d with host := { d.host with prevSeq := some seq, dropSeq := none, reasm := none } } : Dev).hostCommand h c := by
  have drop : d.dropSegments 3 = d := by simp [Dev.dropSegments, hr]
  unfold Dev.firstSegment
  rw [drop]
  cases hq : d.host.prevSeq with
  | none =>
    simp only [hq]
    exact judgeSegments_packet h hw ..
  | some p =>
    simp only [hq, if_pos (hp p hq)]
    exact judgeSegments_packet h hw ..

theorem segmentIn_packet (h : CmdHead) {c : HostCmd} (hw : wfCmd c = true) {format : Nat} {seq : Byte} {d : Dev} (ho : d.host.isOpen = true)
    (hc : d.host.chan.channel ≠ 0) (hr : d.host.reasm = none) (hf : if d.host.chan.format = 1 then format = 4 else format = 2 ∨ format = 3)
    (hp : ∀ p, d.host.prevSeq = some p → seq.toNat = (p + 1) % 256) :
    d.segmentIn format (0xC0#8 :: seq :: rowBytes h c) =
      ({ d with host := { d.host with prevSeq := some seq.toNat, dropSeq := none, reasm := none } } : Dev).hostCommand h c := by
  have gap : d.segmentGap = d := by simp [Dev.segmentGap, hr]
  have fits : (if d.host.chan.format = 1 then decide (format = 4) else decide (format = 2) || decide (format = 3)) = true := by
    split at hf <;> simp [*]
  have head : fieldAt 0 1 (0xC0#8 :: seq :: rowBytes h c) = 0xC0 := rfl
  have second : fieldAt 1 1 (0xC0#8 :: seq :: rowBytes h c) = seq.toNat := by simp [fieldAt, leNat]
  unfold Dev.segmentIn
  rw [if_neg (by simp [ho, hc]), gap]
  simp only [fits, head, second]
  exact firstSegment_packet h hw hr hp

/-- Settles O22: a packet through either channel is the packet of its row, and the link's events act on their conditions. -/
theorem hostChannelsAndLink : Obligations.HostChannelsAndLink := by
  unfold Obligations.HostChannelsAndLink
  refine ⟨fun dt h c s hw => ⟨fun first ho hs hin hout => ?_, fun format seq ho hc hr hf hp => ?_⟩,
    fun dt s => ⟨fun bytes => ?_, ?_, ?_, fun format bytes => ?_, ?_, ?_, ?_⟩⟩
  · exact leaves_intro (f := Dev.spiTransaction _) rfl (spiTransaction_packet h hw first ho hs hin hout)
  · exact leaves_intro (f := Dev.segmentIn _ _) rfl (segmentIn_packet h hw ho hc hr hf hp)
  · refine acts_intro (f := Dev.spiTransaction bytes) rfl (fun d ho => ?_) (fun d hc => if_pos hc)
    simp only [Dev.spiTransaction, Dev.spiRuns, ho]
    simp
  · exact leaves_intro (f := Dev.spiEnd) rfl rfl
  · refine acts_intro (f := Dev.dropSpi) rfl (fun d ⟨ne, late⟩ => ?_) (fun d idle => if_pos (by simpa only [not_and_or, not_not, not_lt] using idle))
    exact if_neg (by rw [not_or, not_le]; exact ⟨ne, late⟩)
  · refine acts_intro (f := Dev.segmentIn format bytes) rfl (fun d ⟨ho, hc⟩ => ?_) (fun d idle => if_pos (by simpa only [not_and_or, not_not] using idle))
    unfold Dev.segmentIn
    rw [if_neg (by simp [ho, hc])]
    have fits (k : Nat) : ¬ (if k = 1 then decide (format = 4) else decide (format = 2) || decide (format = 3)) = true ∨ bytes.length < 2
        ↔ ¬ (if k = 1 then format = 4 else format = 2 ∨ format = 3) ∨ bytes.length < 2 := by
      split <;> simp
    simp only [fits]
  · refine acts_intro (f := Dev.segmentGap) rfl (fun d ⟨r, hr, late⟩ => ?_) (fun d idle => ?_)
    · simp only [Dev.segmentGap, hr]
      exact if_pos late
    · unfold Dev.segmentGap
      split
      case h_1 r hr => exact if_neg fun late => idle ⟨r, hr, late⟩
      case h_2 => rfl
  · refine acts_intro (f := Dev.hostSilent) rfl (fun d ⟨ho, ht, late, fresh⟩ => ?_) (fun d idle => ?_)
    · unfold Dev.hostSilent
      dsimp only
      rw [if_neg (by rw [not_or, not_or, not_or, not_not, not_lt, Bool.not_eq_true]; exact ⟨ho, by omega, late, fresh⟩)]
      by_cases ready : (d.onset 8 2 0xFF (u32 (d.parN P.SYS_HOST_TIMEOUT))).ready = true
      · simp only [ready, if_true, Dev.silentClose, true_and]
      · simp only [ready, Bool.false_eq_true, if_false, false_and]
    · refine if_pos ?_
      by_contra k
      rw [not_or, not_or, not_or, not_not, not_lt, Bool.not_eq_true] at k
      exact idle ⟨k.1, by omega, k.2.2⟩
  · refine acts_intro (f := Dev.switchChannel) rfl (fun d ⟨c, slot, hs, left⟩ => ?_) (fun d idle => ?_)
    · simp only [Dev.switchChannel, hs]
      exact if_neg (by simpa using left)
    · unfold Dev.switchChannel
      split
      case h_1 => rfl
      case h_2 c slot hs => exact if_pos (by by_contra left; exact idle ⟨c, slot, hs, by simpa using left⟩)

/-! ### The jobs of orders (R114, R119, R127) -/

/-- Where no order with that tag waits for a job, its end changes nothing. -/
theorem orderCompleted_idle {tag : Nat} {ok : Bool} {d : Dev} (none : ∀ f, d.host.flightOf tag = some f → ∀ j ∈ d.host.jobs, j.slot ≠ f.slot) :
    d.orderCompleted tag ok = d := by
  unfold Dev.orderCompleted
  split
  case h_1 => rfl
  case h_2 f hf =>
    have gone : d.host.jobs.find? (fun j => j.slot = f.slot) = Option.none := by simpa [List.find?_eq_none] using none f hf
    rw [gone]

/-- The job of the order in flight with that tag ends. -/
theorem orderCompleted_ends {tag : Nat} (ok : Bool) {d : Dev} {f : Flight} {j : JobOrder} (hf : d.host.flightOf tag = some f)
    (hj : (d.host.jobs.find? fun j => j.slot = f.slot) = some j) : d.orderCompleted tag ok = (d.dropJob f.slot).endJob f.slot j.job ok := by
  simp only [Dev.orderCompleted, hf, hj]

/-- Settles O23, one kind of job after the other. -/
theorem jobsEnd : Obligations.JobsEnd := by
  unfold Obligations.JobsEnd
  intro dt tag ok s d
  refine ⟨fun none => leaves_intro (f := Dev.orderCompleted tag.toNat ok) rfl (orderCompleted_idle none), fun f j hf hj => ?_⟩
  have ends {x : Dev} (h : (d.dropJob f.slot).endJob f.slot j.job ok = x) : Leaves (.orderCompleted dt tag ok) s x :=
    leaves_intro (f := Dev.orderCompleted tag.toNat ok) rfl ((orderCompleted_ends ok hf hj).trans h)
  intro t
  refine ⟨fun bank length hk => ends ?_, fun off bytes l hk hl => ends ?_, fun crc hk => ends ?_, fun hk => ends ?_, fun values hk => ends ?_,
    fun hk => ends ?_, fun writes groups hk => ends ?_, fun value hk => ends ?_, fun what hk => ends ?_, fun hk => ends ?_, fun hk => ends ?_⟩
  · rw [hk]; rfl
  · have load : (d.dropJob f.slot).fw = some l := hl
    rw [hk]
    simp only [Dev.endJob, load]
    rfl
  all_goals rw [hk]; rfl

end Sys2Proof.Laws
end

section
/-! SUPPORT. Resets, start-up, waking and the supplies (R53 to R92): what entering reset keeps, the causes, the steps of start-up, and the thresholds. -/

namespace Sys2Proof.Laws

open Sys2Proof Sys2Proof.Machine

/-! ### The cause word -/

theorem testBit_setBit (v m k : Nat) : (setBit v m).testBit k = (decide (k = m) || v.testBit k) := by
  unfold setBit
  split
  case isTrue h => by_cases e : k = m <;> simp [e, h]
  case isFalse h =>
    rw [Nat.add_comm]
    rcases lt_trichotomy k m with lt | rfl | gt
    · rw [Nat.testBit_two_pow_add_gt lt, decide_eq_false lt.ne, Bool.false_or]
    · rw [Nat.testBit_two_pow_add_eq, Bool.eq_false_iff.2 h, decide_eq_true rfl]
      rfl
    · obtain ⟨j, rfl⟩ : ∃ j, k = j + (m + 1) := ⟨k - (m + 1), by omega⟩
      have even : v / 2 ^ m % 2 = 0 := by simpa [Nat.testBit_eq_decide_div_mod_eq] using h
      have above : (2 ^ m + v) / 2 ^ (m + 1) = v / 2 ^ (m + 1) := by
        rw [pow_succ, ← Nat.div_div_eq_div_mul, ← Nat.div_div_eq_div_mul, Nat.add_div_left _ (Nat.two_pow_pos m)]
        omega
      rw [← Nat.testBit_div_two_pow, above, Nat.testBit_div_two_pow, decide_eq_false (by omega), Bool.false_or]

theorem testBit_setBits (causes : List Nat) (v k : Nat) : (setBits causes v).testBit k = (decide (k ∈ causes) || v.testBit k) := by
  induction causes generalizing v with
  | nil => simp [setBits]
  | cons c cs ih =>
    rw [setBits, ih, testBit_setBit]
    simp only [List.mem_cons, Bool.decide_or, Bool.or_assoc, Bool.or_left_comm]

/-! ### The loads evaluated while the host interface is closed

A report is then held, no off-state test is ordered, and so nothing but the loads and the held reports changes. -/

/-- The device without its loads, the reports held and the standing conditions. -/
def besideLoads (d : Dev) : Dev := { d with load := {}, host := { d.host with held := [], standing := [] } }

/-- One device follows another in silence: closed, without ordered tests, the same beside the loads. -/
structure Silent (d t : Dev) : Prop where
  closed : t.host.isOpen = false
  untested : t.load.testOrder = none
  beside : besideLoads t = besideLoads d

theorem Silent.trans {a b c : Dev} (h : Silent a b) (k : Silent b c) : Silent a c := ⟨k.closed, k.untested, k.beside.trans h.beside⟩

section
variable {a d : Dev} (h : Silent a d)
include h

theorem Silent.modCh (n : Nat) (f : Channel → Channel) : Silent a (d.modCh n f) := ⟨h.closed, h.untested, h.beside⟩

theorem Silent.raiseAt (src sev phase subject : Nat) (fields : List Byte) (time : Nat) : Silent a (d.raiseAt src sev phase subject fields time) := by
  unfold Dev.raiseAt
  rw [if_neg (by simp [h.closed])]
  exact ⟨h.closed, h.untested, h.beside⟩

theorem Silent.standings (l : List Standing) : Silent a { d with host := { d.host with standing := l } } := ⟨h.closed, h.untested, h.beside⟩

theorem Silent.onset (src sev subject : Nat) (fields : List Byte) : Silent a (d.onset src sev subject fields) := by
  unfold Dev.onset
  split
  · exact h
  · exact (h.standings _).raiseAt ..

theorem Silent.clearing (src subject : Nat) (fields : List Byte) : Silent a (d.clearing src subject fields) := by
  unfold Dev.clearing
  split
  · exact (h.standings _).raiseAt ..
  · exact h

theorem Silent.failPrimary (n why : Nat) : Silent a (d.failPrimary n why) := by
  unfold Dev.failPrimary
  split
  · split
    · exact h
    · exact (h.modCh ..).raiseAt ..
  · exact h

theorem Silent.judgePrimary (p : Nat) : Silent a (d.judgePrimary p) := by
  unfold Dev.judgePrimary
  split
  · exact h.failPrimary ..
  · exact h

theorem Silent.judgePair (p : Nat) : Silent a (d.judgePair p) := by
  unfold Dev.judgePair
  dsimp only
  split
  · exact h.onset ..
  · split
    · exact h.clearing ..
    · exact h

omit h in
theorem Silent.applyDemands (ns : List Nat) {d : Dev} (h : Silent a d) : Silent a (Dev.applyDemands ns d) := by
  induction ns generalizing d with
  | nil => exact h
  | cons n ns ih => exact ih (h.modCh ..)

theorem Silent.judgeTests : Silent a d.judgeTests := by
  unfold Dev.judgeTests
  rw [h.untested]
  exact h

theorem Silent.refreshLoads : Silent a d.refreshLoads :=
  (((((h.judgePrimary 0).judgePrimary 1).applyDemands (List.range 12)).judgePair 0).judgePair 1).judgeTests

end

/-! ### The last trip of a channel -/

theorem applyDemands_lastTrip (ns : List Nat) (d : Dev) (m : Nat) : ((Dev.applyDemands ns d).ch m).lastTrip = (d.ch m).lastTrip := by
  induction ns generalizing d with
  | nil => rfl
  | cons n ns ih =>
    refine (ih _).trans ?_
    unfold Dev.applyDemand
    refine ch_modCh_keeps Channel.lastTrip _ (fun c => ?_) d n m
    dsimp only
    split
    · rfl
    · split <;> rfl

theorem failPrimary_lastTrip (n why : Nat) (d : Dev) (m : Nat) : ((d.failPrimary n why).ch m).lastTrip = (d.ch m).lastTrip := by
  unfold Dev.failPrimary
  split
  · split
    · rfl
    · rw [ch_congr (congrArg Load.channels (Dev.raise_load ..))]
      exact ch_modCh_keeps Channel.lastTrip (fun c => { c with failed := true }) (fun _ => rfl) d n m
  · rfl

theorem judgePrimary_lastTrip (p : Nat) (d : Dev) (m : Nat) : ((d.judgePrimary p).ch m).lastTrip = (d.ch m).lastTrip := by
  unfold Dev.judgePrimary
  split
  · exact failPrimary_lastTrip _ 2 d m
  · rfl

theorem refreshLoads_lastTrip (d : Dev) (m : Nat) : (d.refreshLoads.ch m).lastTrip = (d.ch m).lastTrip := by
  unfold Dev.refreshLoads
  rw [ch_congr (judgeTests_channels _), ch_congr (congrArg Load.channels (judgePair_load 1 _)), ch_congr (congrArg Load.channels (judgePair_load 0 _)),
    applyDemands_lastTrip, judgePrimary_lastTrip, judgePrimary_lastTrip]

/-! ### Entering reset -/

/-- The device as reset finds it, before the demands are evaluated. -/
def resetDev (causes : List Nat) (d : Dev) : Dev where
  now := d.now
  draws := d.draws
  nv := { d.nv with keep := { d.nv.keep with cause := setBits causes d.nv.keep.cause }, unsent := satU 16 d.host.eventFill }
  supply := { d.supply.throughReset with chronLeft := if d.supply.step = 0 then d.supply.chronLeft else d.chron.state }
  prm := { working := d.prm.working }
  load := d.load.throughReset

theorem enterReset_eq (causes : List Nat) (d : Dev) : d.enterReset causes = (resetDev causes d).refreshLoads := rfl

theorem enterReset_beside (causes : List Nat) (d : Dev) : besideLoads (d.enterReset causes) = besideLoads (resetDev causes d) :=
  (Silent.refreshLoads ⟨rfl, rfl, rfl⟩).beside

theorem ch_resetDev (causes : List Nat) (d : Dev) (n : Nat) : (resetDev causes d).ch n = (d.ch n).throughReset := by
  simp only [Dev.ch, resetDev, Load.throughReset, List.getD_eq_getElem?_getD, List.getElem?_map]
  cases d.load.channels[n]? <;> rfl

theorem enterReset_lasting (causes : List Nat) (d : Dev) (n : Nat) :
    lasting ((d.enterReset causes).ch n) = lasting (d.ch n).throughReset := by
  rw [enterReset_eq, refreshLoads_lasting, ch_resetDev]

theorem enterReset_lastTrip (causes : List Nat) (d : Dev) (n : Nat) : ((d.enterReset causes).ch n).lastTrip = (d.ch n).lastTrip := by
  rw [enterReset_eq, refreshLoads_lastTrip, ch_resetDev]
  rfl

theorem resetIfRunning_running {causes : List Nat} {d : Dev} (steps : 0 < d.supply.step) (mode : d.supply.mode = 0) :
    d.resetIfRunning causes = d.enterReset causes := if_pos ⟨steps, mode⟩

/-- A clock fault while the device runs is a class A fault once Binnacle runs, and then a reset. -/
theorem clockFails_running (cause : Nat) {d : Dev} (steps : 2 ≤ d.supply.step) (mode : d.supply.mode = 0) :
    d.clockFails cause = (if 9 ≤ d.supply.step then d.classAFault 3 else d).resetIfRunning [cause] := by
  unfold Dev.clockFails Dev.binRuns
  rw [if_pos steps]
  simp [mode]

theorem clockFails_stopped (cause : Nat) {d : Dev} (idle : ¬ (2 ≤ d.supply.step ∧ d.supply.mode = 0)) : d.clockFails cause = d := by
  unfold Dev.clockFails Dev.binRuns
  split
  case isTrue steps =>
    have mode : ¬ d.supply.mode = 0 := fun mode => idle ⟨steps, mode⟩
    simp [mode, Dev.resetIfRunning]
  case isFalse => rfl

/-- Settles O24: the reset's state before the demands are evaluated, and the evaluation is silent; each cause then acts on its condition. -/
theorem resets : Obligations.Resets := by
  unfold Obligations.Resets
  refine ⟨fun causes d => ?_, fun dt s => ⟨?_, fun width long => ?_, fun width short => ?_, fun width least most => ?_, ?_, ?_, ?_, ?_, ?_, ?_, ?_,
    fun vhv => ⟨?_, ?_, ?_⟩⟩⟩
  · intro t
    have beside : besideLoads t = besideLoads (resetDev causes d) := enterReset_beside causes d
    have stays (n : Nat) : lasting (t.ch n) = lasting (d.ch n).throughReset := enterReset_lasting causes d n
    have trips (n : Nat) : (t.ch n).lastTrip = (d.ch n).lastTrip := enterReset_lastTrip causes d n
    clear_value t
    have same {α : Type} (g : Dev → α) : g (besideLoads t) = g (besideLoads (resetDev causes d)) := congrArg g beside
    refine ⟨same (·.supply.step), same (·.supply.reef), same Dev.now, same Dev.prm, same Dev.fw, same Dev.door, same Dev.leaf, same Dev.step,
      same Dev.pilot, same Dev.sext, same Dev.drive, same Dev.skin, same Dev.obst, same Dev.bin, same Dev.bus, same Dev.chron, same Dev.log,
      same (·.host.isOpen), same (·.host.flights), same (·.host.jobs), same Dev.nv, fun n => ?_, fun n _ => ?_⟩
    · exact (same (·.nv.keep.cause.testBit n)).trans (testBit_setBits ..)
    · exact ⟨(congrArg Channel.order (stays n) :), (congrArg Channel.latched (stays n) :), (congrArg Channel.tries (stays n) :),
        (congrArg Channel.pauseEnd (stays n) :), trips n⟩
  · exact leaves_intro (f := Dev.powerLost) rfl rfl
  · refine leaves_intro (f := Dev.rstPulse width) rfl ?_
    unfold Dev.rstPulse
    simp [Nat.not_lt.2 long, long]
  · refine leaves_intro (f := Dev.rstPulse width) rfl ?_
    unfold Dev.rstPulse
    have : ¬ us 10 ≤ width := fun k => absurd (lt_of_lt_of_le short (by decide : us 1 ≤ us 10)) (by omega)
    simp [Nat.not_le.2 short, this]
  · refine leaves_intro (f := Dev.rstPulse width) rfl ?_
    unfold Dev.rstPulse
    simp only [least, most]
    cases taken : (s.later dt).drawBit.1 <;> simp [taken]
  · exact leaves_intro (f := Dev.vkeepLost) rfl rfl
  · refine acts_intro (f := Dev.watchdog) rfl (fun d due => ?_) (fun d idle => ?_)
    · exact (if_pos due.1).trans (resetIfRunning_running (by omega) due.2)
    · unfold Dev.watchdog
      split
      · exact if_neg fun k => idle ⟨‹_›, k.2⟩
      · rfl
  · refine acts_intro (f := Dev.marginReset) rfl (fun d due => ?_) (fun d idle => ?_)
    · exact (if_pos due.1).trans (if_pos due.2)
    · unfold Dev.marginReset
      split
      · exact if_neg fun k => idle ⟨‹_›, k⟩
      · rfl
  · exact acts_intro (f := Dev.clockFails 4) rfl (fun d due => clockFails_running 4 due.1 due.2) (fun d idle => clockFails_stopped 4 idle)
  · exact acts_intro (f := Dev.clockFails 9) rfl (fun d due => clockFails_running 9 due.1 due.2) (fun d idle => clockFails_stopped 9 idle)
  · refine acts_intro (f := Dev.debugReset) rfl (fun d due => ?_) (fun d idle => ?_)
    · exact (if_pos due.1).trans (if_pos due.2)
    · unfold Dev.debugReset
      split
      · exact if_neg fun k => idle ⟨‹_›, k⟩
      · rfl
  · refine acts_intro (f := Dev.reef4Reset) rfl (fun d due => ?_) (fun d idle => ?_)
    · obtain ⟨t, ht, due⟩ := due
      unfold Dev.reef4Reset
      simp only [ht]
      exact if_pos due
    · unfold Dev.reef4Reset
      split
      · rfl
      · exact if_neg fun due => idle ⟨_, ‹_›, due⟩
  · exact fun free => leaves_intro (f := Dev.reef4Restart vhv) rfl (by simp [Dev.reef4Restart, free])
  · exact fun held lasts => leaves_intro (f := Dev.reef4Restart vhv) rfl (if_pos ⟨held, lasts⟩)
  · exact fun held brief => leaves_intro (f := Dev.reef4Restart vhv) rfl ((if_neg fun k => brief k.2).trans (if_pos held))

end Sys2Proof.Laws
end

section
/-! SUPPORT. Start-up, waking, the supplies, reefing, the core margin and the temperatures (R68 to R95, R581). -/

namespace Sys2Proof.Laws

open Sys2Proof Sys2Proof.Machine

/-! ### Rows that are one condition and its effect -/

/-- A row that acts under a condition acts where that condition is what its statement says. -/
theorem acts_when {i : Instr} {dt : Nat} {s : State} {due cond : Dev → Prop} {inst : DecidablePred cond} {effect f : Dev → Dev}
    (e : exec i s = onDev dt f s) (hf : ∀ d, f d = if cond d then effect d else d) (hc : ∀ d, cond d ↔ due d) : Acts i dt s due effect :=
  acts_intro e (fun d h => (hf d).trans (if_pos ((hc d).2 h))) (fun d h => (hf d).trans (if_neg (mt (hc d).1 h)))

/-- A row that is skipped under a condition acts where that condition is the contrary of what its statement says. -/
theorem acts_unless {i : Instr} {dt : Nat} {s : State} {due skip : Dev → Prop} {inst : DecidablePred skip} {effect f : Dev → Dev}
    (e : exec i s = onDev dt f s) (hf : ∀ d, f d = if skip d then d else effect d) (hc : ∀ d, ¬ skip d ↔ due d) : Acts i dt s due effect :=
  acts_intro e (fun d h => (hf d).trans (if_neg ((hc d).2 h))) (fun d h => (hf d).trans (if_pos (not_not.1 (mt (hc d).1 h))))

/-! ### Start-up and waking (R84 to R92) -/

theorem corePowered_iff (d : Dev) : d.supply.corePowered = true ↔ d.supply.vio = true ∧ d.supply.vcore = true := Bool.and_eq_true_iff

/-- Steps 2 to 10 from a clock that runs (R85). -/
theorem startFrom2_clockOk {found : StartUpIn} (d : Dev) (clock : found.clockOk = true) :
    d.startFrom2 found = (let (go, d) := ((d.modSupply fun s => { s with step := 2 }).startStep3 found).startStep4 found
      if go then d.startFrom5 found else d) := if_neg (not_not.2 clock)

/-- Settles O25: each row is its condition and its steps. -/
theorem startUpAndWake : Obligations.StartUpAndWake := by
  unfold Obligations.StartUpAndWake
  refine ⟨fun dt s => ⟨fun found => ?_, fun found => ?_, fun found => ?_, fun found d low => ?_, ?_⟩, fun dt s => ⟨?_, fun source other => ?_, ?_⟩⟩
  · refine acts_intro (f := Dev.startUp found) rfl (fun d due => ?_) (fun d idle => ?_)
    · obtain ⟨step, mode, hold, rom⟩ := due
      refine (if_neg (by simp [step, mode, hold, rom])).trans ?_
      by_cases clock : found.clockOk = true
      · rw [startFrom2_clockOk _ clock]
        exact (if_pos clock).symm
      · exact (if_pos clock).trans (if_neg clock).symm
    · refine if_pos ?_
      simpa only [not_and_or, Bool.not_eq_false] using idle
  · refine acts_intro (f := Dev.clockRetry found) rfl (fun d due => ?_) (fun d idle => ?_)
    · obtain ⟨step, mode, clock⟩ := due
      exact (if_pos ⟨step, mode⟩).trans (startFrom2_clockOk d clock)
    · unfold Dev.clockRetry
      split
      case isTrue due => exact if_pos fun clock => idle ⟨due.1, due.2, clock⟩
      case isFalse => rfl
  · exact acts_when (f := Dev.vhvWaitEnds found) rfl (fun d => rfl) (fun d => Iff.rfl)
  · exact if_pos low
  · refine acts_unless (f := Dev.becomeReady) rfl (fun d => rfl) (fun d => ?_)
    simp only [not_or, not_not, Dev.ready]
    simp
  · refine acts_intro (f := Dev.wake 0) rfl (fun d mode => ?_) (fun d parked => if_pos (not_not.1 parked))
    exact (if_neg mode).trans ((if_pos rfl).trans (if_congr (corePowered_iff d) rfl rfl))
  · refine acts_intro (f := Dev.wake source) rfl (fun d due => ?_) (fun d idle => ?_)
    · obtain ⟨mode, dark⟩ := due
      exact (if_neg mode).trans ((if_neg other).trans (if_neg (mt (corePowered_iff d).1 dark)))
    · by_cases mode : d.supply.mode = 0
      · exact if_pos mode
      · exact (if_neg mode).trans ((if_neg other).trans (if_pos ((corePowered_iff d).2 (not_not.1 fun dark => idle ⟨mode, dark⟩))))
  · refine acts_when (f := Dev.keepAlarm) rfl (fun d => rfl) (fun d => ?_)
    rw [corePowered_iff, and_assoc (a := _ = true)]

/-! ### Thresholds, clocks and reef stages (R68, R79, R90) -/

theorem controllerRuns_iff (d : Dev) : d.controllerRuns = true ↔ 0 < d.supply.step ∧ d.supply.mode = 0 := by simp [Dev.controllerRuns]

/-- VHV is present from 13.0 V, absent below 12.0 V, and in between as before; nothing but the view of VHV changes (R68). -/
theorem judgeVhv_thresholds (mv : Nat) (d : Dev) :
    (mv < 12000 → (d.judgeVhv mv).supply.vhv = false) ∧ (13000 ≤ mv → (d.judgeVhv mv).supply.vhv = true)
      ∧ (12000 ≤ mv → mv < 13000 → (d.judgeVhv mv).supply.vhv = d.supply.vhv) := by
  have vhv : (d.judgeVhv mv).supply.vhv = (decide (13000 ≤ mv) || (d.supply.vhv && decide (12000 ≤ mv))) := rfl
  rw [vhv]
  refine ⟨fun low => ?_, fun high => ?_, fun least most => ?_⟩
  · rw [decide_eq_false (by omega : ¬ 13000 ≤ mv), decide_eq_false (by omega : ¬ 12000 ≤ mv), Bool.and_false, Bool.or_false]
  · rw [decide_eq_true high, Bool.true_or]
  · rw [decide_eq_false (by omega : ¬ 13000 ≤ mv), decide_eq_true least, Bool.and_true, Bool.false_or]

theorem reefDue_iff (d : Dev) (stage vhv : Nat) : d.reefDue stage vhv = true ↔ vhv < reefThreshold d.nominalCode stage
    ∧ d.supply.notBelow.getD (stage - 1) 0 + (if stage ≤ 2 then ms 1 else if stage = 3 then us 500 else us 100) ≤ d.now :=
  Bool.and_eq_true_iff.trans (and_congr decide_eq_true_iff decide_eq_true_iff)

theorem recoverDue_iff (d : Dev) (stage vhv : Nat) : d.recoverDue stage vhv = true ↔ reefRecovery d.nominalCode stage ≤ vhv
    ∧ d.supply.notAbove.getD (stage - 1) 0 + ms (d.parN P.SYS_REEF_RECOVER_TIME) ≤ d.now
    ∧ d.supply.reefSince + ms (d.parN P.SYS_REEF_RECOVER_TIME) ≤ d.now := by
  simp only [Dev.recoverDue, Bool.and_eq_true, decide_eq_true_eq, and_assoc]

/-- Settles O26: each row is its threshold and its effect. -/
theorem suppliesAndReefing : Obligations.SuppliesAndReefing := by
  unfold Obligations.SuppliesAndReefing
  refine ⟨fun dt s => ⟨fun mv => ?_, fun mv => ?_, ?_, ?_, fun mv d => ?_, ?_, ?_, ?_, ?_⟩, fun dt s => ⟨fun stage vhv => ?_, fun vhv k ks d => rfl, fun vhv => ?_⟩⟩
  · exact acts_unless (f := Dev.vdrvLost mv) rfl (fun d => rfl) (fun d => not_le)
  · exact acts_unless (f := Dev.vdrvPresent mv) rfl (fun d => rfl) (fun d => not_lt)
  · exact leaves_intro (f := Dev.lockOut) rfl rfl
  · exact leaves_intro (f := Dev.lockOutEnds) rfl rfl
  · obtain ⟨low, high, between⟩ := judgeVhv_thresholds mv d
    exact ⟨low, high, between, rfl⟩
  · refine acts_unless (f := Dev.busClockLost) rfl (fun d => rfl) (fun d => ?_)
    rw [not_or, not_lt, Bool.not_eq_true]
  · exact acts_unless (f := Dev.busClockRestored) rfl (fun d => rfl) (fun d => not_not)
  · exact acts_unless (f := Dev.keepClockLost) rfl (fun d => rfl) (fun d => not_not.trans (controllerRuns_iff d))
  · exact acts_unless (f := Dev.keepClockRestored) rfl (fun d => rfl) (fun d => not_not.trans (controllerRuns_iff d))
  · refine acts_unless (f := Dev.reefEnter stage vhv) rfl (fun d => rfl) (fun d => ?_)
    simp only [not_or, not_not, not_le, not_lt, reefDue_iff]
  · refine acts_unless (f := Dev.reefLeave vhv) rfl (fun d => rfl) (fun d => ?_)
    simp only [not_or, not_not, not_le, recoverDue_iff, Nat.pos_iff_ne_zero]

/-! ### The core margin and the temperatures (R72 to R78, R581) -/

/-- A set request goes out where none is under way, the interface works, the value is a new one within 25 mV, and the last is 1 ms old (R77). -/
theorem avsRequest_eq (v : Nat) (d : Dev) :
    d.avsRequest v = if d.supply.request = none ∧ d.supply.avsFailed = false ∧ v ≠ d.supply.vcoreModel
        ∧ ((v : Int) - d.supply.vcoreMv).natAbs ≤ 25 ∧ (0 < d.supply.requested → d.supply.requested + ms 1 ≤ d.now)
      then d.modSupply fun s => { s with request := some v, requested := d.now, avsTries := 0, avsSent := avsFrame 0x01 v } else d := by
  refine (ite_not ..).symm.trans (if_congr ?_ rfl rfl)
  simp only [not_or, not_and, not_lt, Bool.not_eq_true, Option.isSome_eq_false_iff, Option.isNone_iff_eq_none, ne_eq]

theorem avsTick_eq (slack : Nat) (d : Dev) (live : d.live = true) :
    d.avsTick slack =
      (let margin := d.parN P.SYS_AVS_MARGIN
      let adaptive := d.par P.SYS_AVS_MODE = 1
      let change : Int := if slack < 2 then 25 else if slack < margin then 10 else if margin + 4 < slack then -5 else 0
      let wish := if adaptive then (clampI (d.par P.SYS_AVS_MIN) (d.par P.SYS_AVS_MAX) (d.supply.vcoreModel + change)).toNat else d.supply.vcoreModel
      let atLimit := ¬ adaptive ∨ d.par P.SYS_AVS_MAX ≤ d.supply.vcoreModel
      let t := (if adaptive ∧ change ≠ 0 then d.avsRequest wish else d).modSupply fun s => { s with
        halved := decide (slack < 2) || (s.halved && decide (slack < margin))
        lowTicks := if slack < 2 ∧ atLimit then s.lowTicks + 1 else 0 }
      (if slack < 2 then t.onset 11 1 0xFF (u8 slack ++ u16 wish) else t).judgeClock) := by
  unfold Dev.avsTick
  rw [if_neg (not_not.2 live)]
  simp only [decide_eq_true_eq, Bool.and_eq_true, Bool.or_eq_true, Bool.not_eq_true', decide_eq_false_iff_not]
  rfl

theorem putTrace_supply (slot : Nat) (t : TraceHdr) (d : Dev) : (d.putTrace slot t).supply = d.supply := by
  unfold Dev.putTrace
  rfl

theorem endCapture_supply (state : Nat) (d : Dev) : (d.endCapture state).supply = d.supply := by
  unfold Dev.endCapture
  split
  · rfl
  · simp only [Dev.putHeader_supply, putTrace_supply]

theorem stopCapture_supply (d : Dev) : d.stopCapture.supply = d.supply := by
  unfold Dev.stopCapture
  split
  · rfl
  · exact (Dev.replyTo_supply ..).trans (endCapture_supply ..)

theorem follow_supply (src sev subject : Nat) (holds : Bool) (fields : List Byte) (d : Dev) :
    (d.follow src sev subject holds fields).supply = d.supply := by
  unfold Dev.follow
  split <;> simp

/-- The states of a die after a reading: warm and hot follow their limits with their hysteresis, the other dies stay (R581). -/
theorem dieTemp_states (die : Nat) (t : Int) (d : Dev) :
    (d.dieTemp die t).supply.dieWarm = setAt die (decide ((dieLimits die).1 ≤ t) || (d.supply.dieWarm.getD die false && decide ((dieLimits die).2.2 < t)))
      d.supply.dieWarm
    ∧ (d.dieTemp die t).supply.dieHot = setAt die (decide ((dieLimits die).2.1 ≤ t) || (d.supply.dieHot.getD die false && decide ((dieLimits die).1 < t)))
      d.supply.dieHot := by
  unfold Dev.dieTemp
  dsimp only
  split
  · simp only [follow_supply]
    exact ⟨rfl, rfl⟩
  · split
    · simp only [refreshLoads_supply, follow_supply]
      exact ⟨rfl, rfl⟩
    · split
      · split
        · simp only [Dev.stopLearning, stopCapture_supply, follow_supply]
          exact ⟨rfl, rfl⟩
        · simp only [stopCapture_supply, follow_supply]
          exact ⟨rfl, rfl⟩
      · simp only [follow_supply]
        exact ⟨rfl, rfl⟩

theorem getD_setAt {α : Type} (v x : α) (l : List α) {n : Nat} (m : Nat) (h : n < l.length) :
    (setAt n v l).getD m x = if m = n then v else l.getD m x := getD_modAt (fun _ => v) x l n m h

/-- A state with hysteresis: on from its limit, off down to its end, and in between as before. -/
theorem hysteresis {limit low : Int} (order : low < limit) (t : Int) (was : Bool) :
    (limit ≤ t → (decide (limit ≤ t) || (was && decide (low < t))) = true) ∧ (t ≤ low → (decide (limit ≤ t) || (was && decide (low < t))) = false)
      ∧ (low < t → t < limit → (decide (limit ≤ t) || (was && decide (low < t))) = was) := by
  refine ⟨fun on => ?_, fun off => ?_, fun least most => ?_⟩
  · rw [decide_eq_true on, Bool.true_or]
  · rw [decide_eq_false (by omega), decide_eq_false (by omega), Bool.and_false, Bool.or_false]
  · rw [decide_eq_false (by omega), decide_eq_true least, Bool.and_true, Bool.false_or]

theorem dieLimits_order (die : Nat) : (dieLimits die).2.2 < (dieLimits die).1 ∧ (dieLimits die).1 < (dieLimits die).2.1 := by
  unfold dieLimits
  split <;> decide

/-- Settles O27: each row is its condition and its effect; a die's states are those of two hystereses. -/
theorem marginAndTemperatures : Obligations.MarginAndTemperatures := by
  unfold Obligations.MarginAndTemperatures
  refine ⟨fun dt s => ⟨fun slack => ?_, fun reply => ?_, ?_, fun _ _ => rfl, fun c p m => ?_⟩, fun die t d inside warms hots => ?_⟩
  · refine acts_intro (f := Dev.avsTick slack) rfl (fun d live => ?_) (fun d idle => if_pos idle)
    rw [avsTick_eq slack d live]
    simp only [avsRequest_eq, ← ite_and, and_assoc]
  · refine acts_intro (f := Dev.avsEnd reply) rfl (fun d due => ?_) (fun d idle => ?_)
    · obtain ⟨v, hv⟩ := Option.isSome_iff_exists.1 due
      unfold Dev.avsEnd
      simp only [hv]
      rfl
    · unfold Dev.avsEnd
      rw [Option.not_isSome_iff_eq_none.1 idle]
  · refine acts_when (f := Dev.avsRetry) rfl (fun d => rfl) (fun d => ?_)
    simp only [Option.isNone_iff_eq_none]
  · exact acts_when (f := Dev.dieTemps c p m) rfl (fun d => rfl) (fun d => Iff.rfl)
  · obtain ⟨warm, hot⟩ := dieTemp_states die t d
    obtain ⟨warmOrder, hotOrder⟩ := dieLimits_order die
    have warmth := hysteresis warmOrder t (d.supply.dieWarm.getD die false)
    have heat := hysteresis hotOrder t (d.supply.dieHot.getD die false)
    have warmOf (n : Nat) := congrArg (fun l => l.getD n false) warm
    have hotOf (n : Nat) := congrArg (fun l => l.getD n false) hot
    simp only [getD_setAt _ _ _ _ (warms.symm ▸ inside)] at warmOf
    simp only [getD_setAt _ _ _ _ (hots.symm ▸ inside)] at hotOf
    intro after
    have warmDie := (warmOf die).trans (if_pos rfl)
    have hotDie := (hotOf die).trans (if_pos rfl)
    have others (n : Nat) (ne : n ≠ die) := And.intro ((warmOf n).trans (if_neg ne)) ((hotOf n).trans (if_neg ne))
    rw [← warmDie] at warmth
    rw [← hotDie] at heat
    exact ⟨warmth.1, warmth.2.1, warmth.2.2, heat.1, heat.2.1, heat.2.2, others⟩

end Sys2Proof.Laws
end

section
/-! SUPPORT. The orders and queries of the axes and the loops (chapters 06 to 08): what lets each through, and that it waits for its boundary. -/

namespace Sys2Proof.Laws

open Sys2Proof Sys2Proof.Machine

/-! ### Axis orders (R178, R211, R226) -/

theorem maintOnly_pass {d : Dev} (next : Refused) (h : d.door.state = 12) : d.maintOnly next = next := refuseIf_pass _ _ (by simp [h])

/-- An axis that rests without an order of its own may start, with VDRV and outside its reef stages. -/
theorem guardStart_pass {axis : Nat} {d : Dev} (next : Refused) (rests : d.axisMoving axis = false)
    (free : ∀ o ∈ d.leaf.orders, o.2.2 = axis → o.1 ≠ 0x30 ∧ o.1 ≠ 0x31) (vdrv : d.supply.vdrv = true)
    (reef : d.supply.reef < (if axis = 0 then 3 else 2)) : d.guardStart axis next = next := by
  have none : (d.leaf.orders.any fun o => (decide (o.1 = 0x30) || decide (o.1 = 0x31)) && decide (o.2.2 = axis)) = false := by
    rw [List.any_eq_false]
    intro o ho
    by_cases named : o.2.2 = axis
    · simp [free o ho named]
    · simp [named]
  unfold Dev.guardStart
  rw [refuseIf_pass _ _ (by rw [rests, none]; rfl), refuseIf_pass _ _ (by rw [vdrv]; rfl), refuseIf_pass _ _ (decide_eq_false (Nat.not_le.2 reef))]

theorem inbox_any_slot (orders : List (Nat × Nat × Nat)) (slot : Nat) :
    (orders.any fun e => decide (e.2.1 = slot)) = true ↔ ∃ e ∈ orders, e.2.1 = slot := by simp

/-- Settles O28: each order's checks let it through, and it waits; at the update a stop ends and stops, an order still in flight starts. -/
theorem axisOrders : Obligations.AxisOrders := by
  unfold Obligations.AxisOrders
  intro h dt s may waits
  refine ⟨fun axis => ?_, fun axis target => ?_, fun axis => ?_, fun link => ?_, fun axis d => rfl, fun op slot axis um d => ⟨fun gone => ?_, fun held => ?_⟩⟩
  · refine runs_row rfl (fun d hd => ?_) (fun _ _ _ => rfl)
    obtain ⟨⟨maint, rests, free, vdrv, reef⟩, fitted⟩ := hd
    refine (maintOnly_pass _ maint).trans ((refuseIf_pass _ _ ?_).trans (guardStart_pass _ rests free vdrv reef))
    by_cases step : axis = 1
    · simp [fitted step]
    · simp [step]
  · refine runs_row rfl (fun d hd => ?_) (fun _ _ _ => rfl)
    obtain ⟨⟨maint, rests, free, vdrv, reef⟩, fitted, inside⟩ := hd
    refine (maintOnly_pass _ maint).trans ((refuseIf_pass _ _ ?_).trans ((refuseIf_pass _ _ ?_).trans (guardStart_pass _ rests free vdrv reef)))
    · split at inside <;> simp [*]
    · by_cases step : axis = 1
      · simp [fitted step]
      · simp [step]
  · exact runs_row rfl (fun d hd => maintOnly_pass _ hd) (fun _ _ _ => rfl)
  · exact runs_row rfl (fun d hd => refuseIf_pass _ _ hd) (fun _ _ _ => rfl)
  · exact if_pos (mt (inbox_any_slot _ _).1 gone)
  · have here : ¬ ¬ (d.leaf.orders.any fun e => decide (e.2.1 = slot)) = true := not_not.2 ((inbox_any_slot _ _).2 held)
    exact ⟨if_neg here, if_neg here, if_neg here, if_neg here⟩

/-! ### Loops, tables and compare units (R254 to R267, R302) -/

theorem guardLoopMode_pass {axis mode : Nat} {d : Dev} (maint : d.door.state = 12) (rests : mode = 2 → d.axisMoving axis = false) (dr : d.pilot.dr ≠ 1) :
    d.guardLoopMode axis mode = none := by
  refine (maintOnly_pass _ maint).trans ((refuseIf_pass _ _ ?_).trans (refuseIf_pass _ _ (decide_eq_false dr)))
  by_cases two : mode = 2
  · simp [rests two]
  · simp [two]

theorem entryFails_none {bound : Int} {vs : List Int} (i : Nat) (h : ∀ v ∈ vs, (v.natAbs : Int) ≤ bound) : entryFails bound i vs = none := by
  induction vs generalizing i with
  | nil => rfl
  | cons v vs ih =>
    unfold entryFails
    rw [if_neg (not_lt.2 (h v List.mem_cons_self))]
    exact ih (i + 1) fun w hw => h w (List.mem_cons_of_mem v hw)

theorem tableWindow_pass {table dir off count entries : Nat} (one : table = 8 → dir = 0) (some : 1 ≤ count) (most : count ≤ 500)
    (fits : off + count ≤ entries) : tableWindow table dir off count entries = none := by
  refine (refuseIf_pass _ _ ?_).trans ((refuseIf_pass _ _ (decide_eq_false (by omega))).trans (refuseIf_pass _ _ ?_))
  · by_cases step : table = 8
    · simp [one step]
    · simp [step]
  · simp [Nat.not_lt.2 some, Nat.not_lt.2 most, Nat.not_lt.2 fits]

/-- Settles O29: each order's checks let it through, and each query answers. -/
theorem loopCommands : Obligations.LoopCommands := by
  unfold Obligations.LoopCommands
  refine ⟨fun h dt s => ⟨fun axis => ?_, fun axis mode manual => ?_, fun axis point => ?_, fun axis loop point signal amplitude p1 p2 p3 respLoop respPoint decimation => ?_,
    fun axis mask => ?_, fun table dir off entries => ?_, fun unit action filter position => ?_⟩,
    fun h dt s => ⟨fun off count => ?_, fun axis => ?_, fun axis => ?_, fun table dir off count => ?_, ?_, ?_⟩⟩
  · refine runs_row rfl (fun d hd => guardLoopMode_pass hd.1 (fun two => absurd two (by decide)) hd.2) (fun slot d _ => ?_)
    exact if_congr (and_congr_right fun _ => List.isEmpty_iff) rfl rfl
  · exact runs_row rfl (fun d hd => guardLoopMode_pass hd.1 hd.2.1 hd.2.2) (fun slot d _ => if_neg manual)
  · refine runs_row rfl (fun d hd => ?_) (fun _ _ _ => rfl)
    obtain ⟨maint, mode, bound⟩ := hd
    exact (maintOnly_pass _ maint).trans ((refuseIf_pass _ _ (decide_eq_false mode)).trans (refuseIf_pass _ _ (decide_eq_false (not_lt.2 bound))))
  · refine runs_row rfl (fun d hd => ?_) (fun _ _ _ => rfl)
    obtain ⟨own, respOwn, there, respThere, fits, least, most, maint, free, mode⟩ := hd
    refine (refuseIf_pass _ _ (by simp [own, respOwn, there, respThere])).trans ?_
    rw [fits]
    refine (refuseIf_pass _ _ (by simp [Nat.not_lt.2 least, Nat.not_lt.2 most])).trans ((maintOnly_pass _ maint).trans (refuseIf_pass _ _ ?_))
    rcases mode with auto | ⟨current, inner⟩
    · simp [auto, free]
    · simp [current, inner, free]
  · exact runs_unchecked rfl (fun _ => rfl) (fun _ _ => rfl)
  · refine runs_row rfl (fun d hd => ?_) (fun _ _ _ => rfl)
    obtain ⟨one, least, most, fits, bound, rests, free⟩ := hd
    have window := tableWindow_pass one (by simpa using least) (by simpa using most) (by simpa using fits) (count := (entries.map (toSigned 16)).length)
    have entry := entryFails_none 4 (vs := entries.map (toSigned 16)) (by simpa using bound)
    show Dev.guardTableWrite table dir off (entries.map (toSigned 16)) d = none
    unfold Dev.guardTableWrite
    dsimp only
    rw [window, entry]
    exact refuseIf_pass _ _ (by rw [rests, free]; rfl)
  · refine runs_row rfl (fun d hd => ?_) (fun _ _ _ => rfl)
    obtain ⟨hu, ha, hf, low, high, ref⟩ := hd
    refine (refuseIf_pass _ _ (decide_eq_false (Nat.not_lt.2 hu))).trans ((refuseIf_pass _ _ (decide_eq_false (Nat.not_lt.2 ha))).trans
      ((refuseIf_pass _ _ (decide_eq_false (Nat.not_lt.2 hf))).trans ((refuseIf_pass _ _ ?_).trans (refuseIf_pass _ _ (decide_eq_false ref)))))
    simp [not_lt.2 low, not_lt.2 high]
  · refine runs_row rfl (fun d hd => ?_) (fun _ _ _ => rfl)
    obtain ⟨inside, least, most⟩ := hd
    exact (refuseIf_pass _ _ (decide_eq_false (Nat.not_le.2 inside))).trans (refuseIf_pass _ _ (by simp [Nat.not_lt.2 least, Nat.not_lt.2 most]))
  · exact runs_unchecked rfl (fun _ => rfl) (fun _ _ => rfl)
  · exact runs_unchecked rfl (fun _ => rfl) (fun _ _ => rfl)
  · exact runs_row rfl (fun d hd => tableWindow_pass hd.1 hd.2.1 hd.2.2.1 hd.2.2.2) (fun _ _ _ => rfl)
  · exact runs_unchecked rfl (fun _ => rfl) (fun _ _ => rfl)
  · exact runs_unchecked rfl (fun _ => rfl) (fun _ _ => rfl)

end Sys2Proof.Laws
end

section
/-! SUPPORT. The planner's events (chapter 06) and the samples and events of the loops (chapter 07). -/

namespace Sys2Proof.Laws

open Sys2Proof Sys2Proof.Machine

/-- A row of the running device acts where its own condition holds. -/
theorem liveRow {i : Instr} {dt : Nat} {s : State} {due : Dev → Prop} {effect f : Dev → Dev} (e : exec i s = onDev dt (Dev.whenLive f) s)
    (acts : ∀ d, due d → f d = effect d) (idles : ∀ d, ¬ due d → f d = d) : Acts i dt s (fun d => d.live = true ∧ due d) effect :=
  acts_intro e (fun d hd => (whenLive_due f d hd.1).trans (acts d hd.2)) (fun d hd => whenLive_not f d fun up => idles d fun k => hd ⟨up, k⟩)

/-- A row of the running device without a condition of its own. -/
theorem liveAlways {i : Instr} {dt : Nat} {s : State} {f : Dev → Dev} (e : exec i s = onDev dt (Dev.whenLive f) s) :
    Acts i dt s (fun d => d.live = true) f :=
  acts_intro e (fun d hd => whenLive_due f d hd) (fun d hd => whenLive_not f d fun up => absurd up hd)

/-- A row of the ready device without a condition of its own. -/
theorem readyAlways {i : Instr} {dt : Nat} {s : State} {effect f : Dev → Dev} (e : exec i s = onDev dt (Dev.whenReady f) s) (acts : ∀ d, f d = effect d) :
    Acts i dt s (fun d => d.ready = true ∧ d.live = true) effect :=
  acts_intro e (fun d hd => (whenReady_due f d hd).trans (acts d)) (fun d hd => whenReady_not f d fun up => absurd up hd)

/-! ### The planner's events -/

/-- The 10 ms of a target held have passed where they run. -/
theorem heldTarget {since : Option Nat} {at' : Bool} {now : Nat} (h : at' = false ∧ ∃ t, since = some t ∧ ms 10 ≤ now - t) :
    ∃ t, since = some t ∧ ¬ (now - t < ms 10 ∨ at' = true) := by
  obtain ⟨not, t, ht, due⟩ := h
  exact ⟨t, ht, by rw [not_or, Bool.not_eq_true]; exact ⟨Nat.not_lt.2 due, not⟩⟩

theorem heldTarget_not {at' : Bool} {t now : Nat} (h : ¬ (at' = false ∧ ∃ u, some t = some u ∧ ms 10 ≤ now - u)) : now - t < ms 10 ∨ at' = true := by
  by_contra k
  rw [not_or, Nat.not_lt, Bool.not_eq_true] at k
  exact h ⟨k.2, t, rfl, k.1⟩

theorem leaderWaitOver_due {d : Dev} {t : Nat} {mv : Move} (ht : d.leaf.leaderWait = some t) (hm : d.leaf.next = some mv) (due : t ≤ d.now) :
    d.leaderWaitOver =
      (let t := (d.onset 43 2 0xFF (u8 3)).modLeaf fun l => { l with leaderWait := none, next := none, leaderLost := true }
      if t.leaf.sp.p ≤ mv.target then t.abortDoor 2
      else if t.leaf.rests then t.startMove { mv with cap := t.creep } else t.modLeaf fun l => { l with next := some { mv with cap := t.creep } }) := by
  unfold Dev.leaderWaitOver
  simp only [ht, hm]
  exact if_neg (Nat.not_lt.2 due)

theorem leaderWaitOver_idle {d : Dev} (idle : ¬ ∃ t mv, d.leaf.leaderWait = some t ∧ d.leaf.next = some mv ∧ t ≤ d.now) : d.leaderWaitOver = d := by
  unfold Dev.leaderWaitOver
  split
  case h_1 t mv ht hm => exact if_pos (Nat.not_le.1 fun due => idle ⟨t, mv, ht, hm, due⟩)
  case h_2 => rfl

theorem mayReduce_iff (d : Dev) : d.mayReduce = true ↔
    d.leaf.reduced = false ∧ d.door.state ≠ 2 ∧ d.door.state ≠ 9 ∧ d.pilot.leafMode.mode = 0 ∧ d.pilot.short = false
      ∧ d.door.landfall.busy = false ∧ d.modulating = true ∧ ∃ t, d.leaf.stillSince = some t ∧ ms (d.parN P.PLAN_HOLD_DELAY) ≤ d.now - t := by
  unfold Dev.mayReduce Dev.reducible
  cases d.leaf.stillSince
  case none => simp
  case some => simp; tauto

/-- A filtered transition of a switch that the step has: it is noted, and homing or the trip follows (R213, R223). -/
theorem stepSwitch_noted {sw : Nat} {level : Bool} {d : Dev}
    (change : (if sw = 0 then d.step.shome.level else if sw = 1 then d.step.slimRet.level else d.step.slimExt.level) ≠ level) (real : sw ≤ 2)
    (fitted : d.par P.SYS_STEP_FITTED ≠ 0) :
    ¬ (2 < sw ∨ (if sw = 0 then d.step.shome.level else if sw = 1 then d.step.slimRet.level else d.step.slimExt.level) = level
      ∨ d.par P.SYS_STEP_FITTED = 0) := by
  rw [not_or, not_or]
  exact ⟨Nat.not_lt.2 real, change, fitted⟩

/-- A trip of the step's limit switches at an update without axis orders (R215). -/
theorem axisStops_tripped {d : Dev} (none : d.leaf.inbox = []) (tripped : d.step.tripped = true) :
    d.axisStops =
      (let t := ((d.modStep fun s => { s with tripped := false }).stopAxis 1).stepFault 2
      if d.leaf.linked = true then t.endAxisOrders (fun o => o.1 = 0x30 || o.1 = 0x31) fun slot t => t.abort (some slot) 2 else t) := by
  have same : (d.modLeaf fun l => { l with inbox := l.inbox.filter fun o => o.1 ≠ 0x32 }) = d := by
    unfold Dev.modLeaf
    dsimp only
    rw [none, List.filter_nil, ← none]
  unfold Dev.axisStops
  rw [none, same]
  exact if_pos tripped

/-- Settles O30: each event is its condition and its effect; a switch of the step is homing's, the other limit's of a homing, or a trip. -/
theorem plannerEvents : Obligations.PlannerEvents := by
  unfold Obligations.PlannerEvents
  refine ⟨fun dt s => ?_, fun d sw level change real fitted => ?_⟩
  · intro up
    refine ⟨?_, ?_, ?_, ?_, ?_, ?_, fun angle => ?_, fun sw level => ?_, fun sw => ?_, ?_, ?_, ?_⟩
    · refine readyRow (f := Dev.atTargetNow 0) rfl (fun d due => ?_) (fun d idle => ?_)
      · obtain ⟨t, ht, held⟩ := heldTarget due
        unfold Dev.atTargetNow
        simp only [ht, if_true]
        exact if_neg held
      · show (match d.leaf.inPosSince with | none => d | some t => _) = d
        split
        · rfl
        case h_2 t ht => exact if_pos (heldTarget_not (ht ▸ idle))
    · refine readyRow (f := Dev.atTargetNow 1) rfl (fun d due => ?_) (fun d idle => ?_)
      · obtain ⟨t, ht, held⟩ := heldTarget due
        show (match d.step.inPosSince with | none => d | some t => _) = _
        simp only [ht]
        exact if_neg held
      · show (match d.step.inPosSince with | none => d | some t => _) = d
        split
        · rfl
        case h_2 t ht => exact if_pos (heldTarget_not (ht ▸ idle))
    · exact readyRow (f := Dev.leaderLostRow 1) rfl (fun d due => if_pos due) (fun d idle => if_neg idle)
    · exact readyRow (f := Dev.leaderLostRow 2) rfl (fun d due => if_pos (Option.isNone_iff_eq_none.2 due))
        (fun d idle => if_neg (mt Option.isNone_iff_eq_none.1 idle))
    · exact readyAlways (f := Dev.leaderLostRow 3) rfl (fun d => rfl)
    · refine readyRow (f := Dev.leaderWaitOver) rfl (fun d due => ?_) (fun d => leaderWaitOver_idle)
      obtain ⟨t, mv, ht, hm, due⟩ := due
      simpa only [hm, Option.getD_some] using leaderWaitOver_due ht hm due
    · exact readyAlways (f := Dev.stepTick angle) rfl (fun d => if_congr (or_congr_right (by rw [Bool.not_eq_true])) rfl rfl)
    · refine liveRow (f := Dev.stepSwitch sw level) rfl (fun d _ => rfl) (fun d idle => ?_)
      refine if_pos ?_
      by_contra k
      rw [not_or, not_or, Nat.not_lt] at k
      exact idle ⟨k.1, k.2.2, k.2.1⟩
    · refine liveRow (f := Dev.stableNow sw) rfl (fun d _ => rfl) (fun d idle => ?_)
      refine if_pos ?_
      by_contra k
      rw [not_or, not_or, not_or, not_not, Nat.not_lt, Nat.not_lt, Bool.not_eq_true] at k
      exact idle k
    · refine readyRow (f := Dev.homingStep) rfl (fun d _ => rfl) (fun d idle => ?_)
      unfold Dev.homingStep
      simp [not_not.1 idle]
    · refine liveRow (f := Dev.stepReduces) rfl (fun d due => ?_) (fun d idle => ?_)
      · obtain ⟨fitted, free, still, stands, due⟩ := due
        exact (if_pos fitted).trans (if_neg (by simp [free, still, stands, due]))
      · unfold Dev.stepReduces
        split
        · refine if_pos ?_
          by_contra k
          rw [not_or, not_or, not_or, not_not, Nat.not_lt, Bool.not_eq_true, Bool.not_eq_true, List.isEmpty_iff] at k
          exact idle ⟨‹_›, k⟩
        · rfl
    · exact liveRow (f := Dev.leafReduces) rfl (fun d due => if_pos ((mayReduce_iff d).2 due)) (fun d idle => if_neg (mt (mayReduce_iff d).1 idle))
  · intro f t
    have noted := stepSwitch_noted change real fitted
    obtain ⟨home, edges, accepted, place⟩ : t.step.home = d.step.home ∧ t.step.homeEdges = d.step.homeEdges ∧ t.step.accepted = d.step.accepted
        ∧ t.step.sp = d.step.sp := by
      show (ite _ _ _ : StepPlan).home = _ ∧ (ite _ _ _ : StepPlan).homeEdges = _ ∧ (ite _ _ _ : StepPlan).accepted = _ ∧ (ite _ _ _ : StepPlan).sp = _
      split_ifs <;> exact ⟨rfl, rfl, rfl, rfl⟩
    refine ⟨fun rest => ?_, fun homing own => ?_, fun homing other => ?_, fun none tripped => axisStops_tripped none tripped⟩
    · refine (if_neg noted).trans ((if_neg (not_not.2 (home.trans rest))).trans (if_congr (and_congr_right fun _ => or_congr_right (and_congr_right fun _ => ?_)) rfl rfl))
      rw [decide_eq_true_iff, place]
      rfl
    · refine (if_neg noted).trans ((if_pos (home ▸ homing)).trans ((if_pos own).trans ?_))
      rw [edges]
      rfl
    · refine (if_neg noted).trans ((if_pos (home ▸ homing)).trans ((if_neg other).trans (if_congr ?_ rfl rfl)))
      show (level && (decide (sw = 2) || (decide (sw = 1) && decide (t.step.home ≤ 2) && !t.step.accepted))) = true ↔ _
      simp only [home, accepted, Bool.and_eq_true, Bool.or_eq_true, Bool.not_eq_true', decide_eq_true_eq, and_assoc]

/-! ### Samples and the events of the loops (R231 to R265) -/

theorem onGrid_iff (n : Nat) (d : Dev) : d.onGrid n = true ↔ d.pilot.samples % n = 0 := decide_eq_true_iff

/-- A row of a sample acts where the sample is due. -/
theorem gridRow {i : Instr} {dt : Nat} {s : State} {n : Nat} {effect f : Dev → Dev} (e : exec i s = onDev dt (Dev.whenLive fun d => if d.onGrid n then f d else d) s)
    (acts : ∀ d, f d = effect d) : Acts i dt s (fun d => d.live = true ∧ d.pilot.samples % n = 0) effect :=
  liveRow e (fun d due => (if_pos ((onGrid_iff n d).2 due)).trans (acts d)) (fun d idle => if_neg (mt (onGrid_iff n d).1 idle))

/-- A correction that waits is applied, after the learning samples have moved with it (R293). -/
theorem applyCorrection_eq (d : Dev) :
    d.applyCorrection = (match d.sext.correction with
      | some c => Dev.correctBy c (match d.sext.shift with
          | some n => (d.shiftSamples n c).modSext fun s => { s with shift := none }
          | none => d)
      | none => d) := by
  unfold Dev.applyCorrection
  cases d.sext.correction <;> cases d.sext.shift <;> rfl

/-- The cause by which dead reckoning ends now, by the order of R250; 0 while it goes on. -/
def drCause (d : Dev) : Nat :=
  if d.pilot.endStop = true then 1 else if d.umOfSub (d.pilot.pObs / 16777216) ≤ -20000 then 2
  else if sec (d.parN P.PILOT_DR_MAX_TIME) ≤ d.now - d.pilot.drStart then 3 else if d.leaf.stopping = true ∨ d.pilot.short = true then 4 else 0

theorem drEnd_eq (d : Dev) :
    d.drEnd = if d.pilot.dr ≠ 1 ∨ d.pilot.drEnding = true then d else if drCause d = 0 then d else
      let t := (d.raise 66 2 0xFF (u8 (drCause d) ++ i32 (satI 32 (d.umOfSub (d.pilot.pObs / 16777216))))).doorFault 4
      let halted : Dev := (t.modPilot fun p => { p with dr := 2, short := decide (drCause d ≠ 1), shortAfterStop := false }).modLeaf fun l =>
        { l with phases := [], move := none, next := none, mode := 0, stopping := false, sp := { l.sp with v := 0, a := 0 } }
      if drCause d = 4 then t.modPilot fun p => if t.leaf.rests then { p with dr := 2, short := true } else { p with drEnding := true }
      else if drCause d = 1 then halted.manualCurrent (-(halted.par P.PLAN_LEAF_HOLD_CURRENT)) else halted := by
  have cause : (if d.pilot.endStop = true then 1 else if decide (d.umOfSub (d.pilot.pObs / 16777216) ≤ -20000) = true then 2
      else if decide (sec (d.parN P.PILOT_DR_MAX_TIME) ≤ d.now - d.pilot.drStart) = true then 3
      else if d.leaf.stopping = true ∨ d.pilot.short = true then 4 else 0) = drCause d := by
    unfold drCause
    simp only [decide_eq_true_eq]
  unfold Dev.drEnd
  simp only [cause]

/-- A cause is there exactly where one of R250's conditions holds. -/
theorem drCause_ne_zero (d : Dev) : drCause d ≠ 0 ↔ d.pilot.endStop = true ∨ d.umOfSub (d.pilot.pObs / 16777216) ≤ -20000
    ∨ sec (d.parN P.PILOT_DR_MAX_TIME) ≤ d.now - d.pilot.drStart ∨ d.leaf.stopping = true ∨ d.pilot.short = true := by
  unfold drCause
  split_ifs with stop past late asked <;> simp [*]

/-- The cause of an end that is due needs no more tests than the first three. -/
theorem drCause_due {d : Dev} (due : drCause d ≠ 0) : drCause d = if d.pilot.endStop = true then 1
    else if d.umOfSub (d.pilot.pObs / 16777216) ≤ -20000 then 2 else if sec (d.parN P.PILOT_DR_MAX_TIME) ≤ d.now - d.pilot.drStart then 3 else 4 := by
  unfold drCause at *
  split_ifs at * <;> simp_all

/-- An injection in progress ends early by the first of R265's causes. -/
theorem injectionAbort_eq {d : Dev} (runs : d.pilot.inject.isSome = true) :
    d.injectionAbort = if d.pilot.feedbackLost = true then d.endInjection 0x14 5 else if d.door.state ≠ 12 then d.endInjection 0x14 6
      else if d.parN P.PILOT_INJECT_WINDOW < (d.leafPos - wholeOf d.leaf.sp.p).natAbs then d.endInjection 0x14 2 else d := by
  obtain ⟨j, hj⟩ := Option.isSome_iff_exists.1 runs
  unfold Dev.injectionAbort
  simp only [hj, decide_eq_true_eq]

theorem injectionAbort_none {d : Dev} (free : ¬ d.pilot.inject.isSome = true) : d.injectionAbort = d := by
  unfold Dev.injectionAbort
  rw [Option.not_isSome_iff_eq_none.1 free]

/-- Settles O31: each sample does its steps where it is due, each event of the loops acts where its condition holds. -/
theorem samplesAndLoopEvents : Obligations.SamplesAndLoopEvents := by
  unfold Obligations.SamplesAndLoopEvents
  refine ⟨fun dt s => ⟨fun seen => ?_, fun ntc => ?_, ?_⟩, fun dt s => ⟨?_, ?_, fun axis => ?_, ?_, ?_⟩⟩
  · exact liveAlways rfl
  · exact gridRow (f := fun d => (d.speedSample ntc).forceSample) rfl (fun d => rfl)
  · exact gridRow (f := Dev.positionSample) rfl
      (fun d => congrArg (fun t : Dev => t.positionLoop.modeDone.stepInjection) (applyCorrection_eq d))
  · exact liveRow (f := Dev.hallOverdue) rfl (fun d due => if_pos due) (fun d idle => if_neg idle)
  · refine acts_intro (f := Dev.whenReady Dev.drEnd) rfl (fun d due => ?_) (fun d idle => whenReady_not _ d fun up => ?_)
    · obtain ⟨ready, live, reckons, free, past⟩ := due
      have due := (drCause_ne_zero d).2 past
      rw [whenReady_due _ d ⟨ready, live⟩, drEnd_eq, if_neg (by simp [reckons, free]), if_neg due]
      simp only [drCause_due due]
    · rw [drEnd_eq]
      split
      · rfl
      · exact if_pos (by_contra fun due => idle ⟨up.1, up.2, by simp_all, by simp_all, (drCause_ne_zero d).1 due⟩)
  · refine acts_intro (f := Dev.whenLive fun d => if d.onGrid 20 then d.transferToAuto axis else d) rfl (fun d due => ?_) (fun d idle => whenLive_not _ d fun up => ?_)
    · rw [whenLive_due _ d due.1]
      exact if_pos ((onGrid_iff 20 d).2 due.2.1)
    · split
      · refine if_pos ?_
        by_contra k
        rw [not_or, not_not] at k
        exact idle ⟨up, (onGrid_iff 20 d).1 ‹_›, k⟩
      · rfl
  · refine liveRow (f := Dev.injectionDone) rfl (fun d due => ?_) (fun d idle => ?_)
    · obtain ⟨j, hj⟩ := Option.isSome_iff_exists.1 due.1
      unfold Dev.injectionDone
      simp only [hj]
      exact if_pos due.2
    · unfold Dev.injectionDone
      split
      case h_1 j hj => exact if_neg fun full => idle ⟨by rw [hj]; rfl, full⟩
      case h_2 => rfl
  · refine liveRow (f := Dev.injectionAbort) rfl (fun d due => ?_) (fun d idle => ?_)
    · obtain ⟨runs, cause⟩ := due
      rw [injectionAbort_eq runs]
      split_ifs with lost left away
      · rfl
      · rfl
      · rfl
      · exact absurd cause (by simp [lost, left, away])
    · by_cases runs : d.pilot.inject.isSome = true
      · rw [injectionAbort_eq runs]
        have none := fun cause => idle ⟨runs, cause⟩
        rw [if_neg fun k => none (.inl k), if_neg fun k => none (.inr (.inl k)), if_neg fun k => none (.inr (.inr k))]
      · exact injectionAbort_none runs

end Sys2Proof.Laws
end

section
/-! SUPPORT. Position and bridges (chapters 08 and 09): Hall codes, counted edges, the pass-through, and a latched bridge. -/

namespace Sys2Proof.Laws

open Sys2Proof Sys2Proof.Machine

/-! ### Hall codes and the pass-through (R276, R284, R300) -/

/-- The Hall pads follow a code. -/
def hallShown (code : Nat) (d : Dev) : Dev := d.modSext fun s => { s with hallOut := s.hallOut.map fun _ => code }

/-- A code's state is taken without a count. -/
def hallResync (code sector : Nat) (d : Dev) : Dev :=
  d.modSext fun s => { s with code := code, sector := some sector, illegal := false, lastDir := none }

section
variable {code : Nat} {d : Dev} (change : code ≠ d.sext.code) (real : code ≤ 7)
include change real

/-- A change of code is shown on the pads and judged by its state. -/
theorem hallChange_eq : d.hallChange code = (match hallSector code with
    | none => ((hallShown code d).modSext fun s => { s with code := code, illegal := true, speedValid := false, lastDir := none }).hallIllegal 1 code
    | some sector => if d.sext.illegal = true then hallResync code sector (hallShown code d) else match d.sext.sector with
      | none => hallResync code sector (hallShown code d)
      | some old =>
        if (sector + 6 - old) % 6 = 1 then (hallShown code d).countEdge (decide (d.par P.SEXT_HALL_SENSE = 0)) code sector
        else if (sector + 6 - old) % 6 = 5 then (hallShown code d).countEdge (!decide (d.par P.SEXT_HALL_SENSE = 0)) code sector
        else (hallResync code sector (hallShown code d)).hallIllegal 2 code) := by
  unfold Dev.hallChange
  refine (if_neg (by omega)).trans ?_
  cases hallSector code with
  | none => rfl
  | some sector =>
    refine if_congr Iff.rfl rfl ?_
    cases d.sext.sector with
    | none => rfl
    | some old => exact if_congr Iff.rfl rfl rfl

end

theorem passThrough_eq {code : Nat} {d : Dev} (role : d.par P.SYS_DRIVE_ROLE = 2) (change : code ≠ d.sext.ptCode) (real : code ≤ 7) :
    d.passThrough code =
      (let noted (t : Dev) : Dev := t.modSext fun s => { s with ptCode := code, ptSector := hallSector code }
      let turned (t : Dev) : Dev := t.modSext fun s => { s with ptDir := none }
      let bad (t : Dev) : Dev := (t.raise 78 1 0xFF (u8 code)).leaderLost 2
      match hallSector code, d.sext.ptSector with
      | none, _ => bad (turned (noted d))
      | some _, none => noted d
      | some sector, some old =>
        let edge (opening : Bool) : Dev :=
          let t := (noted d).modSext fun s => { s with
            ptCounter := satI 32 (s.ptCounter + (if opening then 256 else -256)), ptTime := d.now, ptDir := some opening }
          if d.sext.ptDir = some opening ∧ (d.now - d.sext.ptTime) * d.parN P.SEXT_SPEED_MAX < d.parN P.SEXT_UM_PER_EDGE * 100000000 then bad t else t
        let up := decide (d.par P.SEXT_PT_SENSE = 0)
        if (sector + 6 - old) % 6 = 1 then edge up else if (sector + 6 - old) % 6 = 5 then edge (!up) else bad (turned (noted d))) := by
  unfold Dev.passThrough
  refine (if_neg (by simp only [ne_eq, role, not_true_eq_false, false_or]; omega)).trans ?_
  cases hallSector code with
  | none => cases d.sext.ptSector <;> rfl
  | some sector => cases d.sext.ptSector <;> rfl

/-- Settles O32: a change of code is judged by its state and the one before; the speed times out where R284 says so. -/
theorem hallCodes : Obligations.HallCodes := by
  unfold Obligations.HallCodes
  intro dt code s d resync shown
  have row {x : Dev} (live : d.live = true) (h : d.hallChange code = x) : Leaves (.hallStateChange dt code) s x :=
    leaves_intro (f := Dev.whenLive (Dev.hallChange code)) rfl ((whenLive_due _ _ live).trans h)
  refine ⟨fun same => ?_, fun live change real => ?_, ?_, ?_⟩
  · refine leaves_intro (f := Dev.whenLive (Dev.hallChange code)) rfl (whenLive_not _ _ fun live => if_pos ?_)
    rcases same with dead | same | same
    · exact absurd live (by rw [dead]; decide)
    · exact .inl same
    · exact .inr same
  · have judged := hallChange_eq change real
    refine ⟨fun bad => row live ?_, fun sector legal => ?_⟩
    · rw [bad] at judged
      exact judged
    · rw [legal] at judged
      refine ⟨fun fresh => row live (judged.trans ?_), fun old sound known => ?_⟩
      · rcases fresh with illegal | unknown
        · exact if_pos illegal
        · simp only [unknown]
          exact ite_self ..
      · simp only [sound, known, Bool.false_eq_true, if_false] at judged
        exact ⟨fun up => row live (judged.trans (if_pos up)), fun down => row live (judged.trans ((if_neg (by omega)).trans (if_pos down))),
          fun notUp notDown => row live (judged.trans ((if_neg notUp).trans (if_neg notDown)))⟩
  · refine liveRow (f := Dev.passThrough code) rfl (fun d due => passThrough_eq due.1 due.2.1 due.2.2) (fun d idle => if_pos ?_)
    by_contra k
    rw [not_or, not_or, not_not, Nat.not_lt] at k
    exact idle k
  · refine liveRow (f := Dev.speedTimeout) rfl (fun d due => ?_) (fun d idle => ?_)
    · obtain ⟨legal, edges, due⟩ := due
      exact if_pos (by simp [legal, edges, due])
    · refine if_neg fun k => idle ?_
      simpa [and_comm, and_assoc, and_left_comm] using k

/-! ### Counted edges (R280 to R288) -/

/-- A device without what the judgement of an edge may report: the host side, the records, Pilot, and the reference, freeze and count of illegal codes. -/
def steady (d : Dev) : Dev :=
  { d with nv := {}, host := {}, pilot := {}, log := {}, sext := { d.sext with ref := 0, frozen := false, illegalCount := 0 } }

theorem steady_raise (src sev subject : Nat) (fields : List Byte) (d : Dev) : steady (d.raise src sev subject fields) = steady d := by
  rw [raise_eq]; rfl

theorem steady_onset (src sev subject : Nat) (fields : List Byte) (d : Dev) : steady (d.onset src sev subject fields) = steady d := by
  rw [onset_eq]; rfl

theorem steady_clearing (src subject : Nat) (fields : List Byte) (d : Dev) : steady (d.clearing src subject fields) = steady d := by
  rw [clearing_eq]; rfl

theorem steady_trigger (code source : Nat) (d : Dev) : steady (d.trigger code source) = steady d := by
  unfold Dev.trigger
  split <;> rfl

theorem steady_recFlag (n : Nat) (d : Dev) : steady (d.recFlag n) = steady d := by
  unfold Dev.recFlag
  dsimp only
  split <;> rfl

theorem steady_refLost (cause : Nat) (um : Int) (d : Dev) : steady (d.refLost cause um) = steady d := by
  unfold Dev.refLost
  split
  · rfl
  · rw [steady_recFlag, steady_trigger, steady_onset]
    rfl

theorem steady_modPilot (f : Pilot → Pilot) (d : Dev) : steady (d.modPilot f) = steady d := rfl

theorem steady_lostFeedback (cause : Nat) (d : Dev) : steady (d.lostFeedback cause) = steady d := by
  unfold Dev.lostFeedback
  simp only [apply_ite steady, steady_modPilot, steady_recFlag, steady_refLost, steady_trigger, steady_onset, ite_self]

/-- The freeze of the feedback is not looked at. -/
theorem steady_frozen (frozen : Bool) (d : Dev) : steady (d.modSext fun s => { s with frozen := frozen }) = steady d := rfl

theorem steady_judgeFrozen (d : Dev) : steady d.judgeFrozen = steady d := by
  unfold Dev.judgeFrozen
  simp only [apply_ite steady, steady_lostFeedback, steady_refLost, steady_onset, steady_clearing, steady_frozen, ite_self]

theorem steady_hallIllegal (n code : Nat) (d : Dev) : steady (d.hallIllegal n code) = steady d := by
  unfold Dev.hallIllegal
  simp only [apply_ite steady, steady_lostFeedback, steady_modPilot, steady_raise, ite_self]
  rfl

theorem steady_goodEdge (d : Dev) : steady d.goodEdge = steady d := by
  have told (e : Dev) : steady ((e.endStanding 65 0xFF).raise 67 0 0xFF []) = steady e := steady_raise ..
  unfold Dev.goodEdge
  simp only [apply_ite steady, told, steady_modPilot, ite_self]

/-- Where an edge takes the position counter and the overrun (R280, R281). -/
def countedTo (opening : Bool) (d : Dev) : Int × Int :=
  let step : Int := if opening then 1 else -1
  let next := d.sext.counter + 256 * step
  if d.softHeld = false then (satI 32 next, d.sext.overrun)
  else if d.sext.overrun ≠ 0 then (d.sext.counter, satI 16 (d.sext.overrun + step))
  else if d.softHigh < next then (d.softHigh, 1)
  else if next < d.softLow then (d.softLow, -1)
  else (next, d.sext.overrun)

theorem steady_moveCounter (opening : Bool) (d : Dev) :
    steady (d.moveCounter opening) = steady (d.modSext fun s => { s with counter := (countedTo opening d).1, overrun := (countedTo opening d).2 }) := by
  unfold Dev.moveCounter countedTo
  by_cases held : d.softHeld = true
  · dsimp only
    generalize (if opening = true then (1 : Int) else -1) = step
    simp only [held, not_true_eq_false, if_false, Bool.true_eq_false, apply_ite Prod.fst, apply_ite Prod.snd, apply_ite steady, steady_judgeFrozen, steady_onset]
    split_ifs <;> rfl
  · rw [if_pos held, if_pos (Bool.eq_false_iff.2 held)]
    rfl

/-- A counted edge noted and moved, with its times, its speed and its latch, before it is judged. -/
theorem steady_countEdge (opening : Bool) (code sector : Nat) (d : Dev) : ∃ intervals speed valid latch,
    let moved := (d.modSext fun s => { s with code := code, sector := some sector, lastDir := some opening, opening := opening, timedOut := false }).moveCounter opening
    latch.counter = moved.sext.counter ∧ latch.time = d.hallStamp
      ∧ steady (d.countEdge opening code sector) = steady (moved.modSext fun s => { s with
          edgeTimes := (d.hallStamp :: d.sext.edgeTimes).take 7, edgeKnown := moved.now, intervals := intervals, speed := speed, speedValid := valid
          latch := latch }) := by
  unfold Dev.countEdge
  exact ⟨_, _, _, _, rfl, rfl, (apply_ite steady _ _ _).trans ((if_congr Iff.rfl (steady_hallIllegal ..) (steady_goodEdge _)).trans (ite_self _))⟩

/-- Settles O33: the counter goes where R280 takes it, and judging the edge touches neither it nor its times. -/
theorem countedEdges : Obligations.CountedEdges := by
  unfold Obligations.CountedEdges
  intro d opening code sector t step next
  obtain ⟨intervals, speed, valid, latch, counter, time, edge⟩ := steady_countEdge opening code sector d
  have moved := steady_moveCounter opening
    (d.modSext fun s => { s with code := code, sector := some sector, lastDir := some opening, opening := opening, timedOut := false })
  generalize Dev.moveCounter opening _ = m at *
  change steady t = _ at edge
  clear_value t
  have ofT {α : Type} (g : Dev → α) := congrArg g edge
  have ofM {α : Type} (g : Dev → α) := congrArg g moved
  have counted : t.sext.counter = (countedTo opening d).1 := (ofT (·.sext.counter)).trans (ofM (·.sext.counter))
  have overrun : t.sext.overrun = (countedTo opening d).2 := (ofT (·.sext.overrun)).trans (ofM (·.sext.overrun))
  refine ⟨(ofT (·.sext.code)).trans (ofM (·.sext.code)), (ofT (·.sext.sector)).trans (ofM (·.sext.sector)),
    (ofT (·.sext.lastDir)).trans (ofM (·.sext.lastDir)), (ofT (·.sext.opening)).trans (ofM (·.sext.opening)), ofT (·.sext.edgeTimes),
    (ofT (·.sext.latch.counter)).trans (counter.trans (ofT (·.sext.counter)).symm), (ofT (·.sext.latch.time)).trans time,
    fun free => ?_, fun held run => ?_, fun held run => ⟨fun high => ?_, fun inside low => ?_, fun inside above => ?_⟩,
    (ofT (·.sext.units)).trans (ofM (·.sext.units)), (ofT Dev.door).trans (ofM Dev.door), (ofT Dev.drive).trans (ofM Dev.drive),
    (ofT Dev.bin).trans (ofM Dev.bin), (ofT Dev.prm).trans (ofM Dev.prm), (ofT Dev.skin).trans (ofM Dev.skin)⟩
  · rw [counted, overrun, countedTo]
    exact ⟨congrArg Prod.fst (if_pos free), congrArg Prod.snd (if_pos free)⟩
  · have reached : countedTo opening d = (d.sext.counter, satI 16 (d.sext.overrun + step)) := (if_neg (by simp [held])).trans (if_pos run)
    rw [counted, overrun, reached]
    exact ⟨rfl, rfl⟩
  · have reached : countedTo opening d = (d.softHigh, 1) := (if_neg (by simp [held])).trans ((if_neg (not_not.2 run)).trans (if_pos high))
    rw [counted, overrun, reached]
    exact ⟨rfl, rfl⟩
  · have reached : countedTo opening d = (d.softLow, -1) :=
      (if_neg (by simp [held])).trans ((if_neg (not_not.2 run)).trans ((if_neg (not_lt.2 inside)).trans (if_pos low)))
    rw [counted, overrun, reached]
    exact ⟨rfl, rfl⟩
  · have reached : countedTo opening d = (next, d.sext.overrun) :=
      (if_neg (by simp [held])).trans ((if_neg (not_not.2 run)).trans ((if_neg (not_lt.2 inside)).trans (if_neg (not_lt.2 above))))
    rw [counted, overrun, reached]
    exact ⟨rfl, run⟩

end Sys2Proof.Laws
end

section
/-! SUPPORT. The bridges of the drive (chapter 09): their events and a latched fault. -/

namespace Sys2Proof.Laws

open Sys2Proof Sys2Proof.Machine

/-- Settles O35: each event of a bridge acts where its condition holds. -/
theorem driveEvents : Obligations.DriveEvents := by
  unfold Obligations.DriveEvents
  intro dt s
  refine ⟨fun leg high => ?_, fun leg high => ?_, fun leg high => ?_, fun leg mv => ?_, fun bridge => ?_, fun offsets => ?_, fun mv => ?_, fun mv => ?_⟩
  · refine liveRow (f := Dev.vdsTrip leg high) rfl (fun d due => ?_) (fun d idle => if_pos ?_)
    · obtain ⟨real, on, fresh⟩ := due
      refine (if_neg ?_).trans (if_congr Iff.rfl (if_congr decide_eq_true_iff rfl rfl) rfl)
      rw [not_or, not_or, Nat.not_lt, Bool.not_eq_true]
      exact ⟨real, on, fresh⟩
    · by_contra k
      rw [not_or, not_or, Nat.not_lt, Bool.not_eq_true] at k
      exact idle k
  · refine liveRow (f := Dev.gateFault leg high true) rfl (fun d due => ?_) (fun d idle => ?_)
    · obtain ⟨real, on, fresh⟩ := due
      refine (if_neg ?_).trans ((if_pos rfl).trans (if_neg ?_))
      · rw [not_or, Nat.not_lt]
        exact ⟨real, on⟩
      · exact Bool.eq_false_iff.1 fresh
    · by_cases off : 6 < leg ∨ (d.drive.bridge (bridgeOf leg)).mode = 0
      · exact if_pos off
      · refine (if_neg off).trans ((if_pos rfl).trans (if_pos ?_))
        rw [not_or, Nat.not_lt] at off
        exact Bool.eq_true_of_not_eq_false fun fresh => idle ⟨off.1, off.2, fresh⟩
  · refine liveRow (f := Dev.gateFault leg high false) rfl (fun d due => ?_) (fun d idle => ?_)
    · obtain ⟨real, on, fresh⟩ := due
      refine (if_neg ?_).trans ((if_neg Bool.false_ne_true).trans (if_neg (Bool.eq_false_iff.1 fresh)))
      rw [not_or, Nat.not_lt]
      exact ⟨real, on⟩
    · by_cases off : 6 < leg ∨ (d.drive.bridge (bridgeOf leg)).mode = 0
      · exact if_pos off
      · refine (if_neg off).trans ((if_neg Bool.false_ne_true).trans (if_pos ?_))
        rw [not_or, Nat.not_lt] at off
        exact Bool.eq_true_of_not_eq_false fun fresh => idle ⟨off.1, off.2, fresh⟩
  · refine liveRow (f := Dev.bootstrapLow leg mv) rfl (fun d due => if_neg (by omega)) (fun d idle => if_pos (by omega))
  · refine liveRow (f := Dev.prechargeEnd bridge) rfl (fun d due => ?_) (fun d idle => ?_)
    · obtain ⟨real, t, ht, due⟩ := due
      unfold Dev.prechargeEnd
      simp only [ht]
      exact if_pos ⟨real, due⟩
    · unfold Dev.prechargeEnd
      split
      case h_1 t ht => exact if_neg fun k => idle ⟨k.1, t, ht, k.2⟩
      case h_2 => rfl
  · exact liveAlways rfl
  · refine acts_when (f := Dev.busOver mv) rfl (fun d => rfl) (fun d => ?_)
    rw [Bool.not_eq_true]
  · exact liveRow (f := Dev.busOverEnd mv) rfl (fun d due => if_pos due) (fun d idle => if_neg idle)

/-! ### A latched fault (R320) -/

/-- A trigger waits in the log. -/
theorem trigger_eq (code source : Nat) (d : Dev) : d.trigger code source = { d with log := (d.trigger code source).log } := by
  unfold Dev.trigger
  split <;> rfl

/-- The bridge as a latched fault leaves it. -/
def Bridge.latch (now : Nat) (b : Bridge) : Bridge :=
  { b with mode := 0, offSince := now, precharge := none, latched := true, trips := min 15 (b.trips + 1) }

theorem bridge_modBridge (n : Nat) (f : Bridge → Bridge) (d : Dev) (hn : n < 3) : (d.modBridge n f).drive.bridge n = f (d.drive.bridge n) := by
  interval_cases n <;> rfl

theorem bridge_modBridge_ne {n other : Nat} (f : Bridge → Bridge) (d : Dev) (ne : other ≠ n) (hn : n < 3) (ho : other < 3) :
    (d.modBridge n f).drive.bridge other = d.drive.bridge other := by
  rcases (by omega : n = 0 ∨ n = 1 ∨ n = 2) with rfl | rfl | rfl <;>
    rcases (by omega : other = 0 ∨ other = 1 ∨ other = 2) with rfl | rfl | rfl
  all_goals simp [Dev.modBridge, Drive.bridge] at ne ⊢

/-- What latching leaves of the device beside the host side and the log. -/
theorem latchBridge_eq (n : Nat) (d : Dev) :
    d.latchBridge n = { d.modBridge n (Bridge.latch d.now) with
      step := if n = 0 then d.step else { d.step with unverified := true }
      nv := (d.latchBridge n).nv, host := (d.latchBridge n).host, log := (d.latchBridge n).log } := by
  unfold Dev.latchBridge
  rw [trigger_eq, onset_eq]
  split <;> rfl

theorem latchBridge_stands (n : Nat) (d : Dev) : (d.latchBridge n).host.stands 82 n = true := by
  unfold Dev.latchBridge
  rw [trigger_eq]
  exact (onset_stands ..).trans (by simp)

/-- Settles O36: the latch changes its bridge, the step's verification, the host side and the log, and nothing else. -/
theorem bridgeLatch : Obligations.BridgeLatch := by
  unfold Obligations.BridgeLatch
  intro n d hn b t a
  have stands : t.host.stands 82 n = true := latchBridge_stands n d
  have same : t = _ := latchBridge_eq n d
  have bridge : a = Bridge.latch d.now b := (congrArg (fun t : Dev => t.drive.bridge n) same).trans (bridge_modBridge n _ d hn)
  have others (other : Nat) (ho : other < 3) (ne : other ≠ n) : t.drive.bridge other = d.drive.bridge other :=
    (congrArg (fun t : Dev => t.drive.bridge other) same).trans (bridge_modBridge_ne _ d ne hn ho)
  have keeps {α : Type} (g : Dev → α) := congrArg g same
  have drive : (d.modBridge n (Bridge.latch d.now)).drive.legs = d.drive.legs ∧ (d.modBridge n (Bridge.latch d.now)).drive.vbus = d.drive.vbus := by
    interval_cases n <;> exact ⟨rfl, rfl⟩
  rw [bridge]
  exact ⟨rfl, rfl, rfl, rfl, rfl, others, (keeps (·.drive.legs)).trans drive.1, (keeps (·.drive.vbus)).trans drive.2, keeps Dev.step, stands,
    keeps Dev.door, keeps Dev.leaf, keeps Dev.pilot, keeps Dev.sext, keeps Dev.skin, keeps Dev.load, keeps Dev.bin, keeps Dev.bus, keeps Dev.chron,
    keeps Dev.prm, keeps Dev.supply⟩

end Sys2Proof.Laws
end

section
/-! SUPPORT. Skin and obstacles (chapters 10 and 11): the orders on the ports, the queries, the events, and what one tile packet changes. -/

namespace Sys2Proof.Laws

open Sys2Proof Sys2Proof.Machine

/-! ### Orders and queries (R344, R350, R367 to R371) -/

/-- A port with a link takes a SKIN_PORT_SET: a suspension in Maintenance or Isolated, a retraining at rest. -/
theorem guardPortSet_pass {port action : Nat} {d : Dev} (link : d.portLink port ≠ 0) (apart : action = 0 → d.door.state = 12 ∨ d.door.state = 10)
    (still : action = 2 → d.inMotion = false) : d.guardPortSet port action = none := by
  refine (refuseIf_pass _ _ ?_).trans (refuseIf_pass _ _ ?_)
  · by_cases off : action = 0
    · rcases apart off with state | state <;> simp [link, state]
    · simp [link, off]
  · by_cases anew : action = 2
    · simp [still anew]
    · simp [anew]

theorem guardRebuild_pass {mask : Nat} {d : Dev} (still : d.inMotion = false) (free : d.skin.rebuildOrder = none)
    (run : ∀ p ∈ portsOf mask, (d.port p).state = 3 ∨ (d.port p).state = 4) : d.guardRebuild mask = none := by
  refine (refuseIf_pass _ _ still).trans (refuseIf_pass _ _ ?_)
  have all : ((portsOf mask).all fun p => decide ((d.port p).state = 3) || decide ((d.port p).state = 4)) = true := by
    rw [List.all_eq_true]
    exact fun p hp => by simpa using run p hp
  rw [all, free]
  rfl

theorem guardFrameRead_pass {port a0 an r0 rn : Nat} {d : Dev} (some : 1 ≤ an) (most : an ≤ 256) (along : a0 + an ≤ 256 * (d.port port).tiles.length)
    (rows : 1 ≤ rn) (across : r0 + rn ≤ 32) (fits : an * rn ≤ 480) : d.guardFrameRead port a0 an r0 rn = none := by
  refine (refuseIf_pass _ _ (decide_eq_false (by omega))).trans ((refuseIf_pass _ _ ?_).trans ((refuseIf_pass _ _ (decide_eq_false (by omega))).trans
    (refuseIf_pass _ _ ?_)))
  · simp [Nat.not_lt.2 some, Nat.not_lt.2 most, Nat.not_lt.2 along]
  · simp [Nat.not_lt.2 rows, Nat.not_lt.2 across, Nat.not_lt.2 fits]

/-- A window of a contact list that lies inside what is there answers with its entries. -/
theorem contactList_inside {port kind first count : Nat} {d : Dev} (hp : port ≤ 2) (hk : kind ≤ 1) (hf : first ≤ 64) (some : 1 ≤ count)
    (most : count ≤ (if kind = 0 then 24 else 8))
    (there : (d.port port).state = 0 ∨ first < (if kind = 0 then (d.port port).contacts.length else (d.port port).lineRecords.length)) :
    d.contactList port kind first count = (0,
      let q := d.port port
      let cs := if q.state = 0 ∨ kind = 1 then [] else (q.contacts.drop first).take count
      let ls := if q.state = 0 ∨ kind = 0 then [] else (q.lineRecords.drop first).take count
      u8 port ++ u8 q.state ++ u8 (if q.state = 0 then 0 else q.contacts.length) ++ u8 (if q.state = 0 then 0 else q.lineRecords.length) ++ u8 first
        ++ u8 (cs.length + ls.length) ++ u8 0 ++ u32 q.frameNo ++ u64 q.frameTime
        ++ (cs.flatMap (fun c => d.contactEntry port c) ++ ls.flatMap fun l => d.lineEntry port l)) := by
  have window : ¬ (64 < first ∨ ¬ (d.port port).state = 0
      ∧ (if (d.port port).state = 0 then 0 else if kind = 0 then (d.port port).contacts.length else (d.port port).lineRecords.length) ≤ first) := by
    rintro (far | ⟨on, past⟩)
    · omega
    · rw [if_neg on] at past
      exact absurd (there.resolve_left on) (Nat.not_lt.2 past)
  unfold Dev.contactList
  exact (if_neg (Nat.not_lt.2 hp)).trans ((if_neg (Nat.not_lt.2 hk)).trans ((if_neg window).trans (if_neg (by
    rintro (none | many)
    · omega
    · exact absurd most (Nat.not_le.2 many)))))

theorem taken_skin (h : CmdHead) (c : HostCmd) (slot : Nat) (d : Dev) : (d.taken h c slot).skin = d.skin := (congrArg Dev.skin (taken_eq h c slot d) :)

/-- Settles O37: each order's checks let it through, and each query answers. -/
theorem skinCommands : Obligations.SkinCommands := by
  unfold Obligations.SkinCommands
  refine ⟨fun h dt s => ⟨fun port => ?_, fun port => ?_, fun port => ?_, fun ports => ?_⟩,
    fun h dt s => ⟨fun port => ?_, fun port => ?_, fun port map a0 an r0 rn => ?_, fun port kind first count => ?_, ?_, ?_, ?_⟩⟩
  · exact runs_row rfl (fun d hd => guardPortSet_pass hd.1 (fun _ => hd.2) (fun k => absurd k (by decide))) (fun _ _ _ => rfl)
  · refine runs_row rfl (fun d hd => guardPortSet_pass hd (fun k => absurd k (by decide)) (fun k => absurd k (by decide))) (fun slot d _ => ?_)
    exact if_congr Iff.rfl rfl (if_congr Iff.rfl rfl (if_congr (or_congr_left List.isEmpty_iff) rfl rfl))
  · exact runs_row rfl (fun d hd => guardPortSet_pass hd.1 (fun k => absurd k (by decide)) (fun _ => hd.2)) (fun _ _ _ => rfl)
  · exact runs_row rfl (fun d hd => guardRebuild_pass hd.1 hd.2.1 hd.2.2) (fun _ _ _ => rfl)
  · exact runs_unchecked rfl (fun _ => rfl) (fun _ _ => rfl)
  · exact runs_unchecked rfl (fun _ => rfl) (fun _ _ => rfl)
  · exact runs_row rfl (fun d hd => guardFrameRead_pass hd.1 hd.2.1 hd.2.2.1 hd.2.2.2.1 hd.2.2.2.2.1 hd.2.2.2.2.2) (fun _ _ _ => rfl)
  · refine runs_row rfl (fun d hd => ?_) (fun slot d hd => ?_)
    · obtain ⟨hp, hk, hf, some, most, there⟩ := hd
      exact if_pos (congrArg Prod.fst (contactList_inside hp hk hf some most there))
    · obtain ⟨hp, hk, hf, some, most, there⟩ := hd
      unfold Dev.port at there
      rw [← taken_skin h (.contactList port kind first count) slot d] at there
      exact congrArg (fun r : Nat × List Byte => (d.taken h (.contactList port kind first count) slot).reply slot r.1 r.2)
        (contactList_inside hp hk hf some most there)
  · exact runs_unchecked rfl (fun _ => rfl) (fun _ _ => rfl)
  · exact runs_unchecked rfl (fun _ => rfl) (fun _ _ => rfl)
  · exact runs_unchecked rfl (fun _ => rfl) (fun _ _ => rfl)

/-! ### A tile packet (R343, R354) -/

theorem port_modPort {p : Nat} (f : Port → Port) {d : Dev} (hp : p < d.skin.ports.length) : (d.modPort p f).port p = f (d.port p) :=
  (getD_modAt f {} d.skin.ports p p hp).trans (if_pos rfl)

section
variable {d : Dev} {p : Nat} {bytes : List Byte} (runs : d.skin.running = true) (framed : (d.port p).framed = true) (hp : p < d.skin.ports.length)
include runs framed hp

/-- A packet of a running frame counts its characters and violations, and is then judged by the first rule that applies. -/
theorem tilePacket_eq (violations : Nat) :
    d.tilePacket p bytes violations =
      (let q := d.port p
      let t := d.modPort p fun q => { q with
        chars := q.chars + bytes.length + 2, codeCount := satU 16 (q.codeCount + violations), frameCodes := q.frameCodes + violations }
      let n := fieldAt 4 2 bytes
      let type := fieldAt 0 1 bytes
      let tile := fieldAt 1 1 bytes % 16
      let row := fieldAt 3 1 bytes
      let payload := (bytes.drop 6).take n
      let rowType := type = 0x11 ∨ type = 0x12 ∨ type = 0x13
      let fits := tileLength type payload = n ∧ fieldAt 2 1 bytes = d.skin.frame % 256 ∧ tile < q.tiles.length
        ∧ (rowType → row < 32 ∧ (type = 0x13 ↔ q.scan = 2))
      if 8 ≤ q.frameCodes + violations then t.portFault p 1
      else if violations ≠ 0 then t
      else if bytes.length ≠ n + 10 then t.modPort p fun q => { q with checkCount := satU 16 (q.checkCount + 1) }
      else if crc32c (bytes.take (6 + n)) ≠ fieldAt (6 + n) 4 bytes then t.modPort p fun q => { q with checkCount := satU 16 (q.checkCount + 1) }
      else if ¬ fits then t
      else if type = 0x10 then t.modPort p fun q => { q with tiles := modAt (Tile.takeHeader payload) tile q.tiles }
      else if rowType then t.modPort p fun q => { q with rows := modAt (TaxelRow.take type payload) (32 * tile + row) q.rows }
      else t) := by
  unfold Dev.tilePacket
  refine (if_neg (by simp [runs, framed])).trans (if_congr ?_ rfl rfl)
  rw [port_modPort _ hp]

end

/-- Settles O39: the rules of a packet, taken in their order. -/
theorem tilePackets : Obligations.TilePackets := by
  unfold Obligations.TilePackets
  intro d p bytes violations runs framed hp q t n type tile row payload fits
  have judged := tilePacket_eq (bytes := bytes) runs framed hp violations
  refine ⟨fun many => judged.trans (if_pos many), fun few bad => judged.trans ((if_neg (Nat.not_le.2 few)).trans (if_pos bad)), fun few clean => ?_⟩
  subst clean
  replace judged := judged.trans ((if_neg (Nat.not_le.2 few)).trans (if_neg (by decide)))
  refine ⟨fun wrong => judged.trans ?_, fun length check => ?_⟩
  · by_cases length : bytes.length ≠ n + 10
    · exact if_pos length
    · exact (if_neg length).trans (if_pos (wrong.resolve_left length))
  · replace judged := judged.trans ((if_neg (not_not.2 length)).trans (if_neg (not_not.2 check)))
    refine ⟨fun no => judged.trans (if_pos fun k => no ⟨k.1, k.2.1, k.2.2.1⟩), fun yes status => judged.trans ?_, fun yes rows => ?_⟩
    · refine (if_neg (not_not.2 ⟨yes.1, yes.2.1, yes.2.2, fun k => ?_⟩)).trans (if_pos status)
      change type = _ ∨ type = _ ∨ type = _ at k
      omega
    · have ofRow : type = 0x11 ∨ type = 0x12 ∨ type = 0x13 := by simpa using rows
      refine ⟨fun inside => judged.trans ?_, fun outside => judged.trans (if_pos fun k => outside (k.2.2.2 ofRow))⟩
      exact (if_neg (not_not.2 ⟨yes.1, yes.2.1, yes.2.2, fun _ => inside⟩)).trans ((if_neg (by change ¬ type = 0x10; omega)).trans (if_pos ofRow))

/-! ### The skin's events (R341 to R363) -/

/-- A port that may fail: it has a link and has left reset. -/
theorem portFails_mayFail {p : Nat} {d : Dev} (real : p ≤ 2) (link : d.portLink p ≠ 0) (on : (d.port p).state ≠ 0) :
    ¬ (2 < p ∨ d.portLink p = 0 ∨ (d.port p).state = 0) := by
  rw [not_or, not_or]
  exact ⟨Nat.not_lt.2 real, link, on⟩

/-- Whether every tile of a port that has tiles has faulted. -/
theorem allFaulted_iff (q : Port) : (¬ q.tiles.isEmpty = true ∧ (q.tiles.all fun t => decide (t.faults ≠ 0)) = true)
    ↔ q.tiles ≠ [] ∧ ∀ t ∈ q.tiles, t.faults ≠ 0 := by
  rw [List.isEmpty_iff, List.all_eq_true]
  simp only [decide_eq_true_eq, ne_eq]

/-- A fault by its tiles, as the condition that lets it happen. -/
theorem portFails_tiles (p : Nat) (d : Dev) :
    d.portFails p 3 = if p ≤ 2 ∧ d.portLink p ≠ 0 ∧ (d.port p).state ≠ 0 ∧ (d.port p).state ≠ 5 ∧ (d.port p).tiles ≠ []
        ∧ ∀ t ∈ (d.port p).tiles, t.faults ≠ 0 then d.portState p 5 3 else d := by
  by_cases off : 2 < p ∨ d.portLink p = 0 ∨ (d.port p).state = 0
  · refine (if_pos off).trans (if_neg fun k => ?_).symm
    exact portFails_mayFail k.1 k.2.1 k.2.2.1 off
  · refine (if_neg off).trans ((if_neg (by decide)).trans (if_congr ?_ rfl rfl))
    rw [not_or, not_or, Nat.not_lt] at off
    rw [← allFaulted_iff]
    exact ⟨fun k => ⟨off.1, off.2.1, off.2.2, k.2.1, k.2.2⟩, fun k => ⟨rfl, k.2.2.2⟩⟩

/-- EXC as sampled: since when it is out of its range, or back in it (R362). -/
def excSampled (exc : Nat) (d : Dev) : Dev :=
  let ok := 9500 ≤ exc ∧ exc ≤ 10500
  d.modSkin fun s => { s with
    excMv := exc
    excBad := if ok ∨ ¬ d.excOn then none else some (s.excBad.getD d.now)
    excGood := if ok then some (s.excGood.getD d.now) else none }

/-- The excitation fault ends after 10 ms in range. -/
def excEnds (d : Dev) : Dev := match d.skin.excGood with
  | some t => if d.skin.excFault ∧ ms 10 ≤ d.now - t then d.excState false else d
  | none => d

/-- It begins after 1 ms out of range. -/
def excBegins (d : Dev) : Dev := match d.skin.excBad with
  | some t => if ¬ d.skin.excFault ∧ ms 1 ≤ d.now - t then d.excState true else d
  | none => d

theorem excEnds_eq (d : Dev) :
    excEnds d = if d.skin.excFault = true ∧ (∃ t, d.skin.excGood = some t ∧ ms 10 ≤ d.now - t) then d.excState false else d := by
  unfold excEnds
  cases d.skin.excGood with
  | none => exact (if_neg (by simp)).symm
  | some t => exact if_congr (by simp) rfl rfl

theorem excBegins_eq (d : Dev) :
    excBegins d = if d.skin.excFault = false ∧ (∃ t, d.skin.excBad = some t ∧ ms 1 ≤ d.now - t) then d.excState true else d := by
  unfold excBegins
  cases d.skin.excBad with
  | none => exact (if_neg (by simp)).symm
  | some t => exact if_congr (by simp) rfl rfl

theorem edgeSample_eq (a b c exc : Nat) (d : Dev) :
    d.edgeSample a b c exc = (((excBegins (excEnds (excSampled exc d))).edgeRead 0 a exc).edgeRead 1 b exc).edgeRead 2 c exc := by
  refine congrArg (fun t => (((excBegins (excEnds t)).edgeRead 0 a exc).edgeRead 1 b exc).edgeRead 2 c exc) (?_ : Dev.modSkin _ d = _)
  unfold excSampled Dev.modSkin
  dsimp only
  cases d.skin.excBad <;> cases d.skin.excGood <;> rfl

/-- Settles O38: each event of the skin acts where its condition holds. -/
theorem skinEvents : Obligations.SkinEvents := by
  unfold Obligations.SkinEvents
  intro dt s
  refine ⟨?_, fun port bytes violations => ?_, ?_, fun port cause known => ?_, fun port => ?_, fun port found => ?_, fun port => ?_, ?_,
    fun a b c exc => ?_, fun exc => ?_, fun edge => ?_⟩
  · exact liveAlways rfl
  · refine liveRow (f := Dev.tilePacket port bytes violations) rfl (fun d _ => rfl) (fun d idle => if_pos ?_)
    simpa only [not_and_or] using idle
  · exact liveRow (f := Dev.evaluateFrame) rfl (fun d due => if_neg (not_not.2 due)) (fun d idle => if_pos idle)
  · refine liveRow (f := Dev.portFails port cause) rfl (fun d due => ?_) (fun d idle => if_pos ?_)
    · exact (if_neg (portFails_mayFail due.1 due.2.1 due.2.2)).trans (if_pos known)
    · by_contra k
      rw [not_or, not_or, Nat.not_lt] at k
      exact idle k
  · exact liveRow (f := Dev.portFails port 3) rfl (fun d due => (portFails_tiles port d).trans (if_pos due))
      (fun d idle => (portFails_tiles port d).trans (if_neg idle))
  · refine liveRow (f := Dev.portTrained port found) rfl (fun d due => if_neg ?_) (fun d idle => ?_)
    · rw [not_or, Nat.not_lt]
      exact ⟨due.1, due.2.1⟩
    · by_cases off : 2 < port ∨ d.portLink port = 0
      · exact if_pos off
      · refine (if_neg off).trans (if_pos ?_)
        rw [not_or, Nat.not_lt] at off
        rw [← Option.not_isSome, Bool.not_eq_true']
        exact Bool.eq_false_iff.2 fun trains => idle ⟨off.1, off.2, trains⟩
  · refine liveRow (f := Dev.portRetrain port) rfl (fun d due => ?_) (fun d idle => ?_)
    · obtain ⟨link, t, ht, due⟩ := due
      unfold Dev.portRetrain
      simp only [ht]
      exact if_neg (by rw [not_or, Nat.not_lt]; exact ⟨link, due⟩)
    · unfold Dev.portRetrain
      split
      case h_1 t ht =>
        refine if_pos ?_
        by_contra k
        rw [not_or, Nat.not_lt] at k
        exact idle ⟨k.1, t, ht, k.2⟩
      case h_2 => rfl
  · refine liveRow (f := Dev.rebuildDone) rfl (fun d _ => rfl) (fun d idle => if_pos ?_)
    rw [List.isEmpty_iff, List.filter_eq_nil_iff]
    intro p hp done
    exact idle ⟨p, List.mem_range.1 hp, of_decide_eq_true done⟩
  · refine acts_intro (f := Dev.whenLive (Dev.edgeSample a b c exc)) rfl (fun d live => (whenLive_due _ d live).trans ?_)
      (fun d dead => whenLive_not _ d fun live => absurd live dead)
    rw [edgeSample_eq, excBegins_eq, excEnds_eq]
    rfl
  · refine liveRow (f := Dev.excitationFault exc) rfl (fun d due => if_neg ?_) (fun d idle => if_pos ?_)
    · obtain ⟨on, out, sound⟩ := due
      rw [not_or, not_or]
      exact ⟨not_not.2 on, by omega, Bool.eq_false_iff.1 sound⟩
    · by_contra k
      rw [not_or, not_or, not_not] at k
      exact idle ⟨k.1, by omega, Bool.eq_false_iff.2 k.2.2⟩
  · refine liveRow (f := Dev.pwHoldEnd edge) rfl (fun d due => ?_) (fun d idle => ?_)
    · obtain ⟨t, ht, due⟩ := due
      unfold Dev.pwHoldEnd
      simp only [ht]
      exact if_pos due
    · unfold Dev.pwHoldEnd
      dsimp only
      split
      case h_1 t ht => exact if_neg fun due => idle ⟨t, ht, due⟩
      case h_2 => rfl

end Sys2Proof.Laws
end

section
/-! SUPPORT. Load channels, lamp pairs and the jury (chapter 12): the orders and queries, the events, and the table of R409. -/

namespace Sys2Proof.Laws

open Sys2Proof Sys2Proof.Machine

/-! ### Orders and queries (R427 to R431) -/

/-- No channel that LCH_SET names stands in its way. -/
theorem lchRefused_none {channels states : Nat} {d : Dev} (free : ∀ n, n < 12 → bitAt channels n = true →
    (bitAt states n = true → d.chKind n ≠ 0) ∧ (∀ p, d.pairOfCh n ≠ some (p, false)) ∧ d.isLock n = false) : d.lchRefused channels states = none := by
  unfold Dev.lchRefused
  rw [List.find?_eq_none]
  intro n hn blocks
  rw [Bool.and_eq_true, Bool.or_eq_true, Bool.or_eq_true] at blocks
  obtain ⟨named, (⟨fitted⟩ | pair) | lock⟩ := blocks
  · rw [Bool.and_eq_true, decide_eq_true_eq] at fitted
    exact (free n (List.mem_range.1 hn) named).1 fitted.1 fitted.2
  · split at pair
    case h_1 p hp => exact (free n (List.mem_range.1 hn) named).2.1 p hp
    case h_2 => exact Bool.false_ne_true pair
  · exact absurd lock (by rw [(free n (List.mem_range.1 hn) named).2.2]; decide)

theorem guardOffTest_pass {channels : Nat} {d : Dev} (free : d.load.testOrder = none)
    (fitted : ∀ n, n < 12 → bitAt channels n = true → d.chKind n ≠ 0) : d.guardOffTest channels = none := by
  refine refuseIf_pass _ _ ?_
  have none : ((List.range 12).any fun n => bitAt channels n && decide (d.chKind n = 0)) = false := by
    rw [List.any_eq_false]
    intro n hn
    rw [Bool.and_eq_true, decide_eq_true_eq]
    exact fun k => fitted n (List.mem_range.1 hn) k.1 k.2
  rw [none, free]
  rfl

theorem juryGuard_pass {pair mask map : Nat} {d : Dev} (range : juryRange pair mask map = none) (jury : d.load.jury = false) (still : d.inMotion = false)
    (checks : firstFailure [P.LCH_PAIR_ENABLE] (d.parWith (juryWrites pair mask map)) = none) : d.juryGuard pair mask map = none := by
  unfold Dev.juryGuard
  simp only [range, jury, still, checks, Bool.false_eq_true, if_false]

/-- Settles O40: each order's checks let it through, and each query answers. -/
theorem loadCommands : Obligations.LoadCommands := by
  unfold Obligations.LoadCommands
  refine ⟨fun h dt s => ⟨fun channels states => ?_, fun channels => ?_, fun channels => ?_, fun pair mask map => ?_⟩, fun h dt s => ⟨?_, ?_⟩⟩
  · exact runs_row rfl (fun d hd => congrArg (Option.map _) (lchRefused_none hd)) (fun _ _ _ => rfl)
  · exact runs_unchecked rfl (fun _ => rfl) (fun _ _ => rfl)
  · exact runs_row rfl (fun d hd => guardOffTest_pass hd.1 hd.2) (fun _ _ _ => rfl)
  · exact runs_row rfl (fun d hd => juryGuard_pass hd.1 hd.2.1 hd.2.2.1 hd.2.2.2) (fun _ _ _ => rfl)
  · exact runs_unchecked rfl (fun _ => rfl) (fun _ _ => rfl)
  · exact runs_unchecked rfl (fun _ => rfl) (fun _ _ => rfl)

/-! ### Events (R409 to R426) -/

theorem tripHolds_iff (d : Dev) (n cause : Nat) : d.tripHolds n cause = true ↔
    (d.ch n).on = true ∧ ((cause = 3 ∧ d.now < (d.ch n).inrushEnd) ∨ ((cause = 1 ∨ cause = 2) ∧ (d.ch n).inrushEnd ≤ d.now) ∨ cause = 4) := by
  unfold Dev.tripHolds
  rw [Bool.and_eq_true]
  refine and_congr_right fun _ => ?_
  by_cases hard : cause = 3
  · simp [hard]
  · by_cases soft : cause = 1 ∨ cause = 2
    · rcases soft with rfl | rfl <;> simp
    · simp [hard, soft]

/-- An off-state test is due by its order or by its period. -/
theorem offTest_skips (n mv : Nat) {d : Dev} (idle : ¬ (d.chKind n ≠ 0 ∧ (d.ch n).demand = false ∧ d.supply.vhv = true
    ∧ ((∃ slot mask results, d.load.testOrder = some (slot, mask, results) ∧ bitAt mask n = true)
      ∨ (d.parN (P.loadField n 6) = 1 ∧ ms 50 ≤ d.now - (d.ch n).demandOff ∧ ms (d.parN P.LCH_OFF_TEST_PERIOD) ≤ d.now - (d.ch n).testAt)))) :
    d.offTest n mv = d := by
  unfold Dev.offTest
  refine if_pos ?_
  by_contra k
  rw [not_or, not_or, not_or, not_not, not_not, Bool.not_eq_true] at k
  obtain ⟨fitted, off, power, due⟩ := k
  refine idle ⟨fitted, off, power, due.imp (fun ordered => ?_) (fun period => ?_)⟩
  · split at ordered
    case h_1 slot mask results order => exact ⟨slot, mask, results, order, ordered⟩
    case h_2 => exact absurd ordered Bool.false_ne_true
  · simpa only [Bool.and_eq_true, decide_eq_true_eq, and_assoc] using period

/-- A row of the supplied smart-power die acts where its own condition holds. -/
theorem powerRow {i : Instr} {dt : Nat} {s : State} {due : Dev → Prop} {effect f : Dev → Dev} (e : exec i s = onDev dt (Dev.whenPower f) s)
    (acts : ∀ d, due d → f d = effect d) (idles : ∀ d, ¬ due d → f d = d) : Acts i dt s (fun d => d.supply.vhv = true ∧ due d) effect :=
  acts_intro e (fun d hd => (whenPower_due f d hd.1).trans (acts d hd.2)) (fun d hd => whenPower_not f d fun up => idles d fun k => hd ⟨up, k⟩)

theorem powerAlways {i : Instr} {dt : Nat} {s : State} {f : Dev → Dev} (e : exec i s = onDev dt (Dev.whenPower f) s) :
    Acts i dt s (fun d => d.supply.vhv = true) f :=
  acts_intro e (fun d hd => whenPower_due f d hd) (fun d hd => whenPower_not f d fun up => absurd up hd)

/-- Settles O41: each event of the loads acts where its condition holds. -/
theorem loadEvents : Obligations.LoadEvents := by
  unfold Obligations.LoadEvents
  intro dt s
  refine ⟨leaves_intro (f := Dev.refreshLoads) rfl rfl, fun n cause current => ?_, fun n => ?_, fun n => ?_, fun n temp => ?_, ?_, fun n => ?_, fun n mv => ?_,
    fun n mv => ?_, fun level => ?_, fun i level => ?_, fun currents temps => ?_⟩
  · exact acts_unless (f := Dev.loadTrip n cause current) rfl (fun d => rfl) (fun d => not_not.trans (tripHolds_iff d n cause))
  · refine acts_intro (f := Dev.pauseEnds n) rfl (fun d due => ?_) (fun d idle => ?_)
    · obtain ⟨t, ht, due⟩ := due
      unfold Dev.pauseEnds
      simp only [ht]
      exact if_neg (Nat.not_lt.2 due)
    · unfold Dev.pauseEnds
      split
      case h_1 t ht => exact if_pos (Nat.not_le.1 fun due => idle ⟨t, ht, due⟩)
      case h_2 => rfl
  · exact acts_when (f := Dev.triesReset n) rfl (fun d => rfl) (fun d => Iff.rfl)
  · exact acts_when (f := Dev.thermalEnds n temp) rfl (fun d => rfl) (fun d => Iff.rfl)
  · exact powerAlways rfl
  · refine powerRow (f := Dev.lampDark n) rfl (fun d due => ?_) (fun d idle => ?_)
    · obtain ⟨on, dark⟩ := due
      by_cases low : 10 ≤ (d.ch n).below
      · exact (if_pos ⟨on, low⟩).trans (if_pos low).symm
      · exact (if_neg fun k => low k.2).trans ((if_pos ⟨on, dark.resolve_left low⟩).trans (if_neg low).symm)
    · exact (if_neg fun k => idle ⟨k.1, .inl k.2⟩).trans (if_neg fun k => idle ⟨k.1, .inr k.2⟩)
  · exact acts_intro (f := Dev.offTest n mv) rfl (fun d _ => rfl) (fun d => offTest_skips n mv)
  · refine liveRow (f := Dev.freewheelMissing n mv) rfl (fun d due => if_neg ?_) (fun d idle => if_pos ?_)
    · obtain ⟨fresh, off, low, late, switched⟩ := due
      rw [not_or, not_or, not_or, not_or, not_not, Nat.not_lt, Bool.not_eq_true, Bool.not_eq_true]
      exact ⟨fresh, off, low, late, switched⟩
    · by_contra k
      rw [not_or, not_or, not_or, not_or, not_not, Nat.not_lt, Bool.not_eq_true, Bool.not_eq_true] at k
      exact idle k
  · refine acts_intro (f := Dev.juryChange level) rfl (fun d due => (if_neg ?_).trans ?_) (fun d idle => if_pos ?_)
    · rw [not_or, not_not]
      exact due
    · exact congrArg Dev.refreshLoads (if_congr (Bool.not_eq_true _ ▸ Iff.rfl) rfl rfl)
    · by_contra k
      rw [not_or, not_not] at k
      exact idle k
  · refine acts_unless (f := Dev.jinChange i level) rfl (fun d => rfl) (fun d => ?_)
    rw [not_or, not_or, not_not, Nat.not_lt]
  · exact powerAlways rfl

/-! ### The table of R409 -/

/-- Rows 2, 4 to 7 and 9 of R409 as the first that applies. -/
theorem ownDemand_rows (d : Dev) (n : Nat) :
    d.ownDemand n = if d.supply.vhv = true ∧ d.chKind n ≠ 0 ∧ d.load.jury = true ∧ bitAt d.juryCopy.2.1 n = true then
      (2, d.load.jin.getD (d.jinOf n) false)
    else if d.live = false then (4, false)
    else if d.parN P.DOOR_LOCK_CHANNEL = n ∧ d.door.state ≠ 12 then (5, d.door.lockOn)
    else if bitAt (d.parN P.SYS_REEF1_SHED) n = true ∧ (1 ≤ d.supply.reef ∨ d.supply.dieHot.getD 1 false = true) ∧ d.parN P.DOOR_LOCK_CHANNEL ≠ n then (6, false)
    else if d.door.flashing = true ∧ bitAt (d.parN P.DOOR_WARN_MASK) n = true ∧ d.parN P.DOOR_LOCK_CHANNEL ≠ n then (7, d.door.flashOn)
    else (9, (d.ch n).order) := by
  unfold Dev.ownDemand Dev.juryDriven Dev.isLock Dev.shedCh Dev.flashCh
  simp only [Bool.and_eq_true, Bool.or_eq_true, decide_eq_true_eq, Bool.not_eq_true, and_assoc]

/-- The jury drives a channel exactly where row 2 decides. -/
theorem ownDemand_jury (d : Dev) (n : Nat) : (d.ownDemand n).1 = 2 ↔ d.juryDriven n = true := by
  unfold Dev.ownDemand
  split_ifs <;> simp_all

/-- The pair of a channel is that of its number. -/
theorem pairOfCh_number {d : Dev} {n q : Nat} {first : Bool} (h : d.pairOfCh n = some (q, first)) : q = (n - 8) / 2 := by
  unfold Dev.pairOfCh at h
  split at h
  · exact absurd h (by simp)
  · dsimp only at h
    split at h
    · exact (congrArg Prod.fst (Option.some.inj h)).symm
    · exact absurd h (by simp)

/-- The rows of R409 on a supplied channel of a kind, through the pair of R422. -/
theorem demandRow_on {d : Dev} {n : Nat} (power : d.supply.vhv = true) (fitted : d.chKind n ≠ 0) :
    d.demandRow n = (match d.pairOfCh n with
      | some (p, false) =>
        if ¬ d.juryDriven n ∧ ((d.ch (primaryOf p)).failed ∨ (d.ch n).lit) then (3, (d.ownDemand (primaryOf p)).2) else d.ownDemand n
      | some (_, true) => if (d.ownDemand n).1 = 9 ∧ ((d.ch n).failed ∨ (d.ch (n + 1)).lit) then (8, false) else d.ownDemand n
      | none => d.ownDemand n) := by
  unfold Dev.demandRow
  refine (if_neg (by simp [power, fitted])).trans ?_
  cases d.pairOfCh n with
  | none => rfl
  | some pair =>
    obtain ⟨p, first⟩ := pair
    cases first <;> rfl

/-- Settles O42: the channel's own rows, before them the carried demand of a secondary, behind them the one handed on by a primary. -/
theorem demandTable : Obligations.DemandTable := by
  unfold Obligations.DemandTable
  intro d n p secondary primary carried handed own
  have rows (m : Nat) : d.ownDemand m = own m := ownDemand_rows d m
  have jury : (own n).1 = 2 ↔ d.juryDriven n = true := rows n ▸ ownDemand_jury d n
  have order : (own n).1 = 9 → own n = (9, (d.ch n).order) := fun k =>
    Prod.ext k (rows n ▸ ownDemand_of_row9 d n (rows n ▸ k))
  clear_value own
  refine ⟨fun off => ?_, fun power fitted => ?_⟩
  · unfold Dev.demandRow
    exact if_pos (off.imp (fun k => by simp [k]) id)
  · have table := demandRow_on power fitted
    rcases hpair : d.pairOfCh n with _ | ⟨q, _ | _⟩
    · simp only [hpair] at table
      have single (first : Bool) : ¬ ∃ q, d.pairOfCh n = some (q, first) := by simp [hpair]
      rw [table, rows]
      exact ⟨fun _ => rfl, fun _ carries => absurd carries.1 (single false), fun _ _ => rfl, fun _ _ hands => absurd hands.1 (single true),
        fun nine _ _ => order nine⟩
    · simp only [hpair] at table
      rw [table, pairOfCh_number hpair, rows, rows]
      have isSecondary : secondary := ⟨q, hpair⟩
      have notPrimary : ¬ primary := by simp [primary, hpair]
      exact ⟨fun two => if_neg fun k => k.1 (jury.1 two), fun two carries => if_pos ⟨mt jury.2 two, carries.2⟩,
        fun _ free => if_neg fun k => free ⟨isSecondary, k.2⟩, fun _ _ hands => absurd hands.1 notPrimary,
        fun nine free _ => (if_neg fun k => free ⟨isSecondary, k.2⟩).trans (order nine)⟩
    · simp only [hpair] at table
      rw [table, rows]
      have isPrimary : primary := ⟨q, hpair⟩
      have notSecondary : ¬ secondary := by simp [secondary, hpair]
      exact ⟨fun two => if_neg fun k => absurd (two.symm.trans k.1) (by decide), fun _ carries => absurd carries.1 notSecondary,
        fun nine _ => if_neg fun k => nine k.1, fun nine _ hands => if_pos ⟨nine, hands.2⟩,
        fun nine _ keeps => (if_neg fun k => keeps ⟨isPrimary, k.2⟩).trans (order nine)⟩

end Sys2Proof.Laws
end

section
/-! SUPPORT. Binnacle (chapter 13): its commands and events, class A faults, the safe outputs and the seal. -/

namespace Sys2Proof.Laws

open Sys2Proof Sys2Proof.Machine

/-! ### Commands (R479 to R485) -/

theorem guardSeal_pass {value grade : Nat} {d : Dev} (still : d.inMotion = false) (checks : d.sealChecks = none) (agrees : d.imageAgrees = true)
    (fault : d.bin.classA = false) (test : d.bin.selfTest = true) (own : grade = Config.grade % 256) (same : value = d.sealOver d.storedValues) :
    d.guardSeal value grade = none := by
  unfold Dev.guardSeal
  rw [refuseIf_pass _ _ still]
  simp only [checks]
  refine (refuseIf_pass _ _ (by rw [agrees]; rfl)).trans ((refuseIf_pass _ _ (by rw [fault, test]; rfl)).trans ?_)
  exact (refuseIf_pass _ _ (decide_eq_false (not_not.2 own))).trans (refuseIf_pass _ _ (decide_eq_false (not_not.2 same)))

/-- Settles O46: each order's checks let it through, and each query answers. -/
theorem binnacleCommands : Obligations.BinnacleCommands := by
  unfold Obligations.BinnacleCommands
  intro h dt s
  refine ⟨?_, fun value grade => ?_, ?_, ?_, ?_, ?_, ?_⟩
  · exact runs_unchecked rfl (fun _ => rfl) (fun _ _ => rfl)
  · refine runs_row rfl (fun d hd => ?_) (fun _ _ _ => rfl)
    obtain ⟨still, checks, agrees, fault, test, own, same⟩ := hd
    exact guardSeal_pass still checks agrees fault test own same
  · exact runs_unchecked rfl (fun _ => rfl) (fun _ _ => rfl)
  · exact runs_unchecked rfl (fun _ => rfl) (fun _ _ => rfl)
  · exact runs_unchecked rfl (fun _ => rfl) (fun _ _ => rfl)
  · exact runs_unchecked rfl (fun _ => rfl) (fun _ _ => rfl)
  · exact runs_row rfl (fun d hd => refuseIf_pass _ _ hd) (fun _ _ _ => rfl)

/-! ### Events (R439 to R466) -/

/-- A row of Binnacle acts where its own condition holds. -/
theorem binRow {i : Instr} {dt : Nat} {s : State} {due : Dev → Prop} {effect f : Dev → Dev} (e : exec i s = onDev dt (Dev.whenBin f) s)
    (acts : ∀ d, due d → f d = effect d) (idles : ∀ d, ¬ due d → f d = d) : Acts i dt s (fun d => d.binRuns = true ∧ due d) effect :=
  acts_intro e (fun d hd => (whenBin_due f d hd.1).trans (acts d hd.2)) (fun d hd => whenBin_not f d fun up => idles d fun k => hd ⟨up, k⟩)

/-- A row of Binnacle without a condition of its own. -/
theorem binAlways {i : Instr} {dt : Nat} {s : State} {effect f : Dev → Dev} (e : exec i s = onDev dt (Dev.whenBin f) s) (acts : ∀ d, f d = effect d) :
    Acts i dt s (fun d => d.binRuns = true) effect :=
  acts_intro e (fun d hd => (whenBin_due f d hd).trans (acts d)) (fun d hd => whenBin_not f d fun up => absurd up hd)

/-- The check of a channel in a window, as its own conditions (R440, R442). -/
theorem window_eq (w : SafeChannel) {p : Prop} {inst : Decidable p} (high : Bool) :
    w.window (decide p) high = if ¬ p then w else if high = true then { w with testFault := true, passes := 0 }
      else if w.testFault = true then { w with passes := w.passes + 1 } else w := by
  unfold SafeChannel.window
  simp only [decide_eq_true_eq]

/-- An off-pulse is due on an energised output that carries its current, 100 ms after the last. -/
theorem pulseOut_due {o current : Nat} {d : Dev} (one : o ≤ 1) (energised : (d.bin.out o).energised = true) (carries : 2000 ≤ (d.bin.out o).current)
    (late : ms 100 ≤ d.now - (d.bin.out o).pulsed) : d.pulseOut o current = (
      let b := (d.bin.out o).turnB
      if 1000 ≤ current then
        let t := (d.modOut o fun w => { w with stuckA := w.stuckA || !w.turnB, stuckB := w.stuckB || w.turnB, fault := true, pulsed := d.now }).openOut o
        (t.modBin fun n => { n with faults := setBit n.faults (5 + o) }).onset 163 3 o (u8 (bit b))
      else d.modOut o fun w => { w with pulses := satU 32 (w.pulses + 1), turnB := !w.turnB, pulsed := d.now }) :=
  (if_pos late).trans (if_neg fun k => k.elim (not_not.2 energised) fun k => k.elim (Nat.not_lt.2 one) (Nat.not_lt.2 carries))

theorem pulseOut_idle {o current : Nat} {d : Dev} (idle : ¬ (o ≤ 1 ∧ (d.bin.out o).energised = true ∧ 2000 ≤ (d.bin.out o).current
    ∧ ms 100 ≤ d.now - (d.bin.out o).pulsed)) : d.pulseOut o current = d := by
  by_cases late : ms 100 ≤ d.now - (d.bin.out o).pulsed
  · refine (if_pos late).trans (if_pos ?_)
    by_contra k
    rw [not_or, not_or, not_not, Nat.not_lt, Nat.not_lt] at k
    exact idle ⟨k.2.1, k.1, k.2.2, late⟩
  · exact if_neg late

theorem loopOpen_due {o t : Nat} {d : Dev} (low : (d.bin.out o).lowSince = some t) (late : sec 1 ≤ d.now - t) (energised : (d.bin.out o).energised = true)
    (fresh : (d.bin.out o).loopOpen = false) :
    d.loopOpen o = (d.modOut o fun w => { w with loopOpen := true }).onset 164 1 o (u16 (satU 16 (d.bin.out o).current)) := by
  unfold Dev.loopOpen
  simp only [low]
  exact if_pos ⟨energised, late, Bool.eq_false_iff.1 fresh⟩

theorem loopOpen_idle {o : Nat} {d : Dev} (idle : ¬ ((∃ t, (d.bin.out o).lowSince = some t ∧ sec 1 ≤ d.now - t) ∧ (d.bin.out o).energised = true
    ∧ (d.bin.out o).loopOpen = false)) : d.loopOpen o = d := by
  unfold Dev.loopOpen
  dsimp only
  split
  case h_1 t low => exact if_neg fun k => idle ⟨⟨t, low, k.2.1⟩, k.1, Bool.eq_false_iff.2 k.2.2⟩
  case h_2 => rfl

theorem loopLimit_idle {o current : Nat} {d : Dev} (idle : ¬ (o ≤ 1 ∧ (d.bin.out o).energised = true)) : d.loopLimit o current = d := by
  refine if_pos ?_
  by_contra k
  rw [not_or, not_not, Nat.not_lt] at k
  exact idle k

/-- The edge of a step of one sector, by its direction. -/
theorem edgeOfStep (step : Nat) (d other : Dev) :
    (if step = 1 ∨ step = 5 then d.binEdge ((step = 1) = (d.par P.BIN_HALL_SENSE = 0)) else if step = 0 then d else other)
      = if step = 1 then d.binEdge (d.par P.BIN_HALL_SENSE = 0) else if step = 5 then d.binEdge (d.par P.BIN_HALL_SENSE ≠ 0)
        else if step = 0 then d else other := by
  by_cases one : step = 1
  · simp [one]
  · by_cases five : step = 5
    · simp [five]
    · simp [one, five]

/-- A changed Hall code on Binnacle's path, by the sectors it leads between (R275, R462). -/
theorem binHall_changed {code : Nat} {d : Dev} (changed : d.bin.hallCode ≠ code) : d.binHall code = (
      let b := d.bin
      let d := d.modBin fun b => { b with hallCode := code }
      match hallSector code with
      | none => (d.modBin fun b => { b with illegalProved := b.illegalProved || b.out0.energised, interval := none }).speedUnproven
      | some n =>
        let d := d.modBin fun b => { b with sector := some n }
        match b.sector with
        | none => d
        | some old =>
          if (n + 6 - old) % 6 = 1 then d.binEdge (d.par P.BIN_HALL_SENSE = 0)
          else if (n + 6 - old) % 6 = 5 then d.binEdge (d.par P.BIN_HALL_SENSE ≠ 0)
          else if (n + 6 - old) % 6 = 0 then d
          else d.modBin fun b => { b with lastEdge := d.now, anyEdge := true, interval := none, legalEdges := 0 }) := by
  refine (if_neg changed).trans ?_
  dsimp only
  cases hallSector code with
  | none => rfl
  | some n =>
    cases d.bin.sector with
    | none => rfl
    | some old =>
      exact edgeOfStep _ _ _

theorem judgeUnproven_due {d : Dev} {t : Nat} (demanded : d.bin.demandSince = some t) (proven : d.bin.unproven = false)
    (late : ms 100 ≤ d.now - (if d.bin.anyEdge = true then max t d.bin.lastEdge else t)) : d.judgeUnproven = d.speedUnproven := by
  unfold Dev.judgeUnproven
  simp only [demanded]
  exact if_pos ⟨late, Bool.eq_false_iff.1 proven⟩

theorem judgeUnproven_idle {d : Dev} (idle : ¬ (d.bin.unproven = false
    ∧ ∃ t, d.bin.demandSince = some t ∧ ms 100 ≤ d.now - (if d.bin.anyEdge = true then max t d.bin.lastEdge else t))) : d.judgeUnproven = d := by
  unfold Dev.judgeUnproven
  split
  case h_1 t demanded => exact if_neg fun k => idle ⟨Bool.eq_false_iff.2 k.2, t, demanded, k.1⟩
  case h_2 => rfl

/-- A report passes with its check and the number that follows the last. -/
theorem takeReport_eq (seq : Nat) (ok : Bool) (d : Dev) : d.takeReport seq ok = (
      let r := d.bin.report
      if ok = true ∧ (∀ q, r.seq = some q → seq % 256 = (q + 1) % 256) then
        let t : Dev := { d with
          door := { d.door with withdrawFlag := none }
          bin := { d.bin with report := { r with
            seq := some (seq % 256), fresh := true, door := d.door.state, step := d.door.step, leafMotion := d.leafMotion, stepMotion := d.stepMotion } } }
        match d.door.withdrawFlag with
        | some cause => t.modBin fun b => { b with withdrawals := b.withdrawals + 1, withdrawCause := cause }
        | none => t
      else d.modBin fun b => { b with report := { r with seq := some (seq % 256) }, reportErrors := satU 16 (b.reportErrors + 1) }) := by
  have passes : (ok && (match d.bin.report.seq with | some q => decide (seq % 256 = (q + 1) % 256) | none => true)) = true
      ↔ ok = true ∧ ∀ q, d.bin.report.seq = some q → seq % 256 = (q + 1) % 256 := by
    rw [Bool.and_eq_true]
    refine and_congr_right fun _ => ?_
    cases d.bin.report.seq with
    | none => simp
    | some q => simp
  by_cases pass : ok = true ∧ ∀ q, d.bin.report.seq = some q → seq % 256 = (q + 1) % 256
  · exact (if_neg (not_not.2 (passes.2 pass))).trans (if_pos pass).symm
  · exact (if_pos fun k => pass (passes.1 k)).trans (if_neg pass).symm

/-- A diagnostic that fails is judged while the device runs. -/
theorem diagnosticFails_due {n : Nat} {d : Dev} (nine : n ≤ 9) (not5 : n ≠ 5) (not6 : n ≠ 6) (started : 0 < d.supply.step) (mode : d.supply.mode = 0) :
    d.diagnosticFails n = (
      let t := d.classAFault n
      if n = 0 ∨ n = 1 ∨ n = 2 ∨ n = 4 then t.enterReset [9]
      else if n = 3 then t.drawBit.2.enterReset [if t.drawBit.1 = true then 9 else 4]
      else t) :=
  if_neg fun k => k.elim not5 fun k => k.elim not6 fun k => k.elim (Nat.not_lt.2 nine) fun k => k.elim (not_not.2 started) (not_not.2 mode)

theorem diagnosticFails_idle {n : Nat} {d : Dev} (idle : ¬ (n ≤ 9 ∧ n ≠ 5 ∧ n ≠ 6 ∧ 0 < d.supply.step ∧ d.supply.mode = 0)) : d.diagnosticFails n = d := by
  refine if_pos ?_
  by_contra k
  rw [not_or, not_or, not_or, not_or, not_not, not_not, Nat.not_lt] at k
  obtain ⟨not5, not6, nine, started, mode⟩ := k
  exact idle ⟨nine, not5, not6, started, mode⟩

theorem started_of_binRuns {d : Dev} (runs : d.binRuns = true) : 0 < d.supply.step ∧ d.supply.mode = 0 := by
  unfold Dev.binRuns at runs
  rw [Bool.and_eq_true, decide_eq_true_eq, decide_eq_true_eq] at runs
  exact ⟨Nat.lt_of_lt_of_le (by decide) runs.1, runs.2⟩

/-- A memory test of Binnacle that ends: it is counted, or its class A fault resets the device (R466). -/
theorem testEnds {i : Instr} {dt n : Nat} {s : State} {f effect counted : Dev → Dev} {ok : Bool} (e : exec i s = onDev dt (Dev.whenBin f) s)
    (hf : ∀ d, f d = if ok = true then counted d else d.diagnosticFails n) (hn : n = 1 ∨ n = 2)
    (he : ∀ d, effect d = if ok = true then counted d else (d.classAFault n).enterReset [9]) :
    Acts i dt s (fun d => d.binRuns = true) effect := by
  refine acts_intro e (fun d runs => (whenBin_due f d runs).trans ((hf d).trans (Eq.trans ?_ (he d).symm))) (fun d hd => whenBin_not f d fun up => absurd up hd)
  obtain ⟨started, mode⟩ := started_of_binRuns runs
  refine if_congr Iff.rfl rfl ((diagnosticFails_due (by omega) (by omega) (by omega) started mode).trans (if_pos ?_))
  exact .inr (hn.imp_right .inl)

/-- Settles O47: each of Binnacle's events acts where its condition holds. -/
theorem binnacleEvents : Obligations.BinnacleEvents := by
  unfold Obligations.BinnacleEvents
  intro dt s
  refine ⟨fun seen => ?_, fun seen d runs => ?_, fun tpo mv reads => ?_, fun o current => ?_, fun o => ?_, fun o current => ?_, ?_, fun code => ?_, ?_, ?_, ?_,
    fun seq ok => ?_, fun n => ?_, fun ok => ?_, fun ok => ?_⟩
  · exact binAlways (f := Dev.tick seen) rfl (fun d => rfl)
  · exact if_neg (not_not.2 runs)
  · refine binAlways (f := Dev.testWindow tpo mv reads) rfl (fun d => ?_)
    unfold Dev.testWindow
    simp only [window_eq, Bool.and_eq_true, decide_eq_true_eq]
  · refine binRow (f := Dev.pulseOut o current) rfl (fun d due => ?_) (fun d idle => pulseOut_idle idle)
    obtain ⟨one, energised, carries, late⟩ := due
    exact pulseOut_due one energised carries late
  · refine binRow (f := Dev.loopOpen o) rfl (fun d due => ?_) (fun d idle => loopOpen_idle idle)
    obtain ⟨⟨t, low, late⟩, energised, fresh⟩ := due
    exact loopOpen_due low late energised fresh
  · exact binRow (f := Dev.loopLimit o current) rfl
      (fun d due => if_neg fun k => k.elim (Nat.not_lt.2 due.1) (not_not.2 due.2)) (fun d idle => loopLimit_idle idle)
  · refine binRow (f := Dev.dragClear) rfl (fun d due => ?_) (fun d idle => ?_)
    · obtain ⟨t, still, late⟩ := due
      unfold Dev.dragClear
      simp only [still]
      exact if_pos late
    · unfold Dev.dragClear
      split
      case h_1 t still => exact if_neg fun late => idle ⟨t, still, late⟩
      case h_2 => rfl
  · exact binRow (f := Dev.binHall code) rfl (fun d due => binHall_changed due) (fun d idle => if_pos (not_not.1 idle))
  · exact binRow (f := Dev.edgeSilence) rfl (fun d due => if_neg (Nat.not_lt.2 due)) (fun d idle => if_pos (Nat.not_le.1 idle))
  · refine binRow (f := Dev.judgeUnproven) rfl (fun d due => ?_) (fun d idle => judgeUnproven_idle idle)
    obtain ⟨proven, t, demanded, late⟩ := due
    exact judgeUnproven_due demanded proven late
  · refine binRow (f := Dev.unprovenTooLong) rfl (fun d due => if_pos ?_) (fun d idle => if_neg ?_)
    · obtain ⟨unproven, free, late⟩ := due
      exact ⟨unproven, Bool.eq_false_iff.1 free, late⟩
    · exact fun k => idle ⟨k.1, Bool.eq_false_iff.2 k.2.1, k.2.2⟩
  · exact binAlways (f := Dev.takeReport seq ok) rfl (fun d => takeReport_eq seq ok d)
  · refine acts_intro (f := Dev.diagnosticFails n) rfl (fun d due => ?_) (fun d idle => diagnosticFails_idle idle)
    obtain ⟨nine, not5, not6, started, mode⟩ := due
    exact diagnosticFails_due nine not5 not6 started mode
  · exact testEnds (f := Dev.marchDone ok) rfl (fun d => rfl) (.inl rfl) (fun d => rfl)
  · exact testEnds (f := Dev.crcDone ok) rfl (fun d => rfl) (.inr rfl) (fun d => rfl)

/-! ### The safe outputs (R447, R452, R456, R466) -/

/-- The device but for its safe outputs and the count of the proving time. -/
def besideOuts (d : Dev) : Dev := { d with bin := { d.bin with out0 := {}, out1 := {}, prove := 0, netProved := 0, illegalProved := false } }

theorem openOut_beside (o : Nat) (d : Dev) : besideOuts (d.openOut o) = besideOuts d := by
  unfold Dev.openOut Dev.modOut
  by_cases zero : o = 0
  · simp only [zero, if_true]
    split <;> rfl
  · simp only [zero, if_false]
    split <;> rfl

theorem closeOut_beside (o : Nat) (d : Dev) : besideOuts (d.closeOut o) = besideOuts d := by
  unfold Dev.closeOut Dev.modOut
  by_cases zero : o = 0
  · simp only [zero, if_true]
    split <;> rfl
  · simp only [zero, if_false]
    split <;> rfl

theorem openOut_opens (o : Nat) (d : Dev) : ((d.openOut o).bin.out o).energised = false := by
  unfold Dev.openOut Dev.modOut Binnacle.out
  by_cases zero : o = 0
  · subst zero
    simp only [if_true]
    split
    case isTrue => rfl
    case isFalse h => exact Bool.eq_false_iff.2 h
  · simp only [zero, if_false]
    split
    case isTrue => rfl
    case isFalse h => exact Bool.eq_false_iff.2 h

theorem openOut0_out1 (d : Dev) : (d.openOut 0).bin.out1 = d.bin.out1 := by
  unfold Dev.openOut Dev.modOut
  simp only [if_true]
  split <;> rfl

theorem openOut1_out0 (d : Dev) : (d.openOut 1).bin.out0 = d.bin.out0 := by
  unfold Dev.openOut Dev.modOut
  simp only [Nat.one_ne_zero, if_false]
  split <;> rfl

theorem openOut0_prove (d : Dev) : (d.openOut 0).bin.prove = 0 := by
  unfold Dev.openOut Dev.modOut
  simp only [if_true]
  split <;> rfl

theorem closeOut0_closes (d : Dev) : (d.closeOut 0).bin.out0.energised = true := by
  unfold Dev.closeOut Dev.modOut Binnacle.out
  simp only [if_true]
  split
  case isTrue h => exact h
  case isFalse => rfl

theorem closeOut0_keeps (d : Dev) : (d.closeOut 0).bin.out1 = d.bin.out1 ∧ (d.closeOut 0).bin.prove = d.bin.prove := by
  unfold Dev.closeOut Dev.modOut
  simp only [if_true]
  split
  · exact ⟨rfl, rfl⟩
  · exact ⟨rfl, rfl⟩

theorem closeOut1_closes (d : Dev) : (d.closeOut 1).bin.out1.energised = true := by
  unfold Dev.closeOut Dev.modOut Binnacle.out
  simp only [Nat.one_ne_zero, if_false]
  split
  case isTrue h => exact h
  case isFalse => rfl

theorem closeOut1_out0 (d : Dev) : (d.closeOut 1).bin.out0 = d.bin.out0 := by
  unfold Dev.closeOut Dev.modOut
  simp only [Nat.one_ne_zero, if_false]
  split <;> rfl

/-- Both safe outputs open, as a class A fault and the loss of the seal leave them. -/
theorem openBoth_opens (d : Dev) : (((d.openOut 0).openOut 1).bin.out 0).energised = false ∧ (((d.openOut 0).openOut 1).bin.out 1).energised = false :=
  ⟨(congrArg SafeOutput.energised (openOut1_out0 (d.openOut 0))).trans (openOut_opens 0 d), openOut_opens 1 (d.openOut 0)⟩

theorem openBoth_beside (d : Dev) : besideOuts ((d.openOut 0).openOut 1) = besideOuts d := (openOut_beside ..).trans (openOut_beside ..)

/-- The device with a class A fault noted, before it is told. -/
def faultNoted (n : Nat) (d : Dev) : Dev :=
  d.modBin fun b => { b with faults := setBit b.faults n, classA := true, reportLost := b.reportLost || decide (n = 8) }

theorem classAFault_eq (n : Nat) (d : Dev) : d.classAFault n = (faultNoted n ((d.openOut 0).openOut 1)).onset 170 3 0xFF
    (u16 (faultNoted n ((d.openOut 0).openOut 1)).bin.faults) := rfl

/-- Settles O48: the outputs open first, and the fault is then noted and stands. -/
theorem classAFault : Obligations.ClassAFault := by
  unfold Obligations.ClassAFault
  intro n d t
  have opens := openBoth_opens d
  have beside := openBoth_beside d
  have eq : t = _ := classAFault_eq n d
  clear_value t
  subst eq
  revert opens beside
  generalize (d.openOut 0).openOut 1 = b
  intro opens beside
  simp only [Dev.onset_bin, Dev.onset_door, Dev.onset_leaf, Dev.onset_step, Dev.onset_drive, Dev.onset_load, Dev.onset_bus, Dev.onset_chron]
  have kept {α : Type} (f : Dev → α) (look : ∀ e, f (besideOuts e) = f e) : f b = f d := by rw [← look b, beside, look d]
  refine ⟨opens.1, opens.2, ?_, rfl, ?_, ?_, fun mode => ?_, kept Dev.door fun _ => rfl, kept Dev.leaf fun _ => rfl, kept Dev.step fun _ => rfl,
    kept Dev.drive fun _ => rfl, kept Dev.load fun _ => rfl, kept Dev.bus fun _ => rfl, kept Dev.chron fun _ => rfl⟩
  · show (_ || true || _) = true
    rw [Bool.or_true, Bool.true_or]
  · refine (testBit_setBit _ _ _).trans ?_
    rw [decide_eq_true rfl, Bool.true_or]
  · rw [onset_stands]
    exact Bool.or_true _
  · unfold Dev.faultN
    rw [Dev.onset_bin, Dev.onset_supply]
    have same : (faultNoted n b).supply.mode = 0 := (kept (·.supply.mode) fun _ => rfl).trans mode
    rw [same]
    show (true && (_ || true || _)) = true
    rw [Bool.or_true, Bool.true_or, Bool.and_true]

/-- SOUT0's count and hold at a tick, before it opens or closes. -/
def provedDev (d : Dev) : Dev :=
  (d.modBin fun b => { b with conds := bitsOf d.proveConds, prove := if d.proveConds.all id then b.prove + 1 else 0 }).modOut 0
    fun _ => (d.bin.out0.mayClose (d.proveConds.all id) d.now (d.parN P.BIN_PROVE_TIME)).2

theorem tickProved_eq (d : Dev) : d.tickProved =
    if ¬ d.proveConds.all id = true ∨ ¬ d.outPower = true then (provedDev d).openOut 0
    else if (d.bin.out0.mayClose (d.proveConds.all id) d.now (d.parN P.BIN_PROVE_TIME)).1 = true ∧ d.parN P.BIN_PROVE_TIME ≤ (provedDev d).bin.prove then
      (provedDev d).closeOut 0
    else provedDev d := rfl

theorem mayClose_energised (s : SafeOutput) (conds : Bool) (now time : Nat) : (s.mayClose conds now time).2.energised = s.energised := by
  unfold SafeOutput.mayClose
  split <;> rfl

/-- Without a hold an output may close with its conditions. -/
theorem mayClose_free {s : SafeOutput} (conds : Bool) (now time : Nat) (free : s.holdUntil = none) : (s.mayClose conds now time).1 = conds := by
  unfold SafeOutput.mayClose
  rw [free]

theorem mayClose_conds {s : SafeOutput} {conds : Bool} {now time : Nat} (may : (s.mayClose conds now time).1 = true) : conds = true := by
  unfold SafeOutput.mayClose at may
  split at may
  · exact may
  · simp only [Bool.and_eq_true] at may
    exact may.1.1

theorem outPower_iff (d : Dev) : d.outPower = true ↔ d.supply.vhv = true ∧ d.supply.reef < 4 := by
  unfold Dev.outPower
  rw [Bool.and_eq_true, decide_eq_true_eq]

/-- SOUT0 at a tick: what holds of it once it has been judged. -/
theorem tickProved_outcome (d : Dev) :
    let t := d.tickProved
    let all := d.proveConds.all id
    let time := d.parN P.BIN_PROVE_TIME
    (t.bin.out0.energised = true → all = true ∧ d.outPower = true ∧ (d.bin.out0.energised = true ∨ time ≤ d.bin.prove + 1))
      ∧ (all = false ∨ ¬ d.outPower = true → t.bin.out0.energised = false ∧ t.bin.prove = 0)
      ∧ (all = true → d.outPower = true → t.bin.prove = d.bin.prove + 1 ∧ (d.bin.out0.energised = true → t.bin.out0.energised = true)
        ∧ (d.bin.out0.holdUntil = none → time ≤ d.bin.prove + 1 → t.bin.out0.energised = true))
      ∧ t.bin.out1 = d.bin.out1 := by
  intro t all time
  have still : (provedDev d).bin.out0.energised = d.bin.out0.energised := mayClose_energised ..
  have beside : (provedDev d).bin.out1 = d.bin.out1 := rfl
  have eq : t = _ := tickProved_eq d
  have count : (provedDev d).bin.prove = if all = true then d.bin.prove + 1 else 0 := rfl
  clear_value t
  by_cases shut : ¬ all = true ∨ ¬ d.outPower = true
  · rw [if_pos shut] at eq
    have opened : t.bin.out0.energised = false := eq ▸ openOut_opens 0 _
    have idle (h : all = true) (power : d.outPower = true) : False := shut.elim (fun k => k h) (fun k => k power)
    exact ⟨fun k => absurd k (Bool.eq_false_iff.1 opened), fun _ => ⟨opened, eq ▸ openOut0_prove _⟩, fun h power => (idle h power).elim,
      eq ▸ (openOut0_out1 _).trans beside⟩
  · rw [if_neg shut] at eq
    rw [not_or, not_not, not_not] at shut
    obtain ⟨holds, power⟩ := shut
    rw [if_pos holds] at count
    have never (k : all = false ∨ ¬ d.outPower = true) : False := k.elim (fun k => Bool.eq_false_iff.1 k holds) (fun k => k power)
    by_cases may : (d.bin.out0.mayClose all d.now time).1 = true ∧ time ≤ (provedDev d).bin.prove
    · rw [if_pos may] at eq
      have closed : t.bin.out0.energised = true := eq ▸ closeOut0_closes _
      exact ⟨fun _ => ⟨holds, power, .inr (count ▸ may.2)⟩, fun k => (never k).elim,
        fun _ _ => ⟨eq ▸ (closeOut0_keeps _).2.trans count, fun _ => closed, fun _ _ => closed⟩, eq ▸ (closeOut0_keeps _).1.trans beside⟩
    · rw [if_neg may] at eq
      subst eq
      refine ⟨fun k => ⟨holds, power, .inl (still ▸ k)⟩, fun k => (never k).elim, fun _ _ => ⟨count, fun k => still ▸ k, fun free due => ?_⟩, beside⟩
      exact absurd ⟨(mayClose_free _ _ _ free).trans holds, count ▸ due⟩ may

/-- The conditions of SOUT1 (R450, R456). -/
def tractionConds (d : Dev) : Bool :=
  d.bin.isSealed && d.ready && !d.bin.classA && !d.bin.out1.fault && d.par P.BIN_SOUT1_ENABLE = 1 && !d.bin.drag

theorem tractionConds_iff (d : Dev) : tractionConds d = true ↔ d.bin.isSealed = true ∧ 13 ≤ d.supply.step ∧ d.bin.classA = false ∧ d.bin.out1.fault = false
    ∧ d.par P.BIN_SOUT1_ENABLE = 1 ∧ d.bin.drag = false := by
  unfold tractionConds Dev.ready
  simp only [Bool.and_eq_true, Bool.not_eq_true', decide_eq_true_eq, and_assoc]

/-- SOUT1's hold at a tick, before it opens or closes. -/
def tractionDev (d : Dev) : Dev := d.modOut 1 fun _ => (d.bin.out1.mayClose (tractionConds d) d.now (d.parN P.BIN_PROVE_TIME)).2

theorem tickTraction_eq (d : Dev) : d.tickTraction =
    if ¬ tractionConds d = true ∨ ¬ d.outPower = true then (tractionDev d).openOut 1
    else if (d.bin.out1.mayClose (tractionConds d) d.now (d.parN P.BIN_PROVE_TIME)).1 = true then (tractionDev d).closeOut 1 else tractionDev d := rfl

theorem tickTraction_beside (d : Dev) : besideOuts d.tickTraction = besideOuts d := by
  rw [tickTraction_eq, apply_ite besideOuts, apply_ite besideOuts, openOut_beside, closeOut_beside, ite_self, ite_self]
  rfl

theorem tickTraction_out0 (d : Dev) : d.tickTraction.bin.out0 = d.bin.out0 := by
  rw [tickTraction_eq]
  split
  · exact openOut1_out0 _
  · split
    · exact closeOut1_out0 _
    · rfl

theorem tickTraction_shut {d : Dev} (shut : ¬ tractionConds d = true ∨ ¬ d.outPower = true) : d.tickTraction.bin.out1.energised = false :=
  (congrArg (fun e : Dev => e.bin.out1.energised) ((tickTraction_eq d).trans (if_pos shut))).trans (openOut_opens 1 _)

theorem tickTraction_closes {d : Dev} (conds : tractionConds d = true) (power : d.outPower = true) (free : d.bin.out1.holdUntil = none) :
    d.tickTraction.bin.out1.energised = true := by
  have open' : ¬ (¬ tractionConds d = true ∨ ¬ d.outPower = true) := fun k => k.elim (fun k => k conds) (fun k => k power)
  rw [tickTraction_eq, if_neg open', if_pos ((mayClose_free _ _ _ free).trans conds)]
  exact closeOut1_closes _

/-- A telegram of a kind leaves Binnacle as it is. -/
theorem handOver_bin (x : Nat) (e : DeviceFrame) (drag : Bool) (d : Dev) : (d.handOver x e drag).bin = d.bin := by
  have cancelled (s : SendObject) (slot status : Nat) (d : Dev) : (d.cancelSend x s slot status).bin = d.bin := by
    unfold Dev.cancelSend
    rw [Dev.reply_bin, Dev.reply_bin, Dev.setBus_bin]
  unfold Dev.handOver
  dsimp only
  split
  case isTrue => rfl
  case isFalse =>
    split
    case h_2 => rfl
    case h_1 =>
      split
      case isFalse => rfl
      case isTrue =>
        split
        case h_2 => rfl
        case h_1 =>
          split
          · exact cancelled ..
          · rfl

theorem sendKind_bin (kind : Nat) (d : Dev) : (d.sendKind kind).bin = d.bin := by
  unfold Dev.sendKind
  split
  case h_2 => rfl
  case h_1 =>
    unfold Dev.sendTelegram
    dsimp only
    split
    · rfl
    · exact handOver_bin ..

theorem recFlag_bin (n : Nat) (d : Dev) : (d.recFlag n).bin = d.bin := by
  unfold Dev.recFlag
  dsimp only
  split <;> rfl

theorem trigger_bin (code source : Nat) (d : Dev) : (d.trigger code source).bin = d.bin :=
  (congrArg Dev.bin (trigger_eq code source d) :)

/-- The drag latch as its cause sets it, before SOUT1 opens. -/
def dragSet (d : Dev) : Dev := d.modBin fun b => { b with
  drag := true, dragStill := none
  byPinch := (d.bin.drag && b.byPinch) || d.bin.pinchStands, byDirection := (d.bin.drag && b.byDirection) || d.bin.violation
  dragOnsets := if d.bin.drag then b.dragOnsets else b.dragOnsets + 1 }

/-- A cause that stands while the vehicle moves sets the drag latch, and its onset opens SOUT1. -/
theorem tickDrag_sets {d : Dev} (moves : d.bin.view ≠ 0) (cause : d.bin.pinchStands = true ∨ d.bin.violation = true) :
    d.tickDrag.bin = if d.bin.drag = true then (dragSet d).bin else ((dragSet d).openOut 1).bin := by
  refine (congrArg Dev.bin (if_pos ⟨moves, cause⟩)).trans ((apply_ite Dev.bin _ _ _).trans (if_congr Iff.rfl rfl ?_))
  exact (sendKind_bin ..).trans ((trigger_bin ..).trans ((recFlag_bin ..).trans (Dev.onset_bin ..)))

theorem tickDrag_idle {d : Dev} (idle : d.bin.view = 0 ∨ (d.bin.pinchStands = false ∧ d.bin.violation = false)) : ∃ still,
    d.tickDrag = d.modBin fun b => { b with dragStill := still } := by
  refine ⟨_, if_neg fun k => ?_⟩
  exact idle.elim k.1 fun none => k.2.elim (Bool.eq_false_iff.1 none.1) (Bool.eq_false_iff.1 none.2)

/-- Settles O50: SOUT0 by its seven conditions and their count, SOUT1 by its own, and the drag latch by its cause. -/
theorem safeOutputs : Obligations.SafeOutputs := by
  unfold Obligations.SafeOutputs
  refine ⟨fun d => ?_, fun d => ?_, fun d => ?_⟩
  · simp only [← outPower_iff]
    exact tickProved_outcome d
  · dsimp only
    rw [← tractionConds_iff, ← outPower_iff]
    refine ⟨fun closed => ?_, tickTraction_closes, fun disabled current => ?_, tickTraction_out0 d,
      (congrArg (fun e : Dev => e.bin.drag) (tickTraction_beside d) :)⟩
    · by_contra shut
      rw [not_and_or] at shut
      exact Bool.eq_false_iff.1 (tickTraction_shut shut) closed
    · have shut : ((d.tickTraction.bin.out 1).energised) ≠ true := Bool.eq_false_iff.1 (tickTraction_shut (.inl fun k => by
        have one := ((tractionConds_iff d).1 k).2.2.2.2.1
        rw [disabled] at one
        exact absurd one (by decide)))
      exact ⟨pulseOut_idle fun k => shut k.2.1, loopOpen_idle fun k => shut k.2.1, loopLimit_idle fun k => shut k.2⟩
  · refine ⟨fun moves cause => ?_, fun idle => ?_⟩
    · rw [tickDrag_sets moves cause]
      have kept : ((dragSet d).openOut 1).bin.drag = true ∧ ((dragSet d).openOut 1).bin.dragOnsets = (dragSet d).bin.dragOnsets :=
        ⟨(congrArg (fun e : Dev => e.bin.drag) (openOut_beside 1 (dragSet d)) :), (congrArg (fun e : Dev => e.bin.dragOnsets) (openOut_beside 1 (dragSet d)) :)⟩
      refine ⟨?_, fun fresh => ?_⟩
      · split
        · rfl
        · exact kept.1
      · rw [if_neg (Bool.eq_false_iff.1 fresh)]
        exact ⟨openOut_opens 1 _, kept.2.trans (if_neg (Bool.eq_false_iff.1 fresh))⟩
    · obtain ⟨still, eq⟩ := tickDrag_idle idle
      rw [eq]
      exact ⟨rfl, rfl, rfl⟩

/-! ### The seal (R470 to R474) -/

theorem evaluateSeal_sealed (rewritten : Bool) (d : Dev) : (d.evaluateSeal rewritten).bin.isSealed = true ↔ d.supply.factoryImage = false ∧ rewritten = false
    ∧ ∃ r, d.nv.sealRec = some r ∧ r.void = false ∧ r.grade = Config.grade % 256 ∧ r.build = d.runningBuild ∧ r.value = d.sealOver d.prm.working := by
  unfold Dev.evaluateSeal
  refine decide_eq_true_iff.trans ?_
  cases d.nv.sealRec with
  | none =>
    dsimp only
    refine ⟨fun k => ?_, fun k => ?_⟩
    · split at k <;> exact absurd k (by decide)
    · obtain ⟨_, _, r, hr, _⟩ := k
      exact absurd hr nofun
  | some r =>
    dsimp only
    by_cases factory : d.supply.factoryImage = true
    · simp [factory]
    · by_cases void : rewritten = true ∨ r.void = true
      · rw [if_neg factory, if_pos void]
        refine ⟨fun k => absurd k (by decide), fun k => ?_⟩
        obtain ⟨_, kept, q, hq, valid, _⟩ := k
        cases hq
        exact absurd void (by rw [kept, valid]; decide)
      · rw [not_or, Bool.not_eq_true, Bool.not_eq_true] at void
        rw [Bool.not_eq_true] at factory
        by_cases grade : r.grade = Config.grade % 256
        · by_cases build : r.build = d.runningBuild
          · by_cases value : r.value = d.sealOver d.prm.working
            · simp [factory, void, grade, build, value]
            · simp [factory, void, grade, build, value]
          · simp [factory, void, grade, build]
        · simp [factory, void, grade]

/-- The seal's loss as it is noted, before the outputs open. -/
def sealDropped (id : Nat) (d : Dev) : Dev := d.modBin fun b => { b with sealBroken := none, isSealed := false, sealLost := id, sealReason := 2 }

theorem tickSeal_lost {id : Nat} {d : Dev} (broken : d.bin.sealBroken = some id) :
    d.tickSeal = (((sealDropped id d).openOut 0).openOut 1).onset 172 3 0xFF (u16 id) := by
  unfold Dev.tickSeal
  rw [broken]
  rfl

/-- What the flash holds of the seal and the image. -/
def storedSeal (d : Dev) : Option SealRecord × Option (List (Nat × Int)) := (d.nv.sealRec, d.nv.image)

theorem storedSeal_raise (src sev subject : Nat) (fields : List Byte) (d : Dev) : storedSeal (d.raise src sev subject fields) = storedSeal d := by
  rw [raise_eq]; rfl

theorem storedSeal_clearing (src subject : Nat) (fields : List Byte) (d : Dev) : storedSeal (d.clearing src subject fields) = storedSeal d := by
  rw [clearing_eq]; rfl

theorem storedSeal_onset (src sev subject : Nat) (fields : List Byte) (d : Dev) : storedSeal (d.onset src sev subject fields) = storedSeal d := by
  rw [onset_eq]; rfl

/-- Settles O51: the record as it is written, the loss at the next tick, and the start-up's judgement. -/
theorem sealGainedAndLost : Obligations.SealGainedAndLost := by
  unfold Obligations.SealGainedAndLost
  refine ⟨fun value d => ?_, fun id d broken => ?_, fun d whole => ?_, fun rewritten d => ⟨evaluateSeal_sealed rewritten d, rfl, rfl⟩⟩
  · unfold Dev.sealNow
    dsimp only
    generalize u16 _ = lost
    have stored (e : Dev) : storedSeal ((e.clearing 172 0xFF lost).raise 171 0 0xFF (u32 value)) = storedSeal e :=
      (storedSeal_raise ..).trans (storedSeal_clearing ..)
    simp only [Dev.raise_bin, Dev.raise_prm, Dev.raise_door, Dev.clearing_bin, Dev.clearing_prm, Dev.clearing_door]
    exact ⟨rfl, rfl, rfl, congrArg Prod.fst (stored _), congrArg Prod.snd (stored _), rfl, rfl⟩
  · rw [tickSeal_lost broken]
    have opens := openBoth_opens (sealDropped id d)
    have beside := openBoth_beside (sealDropped id d)
    generalize ((sealDropped id d).openOut 0).openOut 1 = b at opens beside
    have kept {α : Type} (f : Dev → α) (look : ∀ e, f (besideOuts e) = f e) : f b = f (sealDropped id d) := by rw [← look b, beside, look]
    have unsealed : b.bin.isSealed = false := kept (·.bin.isSealed) fun _ => rfl
    have stored : storedSeal (b.onset 172 3 0xFF (u16 id)) = storedSeal b := storedSeal_onset ..
    simp only [Dev.onset_bin, Dev.onset_door, Dev.onset_prm, onset_stands]
    refine ⟨unsealed, kept (·.bin.sealBroken) fun _ => rfl, kept (·.bin.sealLost) fun _ => rfl, opens.1, opens.2, Bool.or_true _, ?_,
      kept Dev.door fun _ => rfl, kept Dev.prm fun _ => rfl, (congrArg Prod.fst stored).trans (kept (·.nv.sealRec) fun _ => rfl)⟩
    unfold Dev.openPermit
    rw [Dev.onset_bin, unsealed]
    rfl
  · unfold Dev.tickSeal
    rw [whole]

end Sys2Proof.Laws

end

section
/-! SUPPORT. The bus controllers (chapter 14): their commands and their events. -/

namespace Sys2Proof.Laws

open Sys2Proof Sys2Proof.Machine

/-! ### Commands (R492, R516 to R519) -/

theorem taken_bus (h : CmdHead) (c : HostCmd) (slot : Nat) (d : Dev) (x : Nat) : (d.taken h c slot).busOf x = d.busOf x :=
  congrArg (fun b : Buses => if x = 0 then b.a else b.b) (congrArg Dev.bus (taken_eq h c slot d) :)

theorem guardObject_pass {bus object : Nat} {d : Dev} (low : 16 ≤ object) (high : object ≤ 127)
    (direction : bitAt (d.busOf bus).table.dirs (object - 16) = true) : d.guardObject bus object = none :=
  (refuseIf_pass _ _ (by rw [decide_eq_false (Nat.not_lt.2 low), decide_eq_false (Nat.not_lt.2 high)]; rfl)).trans
    (refuseIf_pass _ _ (by rw [direction]; rfl))

theorem guardSend_pass {bus object format : Nat} {d : Dev} (object' : d.guardObject bus object = none) (free : (d.busOf bus).sendOf object = none)
    (runs : (d.busOf bus).running = true) (carried : carries (d.busOf bus).mode format = true) (speaks : (d.busOf bus).listen = false) :
    d.guardSend bus object format = none := by
  unfold Dev.guardSend
  rw [object']
  refine (refuseIf_pass _ _ (by rw [free]; rfl)).trans ((refuseIf_pass _ _ (by rw [runs]; rfl)).trans ?_)
  exact (refuseIf_pass _ _ (by rw [carried]; rfl)).trans (refuseIf_pass _ _ speaks)

/-- What may be copied out of a buffer (R492, R499). -/
def Readable (bus kind index off count : Nat) (d : Dev) : Prop :=
  bus ≤ 1 ∧ count ≤ 960
    ∧ ((kind = 0 ∧ 16 ≤ index ∧ index ≤ 127 ∧ bitAt (d.busOf bus).table.dirs (index - 16) = false) ∨ (kind = 1 ∧ index ≤ 7))
    ∧ let r := sget ({} : RxBuffer) index (if kind = 0 then (d.busOf bus).buffers else (d.busOf bus).prioBuffers)
      off + count ≤ (r.entry.getD ({}, 0, false)).1.data.length

/-- A copy inside its frame: its data, and the buffer after it. -/
theorem busRead_copies {bus kind index off count : Nat} (consume : Nat) {d : Dev} (readable : Readable bus kind index off count d) :
    d.busRead bus kind index consume off count = (
      let b := d.busOf bus
      let table := if kind = 0 then b.buffers else b.prioBuffers
      let r := sget ({} : RxBuffer) index table
      let e := r.entry.getD ({}, 0, false)
      let table := sset {} index (if consume = 1 then { r with newData := false, overrun := false } else r) table
      (0, u8 bus ++ u8 kind ++ u8 index ++ u8 (bitsOf [r.newData, r.newData, r.overrun, true, r.entry.isNone]) ++ u8 1
        ++ u16 r.updates ++ u16 r.updates ++ u8 e.1.format ++ u8 (bitsOf [e.1.esi, e.2.2, e.1.sec]) ++ u32 e.1.ident ++ u8 e.1.sdt
        ++ u8 e.1.vcid ++ u16 e.1.length ++ u32 e.1.af ++ u64 e.2.1 ++ (e.1.data.drop off).take count,
        d.setBus bus (if kind = 0 then { b with buffers := table } else { b with prioBuffers := table }))) := by
  obtain ⟨here, most, object, inside⟩ := readable
  have kindOk : ¬ 1 < kind := by omega
  have indexOk : ¬ ((kind = 0 ∧ (index < 16 ∨ 127 < index)) ∨ (kind = 1 ∧ 7 < index)) := by omega
  have direction : ¬ (kind = 0 ∧ bitAt (d.busOf bus).table.dirs (index - 16) = true) := fun k =>
    object.elim (fun h => Bool.eq_false_iff.1 h.2.2.2 k.2) (fun h => by omega)
  refine (if_neg (Nat.not_lt.2 here)).trans ((if_neg kindOk).trans ((if_neg indexOk).trans ((if_neg (Nat.not_lt.2 most)).trans ((if_neg direction).trans ?_))))
  exact if_neg (Nat.not_lt.2 inside)

theorem guardBusRead_pass {bus kind index off count : Nat} {d : Dev} (readable : Readable bus kind index off count d) :
    d.guardBusRead bus kind index off count = none :=
  refuseIf_pass _ _ (decide_eq_false (not_not.2 (congrArg Prod.fst (busRead_copies 0 readable))))

theorem shadowValid_of {b : Bus} (rules : ∀ r ∈ (b.shadow.getD b.table).rules, r.2.action = 1 → bitAt (b.shadow.getD b.table).dirs (r.2.object - 16) = false)
    (sends : ∀ w ∈ b.sends, bitAt (b.shadow.getD b.table).dirs (w.object - 16) = bitAt b.table.dirs (w.object - 16)) : b.shadowValid = true := by
  refine (Bool.and_eq_true _ _).mpr ⟨List.all_eq_true.2 fun r hr => ?_, List.all_eq_true.2 fun w hw => decide_eq_true (sends w hw)⟩
  rw [Bool.or_eq_true, Bool.not_eq_true', decide_eq_true_eq]
  by_cases accepts : r.2.action = 1
  · exact .inr (rules r hr accepts)
  · exact .inl accepts

/-- The shadow in force: the buffers whose direction stays are kept. -/
theorem applyShadow_eq (b : Bus) : b.applyShadow =
    (let t := b.shadow.getD b.table
    { b with
      table := t, shadow := none, tableNo := b.tableNo + 1
      oldTables := if b.fifo = [] then [] else b.oldTables ++ [(b.tableNo, b.table)]
      buffers := b.buffers.filter fun e => bitAt t.dirs (e.1 - 16) = bitAt b.table.dirs (e.1 - 16) }) := by
  unfold Bus.applyShadow Bus.shadowTable
  dsimp only
  congr 1
  refine List.filter_congr fun e _ => ?_
  rw [decide_not, Bool.not_not]

/-- Settles O52: each order's checks let it through, and it does what its rule says. -/
theorem busCommands : Obligations.BusCommands := by
  unfold Obligations.BusCommands
  intro h dt s bus
  refine ⟨?_, fun timeout => ?_, fun object ident format sdt vcid sec af length lifetime bytes => ?_, fun kind index consume off count => ?_, fun object => ?_,
    fun part first bytes => ?_, ?_, ?_⟩
  · exact runs_unchecked rfl (fun _ => rfl) (fun _ _ => rfl)
  · refine runs_row rfl (fun d hd => ?_) (fun _ _ _ => rfl)
    obtain ⟨least, most, off⟩ := hd
    refine (refuseIf_pass _ _ ?_).trans (refuseIf_pass _ _ (decide_eq_false (not_not.2 off)))
    rw [decide_eq_false (Nat.not_lt.2 least), decide_eq_false (Nat.not_lt.2 most)]
    rfl
  · refine runs_row rfl (fun d hd => ?_) (fun _ _ _ => rfl)
    obtain ⟨low, high, direction, free, runs, carried, speaks⟩ := hd
    exact guardSend_pass (guardObject_pass low high direction) free runs carried speaks
  · refine runs_row rfl (fun d hd => guardBusRead_pass hd) (fun slot d hd => ?_)
    have readable : Readable bus kind index off count (d.taken h (.busRead bus kind index consume off count) slot) := by
      unfold Readable
      rw [taken_bus]
      exact hd
    exact congrArg (fun r : Nat × List Byte × Dev => r.2.2.answer slot (r.1, r.2.1)) (busRead_copies consume readable)
  · refine runs_row rfl (fun d hd => guardObject_pass hd.1 hd.2.1 hd.2.2) (fun slot d _ => ?_)
    generalize d.taken _ _ _ = t
    show t.runTxCancel bus object slot = _
    unfold Dev.runTxCancel
    dsimp only
    cases (t.busOf bus).sendOf object <;> rfl
  · exact runs_row rfl (fun d hd => hd) (fun _ _ _ => rfl)
  · refine runs_row rfl (fun d hd => refuseIf_pass _ _ ?_) (fun slot d _ => ?_)
    · rw [shadowValid_of hd.1 hd.2]
      rfl
    · exact congrArg (fun b => ((d.taken h (.busFilterApply bus) slot).setBus bus b).reply slot 0x00 []) (applyShadow_eq _)
  · exact runs_unchecked rfl (fun _ => rfl) (fun _ _ => rfl)

/-! ### Events (R488 to R514, R520) -/

/-- A row of a controller acts where its own condition holds. -/
theorem busRow {i : Instr} {dt bus : Nat} {s : State} {due : Dev → Prop} {effect f : Dev → Dev} (e : exec i s = onDev dt (Dev.whenBus bus f) s)
    (acts : ∀ d, due d → f d = effect d) (idles : ∀ d, ¬ due d → f d = d) : Acts i dt s (fun d => (bus ≤ 1 ∧ 7 ≤ d.supply.step) ∧ due d) effect :=
  acts_intro e (fun d hd => (whenBus_due bus f d hd.1).trans (acts d hd.2)) (fun d hd => whenBus_not bus f d fun up => idles d fun k => hd ⟨up, k⟩)

/-- The FIFO after a frame that came whole, or its loss counted (R494, R495). -/
def fifoAfter (frame : FrameIn) (time : Nat) (b : Bus) : Bus :=
  if 64 ≤ b.fifo.length then
    { b with
      counts := { b.counts with overflows := satU 16 (b.counts.overflows + 1) }
      lost := satU 16 (b.lost + 1), lostAt := if b.lost = 0 then time else b.lostAt }
  else
    { b with
      fifo := b.fifo ++ [{ frame := frame.frame, stamp := time - frame.age, inBusOff := b.state = 4 || b.state = 5, table := b.tableNo }]
      counts := { b.counts with received := (b.counts.received + 1) % 2 ^ 32, most := max b.counts.most (b.fifo.length + 1) } }

theorem busReceiveError_running {bus code : Nat} (dominant : Bool) {d : Dev} (runs : (d.busOf bus).running = true) :
    d.busReceiveError bus code dominant = (d.setBus bus { d.busOf bus with
      rxErr := min 255 ((d.busOf bus).rxErr + if dominant = true then 8 else 1), lastError := code, counts := (d.busOf bus).counts.error code }).busJudge bus :=
  if_neg (not_not.2 runs)

/-- A frame that becomes valid, by what the controller carries and whether it runs (R488, R494, R511). -/
theorem busReceive_eq (bus : Nat) (frame : FrameIn) (d : Dev) : d.busReceive bus frame = (
    let b := d.busOf bus
    let off : Bool := b.state = 4 || b.state = 5
    let kept := fifoAfter frame d.chron.time b
    if carries b.mode frame.format = true then
      if off = true then d.setBus bus kept else if b.running = true then (d.setBus bus kept).busGoodReceive bus else d
    else if b.running = false then d
    else if b.mode = 1 then (d.setBus bus { b with rxErr := min 255 (b.rxErr + 1), lastError := 2, counts := b.counts.error 2 }).busJudge bus
    else if b.mode = 2 then
      (d.setBus bus { b with committed := none, counts := { b.counts with exceptions := satU 16 (b.counts.exceptions + 1) } }).busState bus 1
    else d) := by
  have stored : (if 64 ≤ (d.busOf bus).fifo.length then _ else _) = d.setBus bus (fifoAfter frame d.chron.time (d.busOf bus)) :=
    (apply_ite (fun b => d.setBus bus b) _ _ _).symm
  have whole (carried : carries (d.busOf bus).mode frame.format = true) (open' : (d.busOf bus).running = true ∨ ((d.busOf bus).state = 4 || (d.busOf bus).state = 5) = true) :
      d.busReceive bus frame = if ((d.busOf bus).state = 4 || (d.busOf bus).state = 5) = true then d.setBus bus (fifoAfter frame d.chron.time (d.busOf bus))
        else (d.setBus bus (fifoAfter frame d.chron.time (d.busOf bus))).busGoodReceive bus :=
    (if_neg (not_not.2 open')).trans ((if_neg (not_not.2 carried)).trans (if_congr Iff.rfl stored (congrArg (Dev.busGoodReceive bus) stored)))
  by_cases carried : carries (d.busOf bus).mode frame.format = true
  · refine Eq.trans ?_ (if_pos carried).symm
    by_cases off : ((d.busOf bus).state = 4 || (d.busOf bus).state = 5) = true
    · exact (whole carried (.inr off)).trans ((if_pos off).trans (if_pos off).symm)
    · refine Eq.trans ?_ (if_neg off).symm
      by_cases runs : (d.busOf bus).running = true
      · exact (whole carried (.inl runs)).trans ((if_neg off).trans (if_pos runs).symm)
      · exact (if_pos fun k => k.elim runs off).trans (if_neg runs).symm
  · refine Eq.trans ?_ (if_neg carried).symm
    by_cases runs : (d.busOf bus).running = true
    · refine Eq.trans ?_ (if_neg (Bool.not_eq_false _ ▸ runs)).symm
      refine (if_neg (not_not.2 (.inl runs))).trans ((if_pos carried).trans (if_congr Iff.rfl (busReceiveError_running false runs) ?_))
      exact if_congr (and_iff_left runs) rfl rfl
    · refine Eq.trans ?_ (if_pos (Bool.eq_false_iff.2 runs)).symm
      by_cases off : ((d.busOf bus).state = 4 || (d.busOf bus).state = 5) = true
      · refine (if_neg (not_not.2 (.inr off))).trans ((if_pos carried).trans ((if_congr Iff.rfl ?_ ?_).trans (ite_self d)))
        · exact if_pos runs
        · exact if_neg fun k => runs k.2
      · exact if_pos fun k => k.elim runs off

/-- A frame is chosen where one is pending, and the attempt committed (R501). -/
theorem commitAttempt_due {bus : Nat} {idle : Bool} {d : Dev} (runs : (d.busOf bus).running = true) (speaks : (d.busOf bus).listen = false)
    (free : (d.busOf bus).committed = none) (pending : (chooseFrame (d.pendingFrames bus)).isSome = true) :
    d.commitAttempt bus idle = d.setBus bus { d.busOf bus with
      committed := (chooseFrame (d.pendingFrames bus)).map fun e => e.1
      sofAt := if idle = true then d.now else d.now + d.parN (P.busField bus 1) * d.parN (P.busField bus 3) * 5 / 2 } := by
  refine (if_neg ?_).trans ?_
  · rw [runs, speaks, free]
    decide
  · obtain ⟨⟨obj, frame, drag⟩, chosen⟩ := Option.isSome_iff_exists.1 pending
    rw [chosen]
    rfl

theorem commitAttempt_idle {bus : Nat} {idle : Bool} {d : Dev} (none : ¬ ((d.busOf bus).running = true ∧ (d.busOf bus).listen = false
    ∧ (d.busOf bus).committed = none ∧ (chooseFrame (d.pendingFrames bus)).isSome = true)) : d.commitAttempt bus idle = d := by
  by_cases shut : ¬ (d.busOf bus).running = true ∨ (d.busOf bus).listen = true ∨ (d.busOf bus).committed.isSome = true
  · exact if_pos shut
  · refine (if_neg shut).trans ?_
    rw [not_or, not_or, not_not, Bool.not_eq_true, Option.not_isSome_iff_eq_none] at shut
    obtain ⟨runs, speaks, free⟩ := shut
    have empty : chooseFrame (d.pendingFrames bus) = Option.none :=
      Option.not_isSome_iff_eq_none.1 fun pending => none ⟨runs, speaks, free, pending⟩
    rw [empty]

theorem lifetimeOver_due {bus object t : Nat} {w : SendObject} {d : Dev} (sent : (d.busOf bus).sendOf object = some w) (deadline : w.deadline = some t)
    (late : t ≤ d.now) (open' : (d.busOf bus).committed ≠ some object) : d.lifetimeOver bus object = d.endSend bus w 1 3 d.chron.time := by
  unfold Dev.lifetimeOver
  simp only [sent, deadline]
  exact if_neg fun k => k.elim (Nat.not_lt.2 late) open'

theorem lifetimeOver_idle {bus object : Nat} {d : Dev} (idle : ¬ ((d.busOf bus).committed ≠ some object
    ∧ ∃ w t, (d.busOf bus).sendOf object = some w ∧ w.deadline = some t ∧ t ≤ d.now)) : d.lifetimeOver bus object = d := by
  unfold Dev.lifetimeOver
  dsimp only
  split
  case h_2 => rfl
  case h_1 w sent =>
    split
    case h_2 => rfl
    case h_1 t deadline =>
      refine if_pos ?_
      by_contra k
      rw [not_or, Nat.not_lt] at k
      exact idle ⟨k.2, w, t, sent, deadline, k.1⟩

theorem recoverLate_due {bus : Nat} {r : Nat × Nat} {d : Dev} (waits : (d.busOf bus).recover = some r) (late : r.2 ≤ d.now) :
    d.recoverLate bus = (if (d.busOf bus).state = 5 then d.busState bus 4 else d).endRecover bus 1 := by
  unfold Dev.recoverLate
  simp only [waits]
  exact if_neg (Nat.not_lt.2 late)

theorem recoverLate_idle {bus : Nat} {d : Dev} (idle : ¬ ∃ r, (d.busOf bus).recover = some r ∧ r.2 ≤ d.now) : d.recoverLate bus = d := by
  unfold Dev.recoverLate
  split
  case h_1 slot t waits => exact if_pos (Nat.not_le.1 fun late => idle ⟨(slot, t), waits, late⟩)
  case h_2 => rfl

/-- Settles O53: each event of a controller acts where its condition holds. -/
theorem busEvents : Obligations.BusEvents := by
  unfold Obligations.BusEvents
  intro dt s bus here
  refine ⟨fun frame => ?_, ?_, fun idle => ?_, fun seen => ?_, ?_, ?_, fun object => ?_, ?_, fun error dominant => ?_, ?_, ?_⟩
  · refine leaves_intro (f := Dev.whenBus bus (Dev.busReceive bus frame)) rfl ?_
    refine (if_congr Iff.rfl (busReceive_eq bus frame (s.later dt)) rfl).trans ?_
    by_cases up : bus ≤ 1 ∧ 7 ≤ (s.later dt).supply.step
    · exact (if_pos up).trans (if_neg (not_not.2 up)).symm
    · exact (if_neg up).trans (if_pos up).symm
  · refine leaves_intro (f := Dev.whenBus bus (Dev.frameRouted bus)) rfl (if_congr Iff.rfl ?_ rfl)
    generalize s.later dt = d
    unfold Dev.frameRouted
    cases d.takeFrame bus with
    | none => rfl
    | some r =>
      obtain ⟨e, t⟩ := r
      generalize route : d.routeOf bus e = r
      cases r <;> simp only [route]
  · refine busRow (f := Dev.commitAttempt bus idle) rfl (fun d due => ?_) (fun d none => commitAttempt_idle none)
    obtain ⟨runs, speaks, free, pending⟩ := due
    exact commitAttempt_due runs speaks free pending
  · refine leaves_intro (f := Dev.whenBus bus (Dev.attemptEnds bus seen)) rfl (if_congr Iff.rfl ?_ rfl)
    generalize s.later dt = d
    unfold Dev.attemptEnds
    cases (d.busOf bus).committed <;> rfl
  · refine busRow (f := Dev.recovered bus) rfl (fun d due => (if_pos due).trans ?_) (fun d idle => if_neg idle)
    exact congrArg (Dev.listenAgain bus) (if_neg (not_not.2 due))
  · refine busRow (f := Dev.recoverLate bus) rfl (fun d due => ?_) (fun d idle => recoverLate_idle idle)
    obtain ⟨r, waits, late⟩ := due
    exact recoverLate_due waits late
  · refine busRow (f := Dev.lifetimeOver bus object) rfl (fun d due => ?_) (fun d idle => lifetimeOver_idle idle)
    obtain ⟨open', w, t, sent, deadline, late⟩ := due
    rw [lifetimeOver_due sent deadline late open', sent]
  · refine busRow (f := Dev.reconfigured bus) rfl (fun d due => if_pos ?_) (fun d idle => if_neg fun k => idle ?_)
    · exact ⟨due.1, Option.isNone_iff_eq_none.2 due.2⟩
    · exact ⟨k.1, Option.isNone_iff_eq_none.1 k.2⟩
  · exact busRow (f := Dev.busReceiveError bus error dominant) rfl (fun d due => busReceiveError_running dominant due) (fun d idle => if_pos idle)
  · exact busRow (f := Dev.exception bus) rfl (fun d due => if_pos due) (fun d idle => if_neg idle)
  · exact busRow (f := Dev.integrated bus) rfl (fun d due => if_pos due) (fun d idle => if_neg idle)

end Sys2Proof.Laws

end

section
/-! SUPPORT. The Chronometer and the telegrams (chapter 15): their commands and events, and the discipline by reference messages. -/

namespace Sys2Proof.Laws

open Sys2Proof Sys2Proof.Machine

/-! ### The state and the steps of the time (R522, R523, R528) -/

/-- The device with the Chronometer's state replaced, before it is told. -/
def inState (new : Nat) (d : Dev) : Dev := { d with chron := { d.chron with state := new, heldAt := if new = 4 then d.now else d.chron.heldAt } }

theorem chronState_valid {new : Nat} {d : Dev} (valid : (inState new d).timeValid = true) :
    d.chronState new = (inState new d).clearing 185 0xFF (u8 d.chron.state) :=
  (if_neg fun k => k.2 valid).trans (if_pos valid)

theorem chronState_invalid {new : Nat} {d : Dev} (invalid : (inState new d).timeValid = false) :
    d.chronState new = if d.timeValid = true then (inState new d).onset 185 1 0xFF (u8 d.chron.state) else inState new d := by
  by_cases was : d.timeValid = true
  · exact (if_pos ⟨was, Bool.eq_false_iff.1 invalid⟩).trans (if_pos was).symm
  · exact (if_neg fun k => was k.1).trans ((if_neg (Bool.eq_false_iff.1 invalid)).trans (if_neg was).symm)

theorem chronState_cases (new : Nat) (d : Dev) : d.chronState new = (inState new d).clearing 185 0xFF (u8 d.chron.state)
    ∨ d.chronState new = (inState new d).onset 185 1 0xFF (u8 d.chron.state) ∨ d.chronState new = inState new d := by
  cases valid : (inState new d).timeValid with
  | true => exact .inl (chronState_valid valid)
  | false =>
    rw [chronState_invalid valid]
    split
    · exact .inr (.inl rfl)
    · exact .inr (.inr rfl)

theorem chronState_chron (new : Nat) (d : Dev) : (d.chronState new).chron = (inState new d).chron := by
  rcases chronState_cases new d with h | h | h <;> rw [h]
  · exact Dev.clearing_chron ..
  · exact Dev.onset_chron ..

theorem chronState_now (new : Nat) (d : Dev) : (d.chronState new).now = d.now := by
  rcases chronState_cases new d with h | h | h <;> rw [h]
  · exact Dev.clearing_now ..
  · exact Dev.onset_now ..
  · rfl

theorem yieldMaster_now (state : Nat) (d : Dev) : (d.yieldMaster state).now = d.now := by
  refine (chronState_now _ _).trans ?_
  show Dev.now (if _ then _ else _) = _
  split <;> rfl

/-! ### Commands and events -/

theorem slaved_iff (d : Dev) : d.slaved = true ↔ d.par P.CHRON_ROLE ≠ 0 ∧ d.chron.state ≠ 5
    ∧ ∃ t, d.chron.heard = some t ∧ d.now - t < 3 * ms (d.parN P.CHRON_REF_PERIOD) := by
  unfold Dev.slaved Dev.refPeriod
  cases d.chron.heard with
  | none => simp
  | some t => simp [and_assoc]

/-- A reference message as it is noted, before it is judged. -/
def messageNoted (stamp : Nat) (d : Dev) : Dev :=
  { d with chron := { d.chron with references := satU 32 (d.chron.references + 1), lastRef := stamp, heard := some d.now } }

/-- A master that hears a lower rank ends its role (R528). -/
def listening (d : Dev) : Dev := if d.chron.state = 5 then d.yieldMaster 1 else d

theorem listening_now (d : Dev) : (listening d).now = d.now := by
  unfold listening
  split
  · exact yieldMaster_now _ _
  · rfl

/-- The device after a message names its master, where its time is valid (R528). -/
def masterNamed (rank : Nat) (valid : Bool) (d : Dev) : Dev :=
  if valid = true then ({ listening d with chron := { (listening d).chron with refSeen := d.now } } : Dev).chronMaster (some rank) else listening d

/-- A message follows the one before it, of the same rank, and both can be used (R527). -/
def follows (rank count : Nat) (usable : Bool) (prev : Option (Nat × Nat × Nat)) : Bool :=
  match prev with
  | some (r, n, _) => usable && r = rank && (n + 1) % 65536 = count
  | none => false

theorem follows_iff (rank count : Nat) (usable : Bool) (prev : Option (Nat × Nat × Nat)) :
    follows rank count usable prev = true ↔ usable = true ∧ ∃ n own, prev = some (rank, n, own) ∧ (n + 1) % 65536 = count := by
  unfold follows
  split
  case h_1 r n own =>
    simp only [Bool.and_eq_true, decide_eq_true_eq, Option.some.injEq, Prod.mk.injEq]
    constructor
    · rintro ⟨⟨use, rfl⟩, next⟩
      exact ⟨use, n, own, ⟨rfl, rfl, rfl⟩, next⟩
    · rintro ⟨use, m, _, ⟨rfl, rfl, rfl⟩, next⟩
      exact ⟨⟨use, rfl⟩, next⟩
  case h_2 =>
    refine ⟨fun k => absurd k (by decide), fun k => ?_⟩
    obtain ⟨_, n, own, none, _⟩ := k
    exact absurd none nofun

/-- The device's own stamp of the message before. -/
def ownStamp (prev : Option (Nat × Nat × Nat)) : Nat := match prev with | some (_, _, own) => own | none => 0

/-- The device as a message leaves it, by the message before it (R527, R529). -/
def disciplinedBy (data : List Byte) (stamp : Nat) (t : Dev) : Dev :=
  let kept : Dev := { t with chron := { t.chron with prev := some (fieldAt 0 1 data, fieldAt 2 2 data, stamp) } }
  if follows (fieldAt 0 1 data) (fieldAt 2 2 data) (bitAt (fieldAt 1 1 data) 0 && bitAt (fieldAt 1 1 data) 1) t.chron.prev = true then
    kept.discipline ((fieldAt 4 8 data : Int) - ownStamp t.chron.prev) (bitAt (fieldAt 1 1 data) 2)
  else kept

theorem disciplinedBy_used {data : List Byte} {n own : Nat} {t : Dev} (stamp : Nat) (before : t.chron.prev = some (fieldAt 0 1 data, n, own))
    (next : (n + 1) % 65536 = fieldAt 2 2 data) (valid : bitAt (fieldAt 1 1 data) 0 = true) (used : bitAt (fieldAt 1 1 data) 1 = true) :
    disciplinedBy data stamp t = ({ t with chron := { t.chron with prev := some (fieldAt 0 1 data, fieldAt 2 2 data, stamp) } } : Dev).discipline
      ((fieldAt 4 8 data : Int) - own) (bitAt (fieldAt 1 1 data) 2) := by
  refine (if_pos ((follows_iff ..).2 ⟨by rw [valid, used]; rfl, n, own, before, next⟩)).trans ?_
  rw [before]
  rfl

/-- A message that the device listens to: it disciplines the time where it can be used with the one before it (R527, R529). -/
theorem reference_heard {data : List Byte} {stamp : Nat} {d : Dev} (role : d.par P.CHRON_ROLE ≠ 0) (length : data.length = 12)
    (lower : d.chron.state = 5 → fieldAt 0 1 data < d.parN P.CHRON_RANK ∧ bitAt (fieldAt 1 1 data) 0 = true) :
    d.reference data stamp = disciplinedBy data stamp (masterNamed (fieldAt 0 1 data) (bitAt (fieldAt 1 1 data) 0) (messageNoted stamp d)) := by
  unfold masterNamed
  rw [← listening_now (messageNoted stamp d)]
  have hears : ¬ (d.chron.state = 5 ∧ ¬ (fieldAt 0 1 data < d.parN P.CHRON_RANK ∧ bitAt (fieldAt 1 1 data) 0 = true)) := fun k => k.2 (lower k.1)
  exact (if_neg fun k => k.elim role fun k => k length).trans (if_neg hears)

theorem reference_deaf {data : List Byte} {stamp : Nat} {d : Dev} (deaf : d.par P.CHRON_ROLE = 0 ∨ data.length ≠ 12) : d.reference data stamp = d := if_pos deaf

/-- To a master a message of no lower rank is noted only (R528). -/
theorem reference_ignored {data : List Byte} {stamp : Nat} {d : Dev} (role : d.par P.CHRON_ROLE ≠ 0) (length : data.length = 12) (master : d.chron.state = 5)
    (higher : ¬ (fieldAt 0 1 data < d.parN P.CHRON_RANK ∧ bitAt (fieldAt 1 1 data) 0 = true)) : d.reference data stamp = messageNoted stamp d :=
  (if_neg fun k => k.elim role fun k => k length).trans (if_pos ⟨master, higher⟩)

theorem payloadOf_5 (d : Dev) : d.payloadOf 5 =
    u64 ((d.door.order.map (·.start)).getD 0) ++ u8 d.leafMotion ++ u8 d.door.state ++ u16 0 ++ i32 (satI 32 d.leafPos) := by
  unfold Dev.payloadOf
  cases d.door.order <;> rfl

theorem sendTelegram_ready {c : Nat} {d : Dev} (ready : d.ready = true) : d.sendTelegram c = (
    let kind := d.connKind c
    if kind = 1 ∨ kind = 2 ∨ kind = 5 then
      let seq := (d.conn c).next
      let data := telegramBytes (d.parN (P.connField c 3)) seq kind d.chron.time (d.payloadOf kind)
      let frame : Frame := { ident := d.parN (P.connField c 2), format := connFormat (d.parN (P.connField c 4)), length := data.length, data := data }
      let t := d.modConn c fun k => { k with next := (seq + 1) % 65536, sent := seq, sinceBuilt := 0, builtAt := d.now }
      t.handOver (t.parN (P.connField c 1)) { object := 4 + c, frame := frame, built := t.chron.time } (kind = 2)
    else d) := by
  by_cases kind : d.connKind c = 1 ∨ d.connKind c = 2 ∨ d.connKind c = 5
  · exact (if_neg fun k => k.elim (fun k => k ready) (fun k => k kind)).trans (if_pos kind).symm
  · exact (if_pos (.inr kind)).trans (if_neg kind).symm

/-- A send connection's time has come, as its own kind counts it. -/
theorem telegramDue_iff (c : Nat) (d : Dev) :
    ((if d.connKind c = 5 then decide (ms 10 ≤ d.now - (d.conn c).builtAt) else decide (10 ≤ (d.conn c).sinceBuilt)) = true)
      ↔ if d.connKind c = 5 then ms 10 ≤ d.now - (d.conn c).builtAt else 10 ≤ (d.conn c).sinceBuilt := by
  split <;> exact decide_eq_true_iff

theorem watchdogDue_iff (c : Nat) (d : Dev) : d.watchdogDue c = true ↔ (d.connKind c = 3 ∨ d.connKind c = 4)
    ∧ ((d.conn c).valid = true ∨ ((d.conn c).last.isSome = true ∧ (d.conn c).expired = false))
    ∧ (if d.connKind c = 4 then ms 30 ≤ d.now - (d.conn c).last.getD d.now else 30 ≤ (d.conn c).ticks) := by
  unfold Dev.watchdogDue
  dsimp only
  simp only [Bool.and_eq_true, Bool.or_eq_true, decide_eq_true_eq, Bool.not_eq_true', and_assoc]
  refine and_congr_right fun _ => and_congr_right fun _ => ?_
  split <;> exact decide_eq_true_iff

/-- Settles O55: each command and event of the Chronometer and of the telegrams, and what they are made of. -/
theorem chronometerAndTelegramRows : Obligations.ChronometerAndTelegramRows := by
  unfold Obligations.ChronometerAndTelegramRows
  refine ⟨fun dt s => ⟨fun h time => ⟨?_, ?_⟩, fun h => ?_, fun frame => ?_, ?_, ?_, ?_, ?_, fun e d => rfl, fun new d => ⟨chronState_valid, chronState_invalid⟩,
    fun rank d => ⟨fun same => if_pos same, fun news => if_neg news⟩, fun data stamp d => ⟨reference_deaf, reference_ignored, fun role length lower => ?_⟩⟩,
    fun dt s c => ⟨?_, fun frame => ?_, ?_, fun identity seq kind time payload => rfl, fun d => ⟨rfl, rfl, payloadOf_5 d⟩, fun seq stamp payload d => rfl⟩⟩
  · exact runs_row rfl (fun d free => refuseIf_pass _ _ (Bool.eq_false_iff.2 fun k => free ((slaved_iff d).1 k))) (fun _ _ _ => rfl)
  · exact refuses_row rfl (fun d heard => refuseIf_fail _ _ ((slaved_iff d).2 heard))
  · exact runs_unchecked rfl (fun _ => rfl) (fun _ _ => rfl)
  · exact liveRow (f := Dev.referenceIn frame) rfl (fun d due => if_pos due) (fun d idle => if_neg idle)
  · exact liveRow (f := Dev.referenceTimer) rfl (fun d due => if_pos due) (fun d idle => if_neg idle)
  · exact liveRow (f := Dev.masterOver) rfl (fun d due => if_pos due) (fun d idle => if_neg idle)
  · exact liveRow (f := Dev.holdover) rfl (fun d due => if_pos due) (fun d idle => if_neg idle)
  · exact liveRow (f := Dev.holdoverEnds) rfl (fun d due => if_pos due) (fun d idle => if_neg idle)
  · have heard := reference_heard (stamp := stamp) role length lower
    refine ⟨fun n own before next valid used => heard.trans (disciplinedBy_used _ before next valid used), fun unusable => heard.trans (if_neg fun k => ?_)⟩
    · obtain ⟨usable, n, own, before, next⟩ := (follows_iff ..).1 k
      rw [Bool.and_eq_true] at usable
      exact Bool.eq_false_iff.1 (unusable n own before next usable.1) usable.2
  · refine acts_intro (f := Dev.whenReady (Dev.telegramTimer c)) rfl (fun d due => ?_) (fun d idle => ?_)
    · obtain ⟨ready, live, c12, due⟩ := due
      exact (whenReady_due _ d ⟨ready, live⟩).trans ((if_pos ⟨c12, (telegramDue_iff c d).2 due⟩).trans (sendTelegram_ready ready))
    · exact whenReady_not _ d fun up => if_neg fun k => idle ⟨up.1, up.2, k.1, (telegramDue_iff c d).1 k.2⟩
  · exact liveRow (f := Dev.telegramIn c frame) rfl (fun d due => if_pos due) (fun d idle => if_neg idle)
  · refine liveRow (f := Dev.telegramLate c) rfl (fun d due => if_pos ⟨due.1, (watchdogDue_iff c d).2 due.2⟩)
      (fun d idle => if_neg fun k => idle ⟨k.1, (watchdogDue_iff c d).1 k.2⟩)

/-! ### The discipline (R529 to R531) -/

theorem clampI_bounds {lo hi : Int} (order : lo ≤ hi) (v : Int) : lo ≤ clampI lo hi v ∧ clampI lo hi v ≤ hi := by
  unfold clampI
  split
  · exact ⟨le_rfl, order⟩
  · split <;> omega

/-- The device after a step of its time, before its state follows. -/
def timeStepped (e : Int) (d : Dev) : Dev :=
  let t := ({ d with chron := { d.chron with offset := satI 32 e, usable := d.now } } : Dev).chronStep e
  { t with chron := { t.chron with trim := 0, slew := 0, c := 0, good := 0 } }

/-- The device with the correction that an offset gives it, before its state follows. -/
def timeCorrected (e : Int) (d : Dev) : Dev :=
  let p : Int := d.refPeriod
  let trim := clampI (-200000) 200000 (d.chron.trim + truncDiv (e * 1000000000) (8 * p))
  let slew := clampI (-300000) 300000 (truncDiv (e * 1000000000) p)
  { d with chron := { d.chron with
    offset := satI 32 e, usable := d.now, trim := trim, slew := slew, c := trim + slew, good := if e.natAbs ≤ 1000 then d.chron.good + 1 else 0 } }

theorem discipline_steps {e : Int} {discontinuity : Bool} {d : Dev}
    (step : d.chron.state = 0 ∨ discontinuity = true ∨ (us (d.parN P.CHRON_STEP_LIMIT) : Int) < e.natAbs) :
    d.discipline e discontinuity = (timeStepped e d).chronState 2 := if_pos step

/-- A correction leaves the time, and the state follows by what it was (R523, R531). -/
theorem discipline_corrects {e : Int} {discontinuity : Bool} {d : Dev}
    (small : ¬ (d.chron.state = 0 ∨ discontinuity = true ∨ (us (d.parN P.CHRON_STEP_LIMIT) : Int) < e.natAbs)) :
    d.discipline e discontinuity = timeCorrected e d ∨ ∃ new, d.discipline e discontinuity = (timeCorrected e d).chronState new := by
  have eq : d.discipline e discontinuity =
      if d.chron.state = 1 then (timeCorrected e d).chronState 2
      else if d.chron.state = 4 then (timeCorrected e d).chronState 3
      else if d.chron.state = 2 ∧ 3 ≤ (if e.natAbs ≤ 1000 then d.chron.good + 1 else 0) then (timeCorrected e d).chronState 3
      else timeCorrected e d := if_neg small
  rw [eq]
  generalize (if e.natAbs ≤ 1000 then d.chron.good + 1 else 0) = good
  split
  · exact .inr ⟨2, rfl⟩
  · split
    · exact .inr ⟨3, rfl⟩
    · split
      · exact .inr ⟨3, rfl⟩
      · exact .inl rfl

theorem chronStep_chron (e : Int) (d : Dev) : (d.chronStep e).chron.time = ((d.chron.time : Int) + e).toNat % 2 ^ 64
    ∧ (d.chronStep e).chron.steps = satU 16 (d.chron.steps + 1) := by
  unfold Dev.chronStep
  dsimp only
  rw [Dev.raise_chron]
  exact ⟨rfl, rfl⟩

/-- Settles O56: a step where one is called for, and otherwise the bounded correction. -/
theorem referenceDiscipline : Obligations.ReferenceDiscipline := by
  unfold Obligations.ReferenceDiscipline
  refine ⟨rfl, fun e discontinuity d => ⟨fun step => ?_, fun small => ?_⟩⟩
  · rw [discipline_steps step, chronState_chron]
    obtain ⟨time, steps⟩ := chronStep_chron e { d with chron := { d.chron with offset := satI 32 e, usable := d.now } }
    unfold timeStepped inState
    generalize Dev.chronStep e _ = t at time steps
    exact ⟨time, rfl, rfl, rfl, rfl, steps⟩
  · have corrected : let t := (timeCorrected e d).chron
        t.time = d.chron.time ∧ t.trim = clampI (-200000) 200000 (d.chron.trim + truncDiv (e * 1000000000) (8 * (ms (d.parN P.CHRON_REF_PERIOD) : Int)))
          ∧ t.slew = clampI (-300000) 300000 (truncDiv (e * 1000000000) (ms (d.parN P.CHRON_REF_PERIOD))) ∧ t.c = t.trim + t.slew ∧ t.c.natAbs ≤ 500000
          ∧ t.steps = d.chron.steps := by
      refine ⟨rfl, rfl, rfl, rfl, ?_, rfl⟩
      show (clampI _ _ _ + clampI _ _ _).natAbs ≤ 500000
      have trim := clampI_bounds (lo := -200000) (hi := 200000) (by decide) (d.chron.trim + truncDiv (e * 1000000000) (8 * (d.refPeriod : Int)))
      have slew := clampI_bounds (lo := -300000) (hi := 300000) (by decide) (truncDiv (e * 1000000000) (d.refPeriod : Int))
      omega
    rcases discipline_corrects small with eq | ⟨new, eq⟩
    · rw [eq]
      exact corrected
    · rw [eq, chronState_chron]
      exact corrected

end Sys2Proof.Laws

end

section
/-! SUPPORT. The Log (chapter 16): its memory, a cast record, and its commands and events. -/

namespace Sys2Proof.Laws

open Sys2Proof Sys2Proof.Machine

/-! ### The memory reads back -/

theorem memRead_memStore_outside (bs : List Byte) {m : List Host.Cell} {at' a : Nat} (w : Memory.wf m = true) (outside : a < at' ∨ at' + bs.length ≤ a) :
    memRead (memStore m at' bs) a = memRead m a := by
  induction bs generalizing m at' with
  | nil => rfl
  | cons b bs ih =>
    rw [List.length_cons] at outside
    exact (ih (memWrite_wf at' b w) (by omega)).trans (memRead_memWrite_ne b (by omega) w)

theorem memLoad_memStore (bs : List Byte) {m : List Host.Cell} {at' : Nat} (w : Memory.wf m = true) : memLoad (memStore m at' bs) at' bs.length = bs := by
  induction bs generalizing m at' with
  | nil => rfl
  | cons b bs ih =>
    have first : memRead (memStore (memWrite m at' b) (at' + 1) bs) at' = b :=
      (memRead_memStore_outside bs (memWrite_wf at' b w) (.inl (Nat.lt_succ_self at'))).trans (memRead_memWrite_same at' b w)
    show memRead (memStore (memWrite m at' b) (at' + 1) bs) at' :: memLoad (memStore (memWrite m at' b) (at' + 1) bs) (at' + 1) bs.length = b :: bs
    rw [first, ih (memWrite_wf at' b w)]

/-- Settles O59: a run that is stored reads back, the bytes outside stay, and the form is kept. -/
theorem memoryReadsBack : Obligations.MemoryReadsBack := by
  unfold Obligations.MemoryReadsBack
  exact fun m at' bytes w => ⟨memLoad_memStore bytes w, fun a outside => memRead_memStore_outside bytes w outside, memStore_wf bytes m at' w⟩

/-! ### A cast record (R553 to R556) -/

theorem length_recordBody (seq : Nat) (r : Record) : (recordBody seq r).length = 44 := by
  unfold recordBody u8 u16 u32 u64 i16 iBytes
  simp only [List.length_append, length_leBytes]

theorem length_recordBytes (epoch seq : Nat) (r : Record) : (recordBytes epoch seq r).length = 48 :=
  (List.length_append ..).trans (congrArg₂ (· + ·) (length_recordBody seq r) (length_leBytes 4 _))

/-- The device with a cast's header and the memory that holds its record. -/
def casting (main : List Host.Cell) (d : Dev) : Dev :=
  let t := d.putHeader { d.header with casting := true, castSeq := d.header.next }
  { t with nv := { t.nv with main := main } }

/-- The device with a cast ended: the next sequence, and the oldest that the ring still holds. -/
def castEnded (next : Nat) (d : Dev) : Dev :=
  let t := d.putHeader { d.header with casting := false, next := next, oldest := max d.header.oldest (next - 262144) }
  { t with log := { t.log with lastCast := t.chron.time } }

theorem casting_header (main : List Host.Cell) (d : Dev) : (casting main d).header =
    { d.header with casting := true, castSeq := d.header.next, writes := (d.header.writes + 1) % 2 ^ 32 } := rfl

theorem castEnded_facts (main : List Host.Cell) (next : Nat) (d : Dev) :
    let t := castEnded next (casting main d)
    t.nv.main = main ∧ t.header.next = next ∧ t.header.casting = false ∧ t.header.oldest = max d.header.oldest (next - 262144) ∧ t.header.epoch = d.header.epoch
      ∧ t.log.lastCast = d.chron.time ∧ t.log.run = d.log.run ∧ t.nv.journal = d.nv.journal ∧ t.nv.learned = d.nv.learned :=
  ⟨rfl, rfl, rfl, (congrArg (fun h : LogHeader => max h.oldest (next - 262144)) (casting_header main d) :), (congrArg LogHeader.epoch (casting_header main d) :),
    rfl, rfl, rfl, rfl⟩

/-- The memory with a record in the slot of the next sequence. -/
def castStored (r : Record) (d : Dev) : List Host.Cell := memStore d.nv.main (ringAt d.header.next) (recordBytes d.header.epoch d.header.next r)

theorem castOne_whole (r : Record) (d : Dev) : d.castOne r 6 true = castEnded ((d.header.next + 1) % 2 ^ 32) (casting (castStored r d) d) := rfl

/-- A cast that ends after its header, before the next sequence. -/
theorem castOne_short (r : Record) {steps : Nat} (d : Dev) (three : 3 ≤ steps) (short : steps < 6) :
    d.castOne r steps true = if steps < 4 then d.putHeader { d.header with casting := true, castSeq := d.header.next } else casting (castStored r d) d := by
  refine (if_neg (Nat.not_lt.2 three)).trans ?_
  by_cases four : steps < 4
  · exact (if_pos four).trans (if_pos four).symm
  · have taken : ¬ ¬ true = true := by decide
    exact (if_neg four).trans ((if_neg taken).trans ((if_pos short).trans (if_neg four).symm))

/-- Settles O60: the record stands in its slot and the header moves on; a cast cut short names its sequence. -/
theorem castRecord : Obligations.CastRecord := by
  unfold Obligations.CastRecord
  intro r d w
  have facts := castEnded_facts (castStored r d) ((d.header.next + 1) % 2 ^ 32) d
  rw [← castOne_whole] at facts
  obtain ⟨main, facts⟩ := facts
  obtain ⟨next, over', oldest, epoch, last, run, journal, learned⟩ := facts
  refine ⟨?_, fun a outside => ?_, next, over', oldest, epoch, last, run, journal, learned, fun steps three short => ?_⟩
  · rw [main]
    exact (congrArg (memLoad _ _) (length_recordBytes d.header.epoch d.header.next r).symm).trans (memLoad_memStore _ w)
  · rw [main]
    refine memRead_memStore_outside _ w ?_
    rw [length_recordBytes]
    exact outside
  · have named : ∀ {t : Dev}, t.header = { d.header with casting := true, castSeq := d.header.next, writes := (d.header.writes + 1) % 2 ^ 32 } →
        t.header.casting = true ∧ t.header.castSeq = d.header.next ∧ t.header.next = d.header.next ∧ t.header.oldest = d.header.oldest := fun same => by
      rw [same]
      exact ⟨rfl, rfl, rfl, rfl⟩
    rw [castOne_short r d three short]
    split
    · exact named rfl
    · exact named (casting_header _ d)

/-! ### Commands (R567 to R573) -/

/-- What the flash and the memory die hold of the Log. -/
def logHeld (d : Dev) : Option LogHeader × List Host.Cell × List Nat := (d.nv.header, d.nv.main, d.nv.traceOrder)

theorem taken_logHeld (h : CmdHead) (c : HostCmd) (slot : Nat) (d : Dev) : logHeld (d.taken h c slot) = logHeld d := by
  rw [taken_eq]; rfl

theorem logFailed_of_held {d e : Dev} (same : logHeld d = logHeld e) : d.logFailed = e.logFailed :=
  congrArg (fun p : Option LogHeader × _ => match p.1 with | none => true | some h => h.failed) same

theorem header_of_held {d e : Dev} (same : logHeld d = logHeld e) : d.header = e.header := congrArg (fun p => p.1.getD {}) same

/-- The window of sequences that LOG_READ names: where it starts, and how many it holds (R570). -/
def readWindow (first count : Nat) (d : Dev) : Nat × Nat :=
  let start := if first = 0xFFFFFFFF then max d.header.oldest (d.header.next - count) else first
  (start, if first = 0xFFFFFFFF then min count (d.header.next - start) else count)

theorem logRead_inside {first count : Nat} {d : Dev} (works : d.logFailed = false) (least : 1 ≤ count) (most : count ≤ 20)
    (oldest : d.header.oldest ≤ (readWindow first count d).1) (newest : (readWindow first count d).1 + (readWindow first count d).2 ≤ d.header.next) :
    d.logRead first count = (0, let start := (readWindow first count d).1
      let n := (readWindow first count d).2
      let seqs := (List.range n).map fun i => start + i
      u32 start ++ u8 n ++ u16 0 ++ u32 (bitsOf (seqs.map fun q => d.recordValid q)) ++ seqs.flatMap fun q => memLoad d.nv.main (48 * (q % 262144)) 48) := by
  refine (if_neg (Bool.eq_false_iff.1 works)).trans ((if_neg ?_).trans (if_neg ?_))
  · exact fun k => k.elim (Nat.not_lt.2 least) (Nat.not_lt.2 most)
  · exact fun k => k.elim (Nat.not_lt.2 oldest) (Nat.not_lt.2 newest)

theorem traceList_inside {first count : Nat} {d : Dev} (works : d.logFailed = false) (slot : first ≤ 511) (least : 1 ≤ count) (most : count ≤ 48)
    (inside : first + count ≤ 512) : d.traceList first count = (0, u16 first ++ u8 count ++ ((List.range count).map fun i => first + i).flatMap fun n =>
      let t := if d.nv.traceOrder.contains n then traceHdr d.nv.main n else {}
      u16 n ++ u8 t.state ++ u8 t.trigger ++ u8 (bitsOf [t.pinned, t.byHost, t.anomaly]) ++ u8 0 ++ u16 t.samples ++ u32 t.seq ++ u64 t.time) := by
  refine (if_neg (Bool.eq_false_iff.1 works)).trans ((if_neg (Nat.not_lt.2 slot)).trans (if_neg ?_))
  omega

theorem traceRead_inside {n off count : Nat} {d : Dev} (works : d.logFailed = false) (slot : n ≤ 511) (inside : off + count ≤ 8192) (least : 1 ≤ count)
    (most : count ≤ 960) : d.traceRead n off count =
      (0, u16 n ++ u32 (traceHdr d.nv.main n).seq ++ u16 off ++ u16 count ++ memLoad d.nv.main (0xC00000 + 8192 * n + off) count) := by
  refine (if_neg (Bool.eq_false_iff.1 works)).trans ((if_neg (Nat.not_lt.2 slot)).trans ((if_neg (Nat.not_lt.2 inside)).trans (if_neg ?_)))
  omega

theorem asRefusal_done {r : Nat × List Byte} {data : List Byte} (done : r = (0, data)) : asRefusal r = none := by
  rw [done]; rfl

theorem asRefusal_failed {r : Nat × List Byte} {status : Nat} {data : List Byte} (failed : r = (status, data)) (real : status ≠ 0) :
    asRefusal r = some (status, data) := by
  rw [failed]
  exact if_neg real

/-- A query of the Log that its conditions let through answers with its data. -/
theorem logAnswers {i : Instr} {h : CmdHead} {c : HostCmd} {dt : Nat} {s : State} {ok : Dev → Prop} {data : Dev → List Byte} {r : Dev → Nat × List Byte}
    (hex : exec i s = .next { s with dev := (s.later dt).hostCommand h c }) (guarded : ∀ d, Dev.hostGuard c d = asRefusal (r d))
    (runs : ∀ slot (d : Dev), d.hostRun c slot = d.answer slot (r d)) (inside : ∀ d, ok d → r d = (0, data d)) (held : ∀ d e, logHeld e = logHeld d → ok d → ok e) :
    Answers i h c dt s ok data := by
  refine runs_row hex (fun d hd => (guarded d).trans (asRefusal_done (inside d hd))) (fun slot d hd => (runs slot _).trans ?_)
  exact congrArg (fun r => Dev.answer slot r _) (inside _ (held d _ (taken_logHeld h c slot d) hd))

/-- TRACE_CAPTURE past the checks of its fields. -/
theorem guardTraceCapture_defined {period pre : Nat} {d : Dev} (works : d.logFailed = false) (most : period ≤ 64) (defined : pre ≠ 254) :
    d.guardTraceCapture period pre = refuseIf d.log.capture.isSome (guard 1) (refuseIf (decide (1 ≤ d.supply.reef)) (guard 4) none) :=
  (refuseIf_pass _ _ works).trans ((refuseIf_pass _ _ (decide_eq_false (Nat.not_lt.2 most))).trans (refuseIf_pass _ _ (decide_eq_false defined)))

theorem guardTraceCapture_pass {period pre : Nat} {d : Dev} (works : d.logFailed = false) (most : period ≤ 64) (defined : pre ≠ 254)
    (idle : d.log.capture = none) (power : d.supply.reef = 0) : d.guardTraceCapture period pre = none := by
  refine (guardTraceCapture_defined works most defined).trans ((refuseIf_pass _ _ (by rw [idle]; rfl)).trans ?_)
  exact refuseIf_pass _ _ (decide_eq_false (by omega))

/-- TRACE_CAPTURE, with the time at which its order was taken. -/
theorem runTraceCapture_eq (period pre pin slot : Nat) (d : Dev) : d.runTraceCapture period pre pin slot = (
    let period := if period = 0 then d.parN P.LOG_TRACE_PERIOD else period
    let pre := if pre = 255 then d.parN P.LOG_TRACE_PRE else pre
    let t := (d.progress slot 1).startCapture 11 65535 (d.progress slot 1).chron.time period pre (decide (pin = 1)) (some slot)
    if t.log.capture.isSome = true then t else t.abort (some slot) 2) := by
  have time : (d.progress slot 1).chron.time = d.chron.time := by rw [Dev.progress_chron]
  unfold Dev.runTraceCapture
  rw [time]

theorem guardTracePin_pass {n action : Nat} {d : Dev} (works : d.logFailed = false) (slot : n ≤ 511) (taken : d.traceFree n = false)
    (room : action = 1 → (traceHdr d.nv.main n).pinned = true ∨ d.header.pinned < d.parN P.LOG_PIN_MAX) : d.guardTracePin n action = none := by
  refine (refuseIf_pass _ _ works).trans ((refuseIf_pass _ _ (decide_eq_false (Nat.not_lt.2 slot))).trans ?_)
  refine (refuseIf_pass _ _ taken).trans (refuseIf_pass _ _ ?_)
  rw [Bool.eq_false_iff, Ne, Bool.and_eq_true, Bool.and_eq_true, Bool.not_eq_true', decide_eq_true_eq, decide_eq_true_eq]
  rintro ⟨⟨pin, free⟩, full⟩
  rcases room pin with pinned | below
  · rw [free] at pinned
    exact Bool.false_ne_true pinned
  · exact Nat.not_lt.2 full below

theorem guardLogErase_pass {d : Dev} (still : d.inMotion = false) (idle : d.log.capture = none) (open' : d.bin.isSealed = false ∨ d.logFailed = true) :
    d.guardLogErase = none := by
  refine (refuseIf_pass _ _ still).trans ((refuseIf_pass _ _ (by rw [idle]; rfl)).trans (refuseIf_pass _ _ ?_))
  rcases open' with h | h
  · rw [h, Bool.false_and]
  · rw [h, Bool.not_true, Bool.and_false]

/-- The orders and queries of the Log where their checks let them through. -/
theorem logCommandsRun (h : CmdHead) (dt : Nat) (s : State) :
    (∀ first count, Answers (.logRead dt h first count) h (.logRead first count) dt s
      (fun d => d.logFailed = false ∧ 1 ≤ count ∧ count ≤ 20 ∧ d.header.oldest ≤ (readWindow first count d).1
        ∧ (readWindow first count d).1 + (readWindow first count d).2 ≤ d.header.next)
      (fun d =>
        let seqs := (List.range (readWindow first count d).2).map fun i => (readWindow first count d).1 + i
        u32 (readWindow first count d).1 ++ u8 (readWindow first count d).2 ++ u16 0 ++ u32 (bitsOf (seqs.map fun q => d.recordValid q))
          ++ seqs.flatMap fun q => memLoad d.nv.main (48 * (q % 262144)) 48))
    ∧ (∀ first count, Answers (.traceList dt h first count) h (.traceList first count) dt s
      (fun d => d.logFailed = false ∧ first ≤ 511 ∧ 1 ≤ count ∧ count ≤ 48 ∧ first + count ≤ 512)
      (fun d => u16 first ++ u8 count ++ ((List.range count).map fun i => first + i).flatMap fun n =>
        let t := if d.nv.traceOrder.contains n then traceHdr d.nv.main n else {}
        u16 n ++ u8 t.state ++ u8 t.trigger ++ u8 (bitsOf [t.pinned, t.byHost, t.anomaly]) ++ u8 0 ++ u16 t.samples ++ u32 t.seq ++ u64 t.time))
    ∧ (∀ slot off count, Answers (.traceRead dt h slot off count) h (.traceRead slot off count) dt s
      (fun d => d.logFailed = false ∧ slot ≤ 511 ∧ off + count ≤ 8192 ∧ 1 ≤ count ∧ count ≤ 960)
      (fun d => u16 slot ++ u32 (traceHdr d.nv.main slot).seq ++ u16 off ++ u16 count ++ memLoad d.nv.main (0xC00000 + 8192 * slot + off) count)) := by
  refine ⟨fun first count => ?_, fun first count => ?_, fun slot off count => ?_⟩
  · refine logAnswers (r := Dev.logRead first count) rfl (fun _ => rfl) (fun _ _ => rfl) (fun d hd => ?_) (fun d e same hd => ?_)
    · obtain ⟨works, least, most, oldest, newest⟩ := hd
      exact logRead_inside works least most oldest newest
    · have window : readWindow first count e = readWindow first count d := by unfold readWindow; rw [header_of_held same]
      rw [logFailed_of_held same, header_of_held same, window]
      exact hd
  · refine logAnswers (r := Dev.traceList first count) rfl (fun _ => rfl) (fun _ _ => rfl) (fun d hd => ?_) (fun d e same hd => ?_)
    · obtain ⟨works, slot, least, most, inside⟩ := hd
      exact traceList_inside works slot least most inside
    · exact ⟨(logFailed_of_held same).trans hd.1, hd.2⟩
  · refine logAnswers (r := Dev.traceRead slot off count) rfl (fun _ => rfl) (fun _ _ => rfl) (fun d hd => ?_) (fun d e same hd => ?_)
    · obtain ⟨works, trace, inside, least, most⟩ := hd
      exact traceRead_inside works trace inside least most
    · exact ⟨(logFailed_of_held same).trans hd.1, hd.2⟩

theorem traceFree_not {n : Nat} {d : Dev} (written : d.nv.traceOrder.contains n = true) (used : (traceHdr d.nv.main n).state ≠ 0) : d.traceFree n = false := by
  unfold Dev.traceFree
  rw [written, decide_eq_false used]
  rfl

/-! ### Events (R552, R556 to R566) -/

theorem cycleCast_eq (steps : Nat) (ok : Bool) (d : Dev) : d.cycleCast steps ok = (match d.log.run.ended with
    | [] => d.castFront false steps ok
    | r :: _ =>
      if r.kind = 1 ∧ 1 ≤ steps then d.learnUpdate.castFront (decide (d.learnUpdate.nv.eventSeq ≠ d.nv.eventSeq)) steps ok
      else d.castFront false steps ok) := by
  unfold Dev.cycleCast Dev.learnForCast
  cases d.log.run.ended with
  | nil => rfl
  | cons r rest =>
    by_cases learns : r.kind = 1 ∧ 1 ≤ steps
    · simp only [if_pos learns]
    · simp only [if_neg learns]

theorem castFront_eq {anomaly ok : Bool} {steps : Nat} {r : Record} {rest : List Record} {d : Dev} (ended : d.log.run.ended = r :: rest) :
    let t : Dev := { d with log := { d.log with
      run := { d.log.run with ended := rest }, tablesDue := d.log.tablesDue || (decide (r.kind = 1) && decide (6 ≤ steps)) } }
    d.castFront anomaly steps ok = if d.logFailed = true then t
      else t.castOne { r with
        pinned := d.pinnedFor d.header.next
        flags := if anomaly = true ∧ r.flags.testBit 15 = false then r.flags + 32768 else r.flags } steps ok := by
  unfold Dev.castFront
  simp only [ended, Bool.not_eq_true]
  rfl

theorem takeTrigger_failed {code source time : Nat} {rest : List (Nat × Nat × Nat)} {d : Dev} (waits : d.log.triggers = (code, source, time) :: rest)
    (failed : d.logFailed = true) :
    d.takeTrigger = { d with log := { d.log with triggers := rest, run := { d.log.run with traced := true } } } := by
  unfold Dev.takeTrigger
  simp only [waits]
  exact if_pos failed

theorem takeTrigger_running {code source time : Nat} {rest : List (Nat × Nat × Nat)} {c : Capture} {d : Dev}
    (waits : d.log.triggers = (code, source, time) :: rest) (works : d.logFailed = false) (capture : d.log.capture = some c) :
    let hdr := traceHdr d.nv.main c.slot
    let t : Dev := { d with log := { d.log with triggers := rest, run := { d.log.run with traced := true } } }
    let t := t.putTrace c.slot { hdr with further := satU 8 (hdr.further + 1) }
    d.takeTrigger = if 1 ≤ code ∧ code ≤ 10 then t.pinByTrigger c.slot else t := by
  unfold Dev.takeTrigger
  simp only [waits, capture]
  refine (if_neg (Bool.eq_false_iff.1 works)).trans (if_congr ?_ rfl rfl)
  unfold pinsTrace
  rw [Bool.and_eq_true, decide_eq_true_eq, decide_eq_true_eq]

theorem takeTrigger_starts {code source time : Nat} {rest : List (Nat × Nat × Nat)} {d : Dev} (waits : d.log.triggers = (code, source, time) :: rest)
    (works : d.logFailed = false) (idle : d.log.capture = none) :
    let t : Dev := { d with log := { d.log with triggers := rest, run := { d.log.run with traced := true } } }
    d.takeTrigger = if d.captureStopped = true then { t with log := { t.log with missed := satU 16 (t.log.missed + 1) } }
      else t.startCapture code source time (d.parN P.LOG_TRACE_PERIOD) (d.parN P.LOG_TRACE_PRE) false none := by
  unfold Dev.takeTrigger
  simp only [waits, idle]
  exact if_neg (Bool.eq_false_iff.1 works)

/-- The device after the rolling buffer took its sample, where its period has passed. -/
def rolled (d : Dev) : Dev :=
  if d.parN P.LOG_TRACE_PERIOD ≤ d.log.updates then
    { d with log := { d.log with updates := 0, rolling := lastN 253 (d.log.rolling ++ [(d.chron.time, d.traceSample)]) } }
  else d

theorem rolled_capture (d : Dev) : (rolled d).log.capture = d.log.capture := by
  unfold rolled
  split <;> rfl

theorem rolled_kept (d : Dev) : (rolled d).nv = d.nv ∧ (rolled d).chron = d.chron := by
  unfold rolled
  split
  · exact ⟨rfl, rfl⟩
  · exact ⟨rfl, rfl⟩

/-- A sample for a running capture, by its period, its write and its room (R563). -/
theorem takeSample_running {ok : Bool} {c : Capture} {d : Dev} (capture : d.log.capture = some c) : d.takeSample ok =
    if c.updates < c.period then rolled d
    else if ¬ ok = true then (rolled d).failLog 0
    else if 254 ≤ c.samples then rolled d
    else
      let c' : Capture := { c with samples := c.samples + 1, updates := 0, time0 := if c.samples = 0 then d.chron.time else c.time0 }
      let u : Dev := { rolled d with
        nv := { d.nv with main := memStore d.nv.main (0xC00000 + 8192 * c.slot + 64 + 32 * c.samples) d.traceSample }
        log := { (rolled d).log with capture := some c' } }
      if (c.samples + 1) % 16 = 0 then u.putTrace c.slot { traceHdr u.nv.main c.slot with samples := c.samples + 1, time0 := c'.time0 } else u := by
  rw [← (rolled_kept d).1, ← (rolled_kept d).2]
  show (match (rolled d).log.capture with | none => _ | some c => _) = _
  rw [rolled_capture, capture]
  rfl

theorem takeSample_idle {ok : Bool} {d : Dev} (idle : d.log.capture = none) : d.takeSample ok = rolled d := by
  have none' : (rolled d).log.capture = none := (rolled_capture d).trans idle
  unfold Dev.takeSample
  dsimp only
  split
  case h_1 => rfl
  case h_2 c some' => exact absurd (some'.symm.trans none') nofun

theorem failLog_eq (array : Nat) (d : Dev) :
    let t : Dev := { d with
      nv := { d.nv with header := d.nv.header.map fun h => { h with failed := true } }
      log := { d.log with capture := none } }
    d.failLog array = (t.replyTo (d.log.capture.bind (·.order)) 0x1B []).onset 187 2 0xFF (u8 array) := by
  unfold Dev.failLog
  cases d.log.capture <;> rfl

theorem writeDraft_eq {d : Dev} (active : d.log.run.active = true) (works : d.logFailed = false) :
    d.writeDraft = { d with nv := { d.nv with draft := some (d.recSnapshot 0, d.header.next) } } :=
  if_pos ⟨active, Bool.eq_false_iff.1 works⟩

theorem traceFull_due {ok : Bool} {c : Capture} {d : Dev} (capture : d.log.capture = some c) (full : 254 ≤ c.samples) :
    d.traceFull ok = if ok = true then (d.endCapture 2).replyTo c.order 0x00 (u16 c.slot ++ u32 (traceHdr (d.endCapture 2).nv.main c.slot).seq)
      else d.failLog 0 := by
  unfold Dev.traceFull
  rw [capture]
  refine (if_neg (Nat.not_lt.2 full)).trans ?_
  cases ok <;> rfl

theorem traceFull_idle {ok : Bool} {d : Dev} (idle : ¬ ∃ c, d.log.capture = some c ∧ 254 ≤ c.samples) : d.traceFull ok = d := by
  unfold Dev.traceFull
  split
  case h_1 => rfl
  case h_2 c capture => exact if_pos (Nat.not_le.1 fun full => idle ⟨c, capture, full⟩)

/-- Settles O58: each order and query of the Log runs or is refused by its checks, and each event does what its rule says. -/
theorem logCommandsAndEvents : Obligations.LogCommandsAndEvents := by
  unfold Obligations.LogCommandsAndEvents
  refine ⟨fun h dt s => ?_, fun dt s => ⟨fun steps ok => ?_, fun ok => ?_, fun ok => ?_, ?_, fun ok => ?_, fun ok => ?_, fun ok => ?_,
    fun anomaly ok steps r rest d ended => castFront_eq ended, fun d active works => writeDraft_eq active works, fun code source time rest d waits =>
      ⟨takeTrigger_failed waits, fun works c capture => takeTrigger_running waits works capture, fun works idle => takeTrigger_starts waits works idle⟩,
    fun ok d => ⟨takeSample_idle, fun c capture => ?_⟩, failLog_eq⟩⟩
  · obtain ⟨read, list, trace⟩ := logCommandsRun h dt s
    refine ⟨?_, read, list, trace, fun period pre pin => ?_, fun n action => ?_, fun what => ?_, fun first count => ⟨?_, ?_, ?_⟩, fun first count => ⟨?_, ?_, ?_⟩,
      fun n off count => ⟨?_, ?_, ?_, ?_⟩, fun period pre pin => ⟨?_, ?_, ?_, ?_, ?_⟩, fun n action => ⟨?_, ?_, ?_, ?_⟩, fun what => ⟨?_, ?_, ?_⟩⟩
    · exact runs_unchecked rfl (fun _ => rfl) (fun _ _ => rfl)
    · refine runs_row rfl (fun d hd => ?_) (fun slot d _ => ?_)
      · obtain ⟨works, most, defined, idle, power⟩ := hd
        exact guardTraceCapture_pass works most defined idle power
      · generalize d.taken _ _ _ = t
        show t.runTraceCapture period pre pin slot = _
        rw [runTraceCapture_eq]
    · refine runs_row rfl (fun d hd => ?_) (fun slot d _ => ?_)
      · obtain ⟨works, slot, written, used, room⟩ := hd
        exact guardTracePin_pass works slot (traceFree_not written used) room
      · generalize d.taken _ _ _ = t
        show t.runTracePin n action slot = _
        unfold Dev.runTracePin Dev.done
        exact Eq.refl _
    · refine runs_row rfl (fun d hd => ?_) (fun _ _ _ => rfl)
      obtain ⟨still, idle, open'⟩ := hd
      exact guardLogErase_pass still idle open'
    · exact refuses_row rfl (fun d failed => asRefusal_failed (if_pos failed) (by decide))
    · exact refuses_row rfl (fun d hd => asRefusal_failed ((if_neg (Bool.eq_false_iff.1 hd.1)).trans (if_pos hd.2)) (by decide))
    · refine refuses_row rfl (fun d hd => asRefusal_failed ?_ (by decide))
      obtain ⟨works, least, most, outside⟩ := hd
      exact (if_neg (Bool.eq_false_iff.1 works)).trans ((if_neg (by omega)).trans (if_pos outside))
    · exact refuses_row rfl (fun d failed => asRefusal_failed (if_pos failed) (by decide))
    · exact refuses_row rfl (fun d hd => asRefusal_failed ((if_neg (Bool.eq_false_iff.1 hd.1)).trans (if_pos hd.2)) (by decide))
    · refine refuses_row rfl (fun d hd => asRefusal_failed ?_ (by decide))
      obtain ⟨works, slot, outside⟩ := hd
      exact (if_neg (Bool.eq_false_iff.1 works)).trans ((if_neg (Nat.not_lt.2 slot)).trans (if_pos outside))
    · exact refuses_row rfl (fun d failed => asRefusal_failed (if_pos failed) (by decide))
    · exact refuses_row rfl (fun d hd => asRefusal_failed ((if_neg (Bool.eq_false_iff.1 hd.1)).trans (if_pos hd.2)) (by decide))
    · refine refuses_row rfl (fun d hd => asRefusal_failed ?_ (by decide))
      obtain ⟨works, slot, outside⟩ := hd
      exact (if_neg (Bool.eq_false_iff.1 works)).trans ((if_neg (Nat.not_lt.2 slot)).trans (if_pos outside))
    · refine refuses_row rfl (fun d hd => asRefusal_failed ?_ (by decide))
      obtain ⟨works, slot, inside, outside⟩ := hd
      exact (if_neg (Bool.eq_false_iff.1 works)).trans ((if_neg (Nat.not_lt.2 slot)).trans ((if_neg (Nat.not_lt.2 inside)).trans (if_pos outside)))
    · exact refuses_row rfl (fun d failed => refuseIf_fail _ _ failed)
    · exact refuses_row rfl (fun d hd => (refuseIf_pass _ _ hd.1).trans (refuseIf_fail _ _ (decide_eq_true hd.2)))
    · refine refuses_row rfl (fun d hd => ?_)
      obtain ⟨works, most, undefined⟩ := hd
      exact (refuseIf_pass _ _ works).trans ((refuseIf_pass _ _ (decide_eq_false (Nat.not_lt.2 most))).trans (refuseIf_fail _ _ (decide_eq_true undefined)))
    · refine refuses_row rfl (fun d hd => ?_)
      obtain ⟨works, most, defined, busy⟩ := hd
      exact (guardTraceCapture_defined works most defined).trans (refuseIf_fail _ _ busy)
    · refine refuses_row rfl (fun d hd => ?_)
      obtain ⟨works, most, defined, idle, reef⟩ := hd
      exact (guardTraceCapture_defined works most defined).trans ((refuseIf_pass _ _ (by rw [idle]; rfl)).trans (refuseIf_fail _ _ (decide_eq_true reef)))
    · exact refuses_row rfl (fun d failed => refuseIf_fail _ _ failed)
    · exact refuses_row rfl (fun d hd => (refuseIf_pass _ _ hd.1).trans (refuseIf_fail _ _ (decide_eq_true hd.2)))
    · refine refuses_row rfl (fun d hd => ?_)
      obtain ⟨works, slot, free⟩ := hd
      exact (refuseIf_pass _ _ works).trans ((refuseIf_pass _ _ (decide_eq_false (Nat.not_lt.2 slot))).trans (refuseIf_fail _ _ free))
    · refine refuses_row rfl (fun d hd => ?_)
      obtain ⟨works, slot, taken, pin, unpinned, full⟩ := hd
      refine (refuseIf_pass _ _ works).trans ((refuseIf_pass _ _ (decide_eq_false (Nat.not_lt.2 slot))).trans ((refuseIf_pass _ _ taken).trans ?_))
      exact refuseIf_fail _ _ (by rw [decide_eq_true pin, unpinned, decide_eq_true full]; rfl)
    · exact refuses_row rfl (fun d moves => refuseIf_fail _ _ moves)
    · exact refuses_row rfl (fun d hd => (refuseIf_pass _ _ hd.1).trans (refuseIf_fail _ _ hd.2))
    · refine refuses_row rfl (fun d hd => ?_)
      obtain ⟨still, idle, sealed', works⟩ := hd
      refine (refuseIf_pass _ _ still).trans ((refuseIf_pass _ _ (by rw [idle]; rfl)).trans (refuseIf_fail _ _ ?_))
      rw [sealed', works]
      rfl
  · refine readyRow (f := Dev.cycleCast steps ok) rfl (fun d waits => ?_) (fun d idle => ?_)
    · rw [cycleCast_eq]
      cases ended : d.log.run.ended with
      | nil => exact absurd ended waits
      | cons r rest => rfl
    · rw [cycleCast_eq]
      unfold Dev.castFront
      rw [not_not.1 idle]
  · exact readyRow (f := Dev.tablesWritten ok) rfl (fun d due => if_neg (not_not.2 due)) (fun d idle => if_pos idle)
  · refine readyRow (f := Dev.draftWritten ok) rfl (fun d due => if_neg ?_) (fun d idle => if_pos ?_)
    · exact fun k => k.elim (fun k => k due.1) (Bool.eq_false_iff.1 due.2)
    · by_contra k
      rw [not_or, not_not, Bool.not_eq_true] at k
      exact idle k
  · exact readyRow (f := Dev.quietOver) rfl (fun d due => if_pos due) (fun d idle => if_neg idle)
  · refine readyRow (f := Dev.triggered ok) rfl (fun d waits => if_congr ?_ rfl rfl) (fun d idle => (if_pos (.inl ?_)).trans ?_)
    · exact or_iff_right (by rw [List.isEmpty_iff]; exact waits)
    · unfold Dev.takeTrigger
      rw [not_not.1 idle]
    · rw [List.isEmpty_iff]
      exact not_not.1 idle
  · exact liveAlways rfl
  · refine liveRow (f := Dev.traceFull ok) rfl (fun d due => ?_) (fun d idle => traceFull_idle idle)
    obtain ⟨c, capture, full⟩ := due
    rw [traceFull_due capture full, capture]
  · have running := takeSample_running (ok := ok) capture
    refine ⟨fun early => running.trans (if_pos early), fun due failed => running.trans ((if_neg (Nat.not_lt.2 due)).trans (if_pos ?_)),
      fun due taken full => running.trans ((if_neg (Nat.not_lt.2 due)).trans ((if_neg (not_not.2 taken)).trans (if_pos full))),
      fun due taken room => running.trans ((if_neg (Nat.not_lt.2 due)).trans ((if_neg (not_not.2 taken)).trans ((if_neg (Nat.not_le.2 room)).trans ?_)))⟩
    · exact Bool.eq_false_iff.1 failed
    · rfl

end Sys2Proof.Laws

end

section
/-! SUPPORT. O4: what every operation outside the Log engine, the traces and the recovery of the journal leaves alone: the memory of the Log
and the length of the journal. One rule per operation, for `simp`, so that the proof about an operation cites those of the operations that it
calls. Here the shared operations, the buses and the Chronometer. -/

namespace Sys2Proof.Laws

open Sys2Proof Sys2Proof.Machine

/-- What the invariant speaks of: the memory of the Log and the length of the journal. -/
def kept (d : Dev) : List Host.Cell × Nat := (d.nv.main, d.nv.journal.length)

@[simp] theorem kept_mk (now draws nv supply host prm fw door leaf step pilot sext drive skin obst load bin bus chron log) :
    kept ⟨now, draws, nv, supply, host, prm, fw, door, leaf, step, pilot, sext, drive, skin, obst, load, bin, bus, chron, log⟩ =
      (nv.main, nv.journal.length) := rfl

/-- A device that took over another's memory and journal is read as that one. -/
@[simp] theorem kept_nv (d : Dev) : (d.nv.main, d.nv.journal.length) = kept d := (rfl)

@[simp] theorem kept_ite (c : Prop) [Decidable c] (d e : Dev) : kept (if c then d else e) = if c then kept d else kept e :=
  apply_ite kept c d e

@[simp] theorem kept_ite_snd {α : Type} (c : Prop) [Decidable c] (p q : α × Dev) :
    kept (if c then p else q).2 = if c then kept p.2 else kept q.2 :=
  apply_ite (fun r : α × Dev => kept r.2) c p q

@[simp] theorem kept_foldl {α : Type} {f : Dev → α → Dev} (hf : ∀ d a, kept (f d a) = kept d) (as : List α) (d : Dev) :
    kept (as.foldl f d) = kept d := by
  induction as generalizing d with
  | nil => rfl
  | cons a as ih => exact (ih _).trans (hf d a)

/-- The model's own recursions over a list, which take its members one by one from the front. -/
theorem kept_recursion {α : Type} {run : List α → Dev → Dev} {f : α → Dev → Dev} (nil : ∀ d, run [] d = d)
    (cons : ∀ a as d, run (a :: as) d = run as (f a d)) (hf : ∀ a d, kept (f a d) = kept d) (as : List α) (d : Dev) :
    kept (run as d) = kept d := by
  induction as generalizing d with
  | nil => rw [nil]
  | cons a as ih => rw [cons, ih, hf]

/-! ### Replies, events and the shared operations -/

@[simp] theorem kept_advance (dt : Nat) (d : Dev) : kept (d.advance dt) = kept d := by simp [Dev.advance]
@[simp] theorem kept_drawBit (d : Dev) : kept d.drawBit.2 = kept d := rfl
@[simp] theorem kept_drawValue (d : Dev) : kept d.drawValue.2 = kept d := rfl

@[simp] theorem kept_queueEvent (src sev : Nat) (data : List Byte) (time : Nat) (d : Dev) : kept (d.queueEvent src sev data time) = kept d := by
  simp [Dev.queueEvent]

@[simp] theorem kept_raiseAt (src sev phase subject : Nat) (fields : List Byte) (time : Nat) (d : Dev) :
    kept (d.raiseAt src sev phase subject fields time) = kept d := by
  simp [Dev.raiseAt]

@[simp] theorem kept_raise (src sev subject : Nat) (fields : List Byte) (d : Dev) : kept (d.raise src sev subject fields) = kept d := by
  simp [Dev.raise]

@[simp] theorem kept_onset (src sev subject : Nat) (fields : List Byte) (d : Dev) : kept (d.onset src sev subject fields) = kept d := by
  simp [Dev.onset]

@[simp] theorem kept_endStanding (src subject : Nat) (d : Dev) : kept (d.endStanding src subject) = kept d :=
  rfl

@[simp] theorem kept_clearing (src subject : Nat) (fields : List Byte) (d : Dev) : kept (d.clearing src subject fields) = kept d := by
  simp [Dev.clearing]

@[simp] theorem kept_follow (src sev subject : Nat) (holds : Bool) (fields : List Byte) (d : Dev) :
    kept (d.follow src sev subject holds fields) = kept d := by
  simp [Dev.follow]

@[simp] theorem kept_putEntry (slot : Nat) (e : JEntry) (d : Dev) : kept (d.putEntry slot e) = kept d :=
  congrArg (Prod.mk d.nv.main) (length_setAt ..)

@[simp] theorem kept_progress (slot n : Nat) (d : Dev) : kept (d.progress slot n) = kept d := by simp [Dev.progress]

@[simp] theorem kept_replyFlags (slot status : Nat) (data : List Byte) (flags : Nat) (d : Dev) :
    kept (d.replyFlags slot status data flags) = kept d := by
  simp [Dev.replyFlags]

@[simp] theorem kept_reply (slot status : Nat) (data : List Byte) (d : Dev) : kept (d.reply slot status data) = kept d := by
  simp [Dev.reply]

@[simp] theorem kept_done (slot : Nat) (data : List Byte) (d : Dev) : kept (d.done slot data) = kept d := by simp [Dev.done]

@[simp] theorem kept_replyTo (slot : Option Nat) (status : Nat) (data : List Byte) (d : Dev) : kept (d.replyTo slot status data) = kept d := by
  unfold Dev.replyTo
  split <;> simp

@[simp] theorem kept_reporting (seq : Nat) {f : Dev → Dev} (hf : ∀ d, kept (f d) = kept d) (d : Dev) : kept (d.reporting seq f) = kept d :=
  hf { d with host := { d.host with cause := some seq } }

@[simp] theorem kept_abort (slot : Option Nat) (reason : Nat) (d : Dev) : kept (d.abort slot reason) = kept d := by
  simp [Dev.abort]

@[simp] theorem kept_reportLost (d : Dev) : kept d.reportLost = kept d := by simp [Dev.reportLost]

@[simp] theorem kept_packetLeft (d : Dev) : kept d.packetLeft = kept d := by
  unfold Dev.packetLeft
  split <;> simp

@[simp] theorem kept_sendUpTo (n : Nat) (d : Dev) : kept (Dev.sendUpTo n d) = kept d := by
  induction n generalizing d with
  | zero => rfl
  | succ n ih =>
    unfold Dev.sendUpTo
    split
    · rfl
    · simp [ih]

/-! ### The bus controllers -/

@[simp] theorem kept_setBus (x : Nat) (b : Bus) (d : Dev) : kept (d.setBus x b) = kept d := by simp [Dev.setBus]
@[simp] theorem kept_busState (x new : Nat) (d : Dev) : kept (d.busState x new) = kept d := by simp [Dev.busState]

@[simp] theorem kept_endSend (x : Nat) (s : SendObject) (result cause time : Nat) (d : Dev) : kept (d.endSend x s result cause time) = kept d := by
  simp [Dev.endSend]

@[simp] theorem kept_cancelSend (x : Nat) (s : SendObject) (slot status : Nat) (d : Dev) : kept (d.cancelSend x s slot status) = kept d := by
  simp [Dev.cancelSend]

@[simp] theorem kept_failSends (x cause : Nat) (ss : List SendObject) (d : Dev) : kept (Dev.failSends x cause ss d) = kept d := by
  refine kept_recursion (fun _ => rfl) (fun _ _ _ => rfl) (fun s d => ?_) ss d
  split
  · exact kept_cancelSend ..
  · exact kept_endSend ..

@[simp] theorem kept_resendHost (x : Nat) (d : Dev) : kept (d.resendHost x) = kept d := by simp [Dev.resendHost]
@[simp] theorem kept_busOff (x : Nat) (d : Dev) : kept (d.busOff x) = kept d := by simp [Dev.busOff]
@[simp] theorem kept_busJudge (x : Nat) (d : Dev) : kept (d.busJudge x) = kept d := by simp [Dev.busJudge]

@[simp] theorem kept_busReceiveError (x code : Nat) (dominant : Bool) (d : Dev) : kept (d.busReceiveError x code dominant) = kept d := by
  simp [Dev.busReceiveError]

@[simp] theorem kept_busGoodReceive (x : Nat) (d : Dev) : kept (d.busGoodReceive x) = kept d := by simp [Dev.busGoodReceive]
@[simp] theorem kept_exception (x : Nat) (d : Dev) : kept (d.exception x) = kept d := by simp [Dev.exception]
@[simp] theorem kept_busReceive (x : Nat) (f : FrameIn) (d : Dev) : kept (d.busReceive x f) = kept d := by simp [Dev.busReceive]

@[simp] theorem kept_takeFrame {x : Nat} {d t : Dev} {e : RxEntry} (taken : d.takeFrame x = some (e, t)) : kept t = kept d := by
  unfold Dev.takeFrame at taken
  dsimp only at taken
  split at taken
  · exact absurd taken nofun
  · split at taken
    · cases taken
      simp
    · cases taken
      exact kept_setBus ..

@[simp] theorem kept_storeObject (x obj : Nat) (e : RxEntry) (d : Dev) : kept (d.storeObject x obj e) = kept d := by
  simp [Dev.storeObject]

@[simp] theorem kept_storePriority (x n : Nat) (e : RxEntry) (d : Dev) : kept (d.storePriority x n e) = kept d := by
  simp [Dev.storePriority]

@[simp] theorem kept_routeHost (x : Nat) (r : Route) (e : RxEntry) (d : Dev) : kept (d.routeHost x r e) = kept d := by
  unfold Dev.routeHost
  split <;> simp

@[simp] theorem kept_commitAttempt (x : Nat) (idle : Bool) (d : Dev) : kept (d.commitAttempt x idle) = kept d := by
  unfold Dev.commitAttempt
  split <;> simp

@[simp] theorem kept_handOver (x : Nat) (e : DeviceFrame) (drag : Bool) (d : Dev) : kept (d.handOver x e drag) = kept d := by
  unfold Dev.handOver
  dsimp only
  repeat' split
  all_goals simp

@[simp] theorem kept_collide (x obj ident count : Nat) (told : Bool) (d : Dev) : kept (d.collide x obj ident count told) = kept d := by
  simp [Dev.collide]

@[simp] theorem kept_endHostAttempt (x : Nat) (s : SendObject) (r : AttemptIn) (d : Dev) : kept (d.endHostAttempt x s r) = kept d := by
  unfold Dev.endHostAttempt
  dsimp only
  repeat' split
  all_goals simp

@[simp] theorem kept_endDeviceAttempt (x obj : Nat) (r : AttemptIn) (d : Dev) : kept (d.endDeviceAttempt x obj r) = kept d := by
  unfold Dev.endDeviceAttempt
  dsimp only
  split <;> simp

@[simp] theorem kept_endSegment (x : Nat) (r : AttemptIn) (d : Dev) : kept (d.endSegment x r) = kept d := by
  unfold Dev.endSegment
  dsimp only
  repeat' split
  all_goals simp

@[simp] theorem kept_endAttempt (x : Nat) (r : AttemptIn) (d : Dev) : kept (d.endAttempt x r) = kept d := by
  unfold Dev.endAttempt
  dsimp only
  repeat' split
  all_goals simp

@[simp] theorem kept_busApply (x : Nat) (d : Dev) : kept (d.busApply x) = kept d := by simp [Dev.busApply]
@[simp] theorem kept_busStart (x : Nat) (t : BusTable) (d : Dev) : kept (d.busStart x t) = kept d := by simp [Dev.busStart]
@[simp] theorem kept_busReconfigure (x : Nat) (d : Dev) : kept (d.busReconfigure x) = kept d := by simp [Dev.busReconfigure]
@[simp] theorem kept_busIntegrate (x : Nat) (d : Dev) : kept (d.busIntegrate x) = kept d := by simp [Dev.busIntegrate]
@[simp] theorem kept_clockLost (x : Nat) (d : Dev) : kept (d.clockLost x) = kept d := by simp [Dev.clockLost]

@[simp] theorem kept_endRecover (x result : Nat) (d : Dev) : kept (d.endRecover x result) = kept d := by
  unfold Dev.endRecover
  dsimp only
  split <;> simp

@[simp] theorem kept_busRead (x kind index consume off count : Nat) (d : Dev) : kept (d.busRead x kind index consume off count).2.2 = kept d := by
  unfold Dev.busRead
  dsimp only
  repeat' split
  all_goals simp

/-! ### The Chronometer and the telegrams -/

@[simp] theorem kept_chronState (new : Nat) (d : Dev) : kept (d.chronState new) = kept d := by simp [Dev.chronState]
@[simp] theorem kept_chronStep (e : Int) (d : Dev) : kept (d.chronStep e) = kept d := by simp [Dev.chronStep]
@[simp] theorem kept_chronMaster (rank : Option Nat) (d : Dev) : kept (d.chronMaster rank) = kept d := by simp [Dev.chronMaster]
@[simp] theorem kept_sendReference (d : Dev) : kept d.sendReference = kept d := by simp [Dev.sendReference]
@[simp] theorem kept_becomeMaster (d : Dev) : kept d.becomeMaster = kept d := by simp [Dev.becomeMaster]
@[simp] theorem kept_yieldMaster (state : Nat) (d : Dev) : kept (d.yieldMaster state) = kept d := by simp [Dev.yieldMaster]

@[simp] theorem kept_discipline (e : Int) (discontinuity : Bool) (d : Dev) : kept (d.discipline e discontinuity) = kept d := by
  simp [Dev.discipline]

@[simp] theorem kept_reference (data : List Byte) (s : Nat) (d : Dev) : kept (d.reference data s) = kept d := by
  simp [Dev.reference]

@[simp] theorem kept_watchMasterBus (d : Dev) : kept d.watchMasterBus = kept d := by simp [Dev.watchMasterBus]

@[simp] theorem kept_modConn (c : Nat) (f : Conn → Conn) (d : Dev) : kept (d.modConn c f) = kept d :=
  rfl

@[simp] theorem kept_sendTelegram (c : Nat) (d : Dev) : kept (d.sendTelegram c) = kept d := by simp [Dev.sendTelegram]

@[simp] theorem kept_sendKind (kind : Nat) (d : Dev) : kept (d.sendKind kind) = kept d := by
  unfold Dev.sendKind
  split <;> simp

@[simp] theorem kept_acceptTelegram (c seq stamp : Nat) (payload : List Byte) (d : Dev) : kept (d.acceptTelegram c seq stamp payload) = kept d := by
  simp [Dev.acceptTelegram]

@[simp] theorem kept_resync (c : Nat) (candidate : Option (Nat × Nat)) (d : Dev) : kept (d.resync c candidate) = kept d := by
  simp [Dev.resync]

@[simp] theorem kept_telegramError (c : Nat) (e : TelegramError) (d : Dev) : kept (d.telegramError c e) = kept d := by
  simp [Dev.telegramError]

@[simp] theorem kept_receiveTelegram (c : Nat) (f : FrameIn) (d : Dev) : kept (d.receiveTelegram c f) = kept d := by
  unfold Dev.receiveTelegram
  dsimp only
  repeat' split
  all_goals simp

@[simp] theorem kept_expireConn (c : Nat) (d : Dev) : kept (d.expireConn c) = kept d := by simp [Dev.expireConn]
@[simp] theorem kept_chronSet (time : Nat) (d : Dev) : kept (d.chronSet time) = kept d := by simp [Dev.chronSet]
@[simp] theorem kept_noteSent (obj stamp : Nat) (d : Dev) : kept (d.noteSent obj stamp) = kept d := by simp [Dev.noteSent]

end Sys2Proof.Laws

end

section
/-! SUPPORT. O4: the memory of the Log and the length of the journal through the operations of the loads, the Log engine, the reset,
Binnacle and the bridges. -/

namespace Sys2Proof.Laws

open Sys2Proof Sys2Proof.Machine

/-! ### The load channels and the jury -/

@[simp] theorem kept_modCh (n : Nat) (f : Channel → Channel) (d : Dev) : kept (d.modCh n f) = kept d :=
  rfl

@[simp] theorem kept_applyDemand (n : Nat) (d : Dev) : kept (d.applyDemand n) = kept d := by simp [Dev.applyDemand]

@[simp] theorem kept_applyDemands (ns : List Nat) (d : Dev) : kept (Dev.applyDemands ns d) = kept d :=
  kept_recursion (fun _ => rfl) (fun _ _ _ => rfl) (kept_applyDemand) _ d

@[simp] theorem kept_judgePair (p : Nat) (d : Dev) : kept (d.judgePair p) = kept d := by simp [Dev.judgePair]

@[simp] theorem kept_judgeTests (d : Dev) : kept d.judgeTests = kept d := by
  unfold Dev.judgeTests
  split <;> simp

@[simp] theorem kept_failPrimary (n why : Nat) (d : Dev) : kept (d.failPrimary n why) = kept d := by
  unfold Dev.failPrimary
  split <;> simp

@[simp] theorem kept_judgePrimary (p : Nat) (d : Dev) : kept (d.judgePrimary p) = kept d := by simp [Dev.judgePrimary]
@[simp] theorem kept_refreshLoads (d : Dev) : kept d.refreshLoads = kept d := by simp [Dev.refreshLoads]

@[simp] theorem kept_loadTrip (n cause current : Nat) (d : Dev) : kept (d.loadTrip n cause current) = kept d := by
  simp [Dev.loadTrip]

@[simp] theorem kept_clearLatch (n : Nat) (d : Dev) : kept (d.clearLatch n) = kept d := by simp [Dev.clearLatch]

@[simp] theorem kept_unlatch (mask : Nat) (ns : List Nat) (d : Dev) : kept (Dev.unlatch mask ns d).2 = kept d := by
  induction ns generalizing d with
  | nil => rfl
  | cons n ns ih =>
    unfold Dev.unlatch
    simp [ih]

@[simp] theorem kept_darkEvent (n kind : Nat) (d : Dev) : kept (d.darkEvent n kind) = kept d := by simp [Dev.darkEvent]
@[simp] theorem kept_lampDark (n : Nat) (d : Dev) : kept (d.lampDark n) = kept d := by simp [Dev.lampDark]

@[simp] theorem kept_offTest (n mv : Nat) (d : Dev) : kept (d.offTest n mv) = kept d := by
  unfold Dev.offTest
  dsimp only
  repeat' split
  all_goals simp

@[simp] theorem kept_freewheelMissing (n : Nat) (mv : Int) (d : Dev) : kept (d.freewheelMissing n mv) = kept d := by
  simp [Dev.freewheelMissing]

@[simp] theorem kept_renewLoad (n : Nat) (d : Dev) : kept (d.renewLoad n) = kept d := by simp [Dev.renewLoad]
@[simp] theorem kept_renewLoads (d : Dev) : kept d.renewLoads = kept d := by simp [Dev.renewLoads]
@[simp] theorem kept_juryChange (level : Bool) (d : Dev) : kept (d.juryChange level) = kept d := by simp [Dev.juryChange]

@[simp] theorem kept_jinClear (i : Nat) (ns : List Nat) (d : Dev) : kept (Dev.jinClear i ns d) = kept d :=
  kept_recursion (fun _ => rfl) (fun _ _ _ => rfl) (fun _ _ => by simp) _ d

@[simp] theorem kept_jinChange (i : Nat) (level : Bool) (d : Dev) : kept (d.jinChange i level) = kept d := by simp [Dev.jinChange]

@[simp] theorem kept_sampleChannels (currents : List Nat) (temps : List Int) (ns : List Nat) (d : Dev) :
    kept (Dev.sampleChannels currents temps ns d) = kept d :=
  kept_recursion (fun _ => rfl) (fun _ _ _ => rfl) (fun _ _ => kept_modCh ..) _ d

@[simp] theorem kept_measureLoads (currents : List Nat) (temps : List Int) (d : Dev) : kept (d.measureLoads currents temps) = kept d := by
  simp [Dev.measureLoads]

@[simp] theorem kept_moveLimit (lower : Bool) (n : Nat) (d : Dev) : kept (d.moveLimit lower n) = kept d := by simp [Dev.moveLimit]

@[simp] theorem kept_moveLimits (lower : Bool) (ns : List Nat) (d : Dev) : kept (Dev.moveLimits lower ns d) = kept d :=
  kept_recursion (fun _ => rfl) (fun _ _ _ => rfl) (kept_moveLimit lower) _ d

@[simp] theorem kept_derate (d : Dev) : kept d.derate = kept d := by simp [Dev.derate]
@[simp] theorem kept_lchSet (channels states : Nat) (d : Dev) : kept (d.lchSet channels states) = kept d := by simp [Dev.lchSet]

@[simp] theorem kept_lchOffTest (slot channels : Nat) (d : Dev) : kept (d.lchOffTest slot channels) = kept d := by
  simp [Dev.lchOffTest]

/-! ### The Log engine, as far as it leaves its memory alone -/

@[simp] theorem kept_putHeader (h : LogHeader) (d : Dev) : kept (d.putHeader h) = kept d := rfl
@[simp] theorem kept_failLog (array : Nat) (d : Dev) : kept (d.failLog array) = kept d := by simp [Dev.failLog]
@[simp] theorem kept_recFlag (n : Nat) (d : Dev) : kept (d.recFlag n) = kept d := by simp [Dev.recFlag]
@[simp] theorem kept_endRecord (reason : Nat) (d : Dev) : kept (d.endRecord reason) = kept d := by simp [Dev.endRecord]
@[simp] theorem kept_beginRecord (kind : Nat) (d : Dev) : kept (d.beginRecord kind) = kept d := by simp [Dev.beginRecord]
@[simp] theorem kept_recUpdate (d : Dev) : kept d.recUpdate = kept d := by simp [Dev.recUpdate]
@[simp] theorem kept_recReef (stage : Nat) (d : Dev) : kept (d.recReef stage) = kept d := by simp [Dev.recReef]
@[simp] theorem kept_recDemand (sources cls : Nat) (d : Dev) : kept (d.recDemand sources cls) = kept d := by simp [Dev.recDemand]
@[simp] theorem kept_recWithdrawal (cause : Nat) (d : Dev) : kept (d.recWithdrawal cause) = kept d := by simp [Dev.recWithdrawal]
@[simp] theorem kept_recCloseBegins (d : Dev) : kept d.recCloseBegins = kept d := by simp [Dev.recCloseBegins]
@[simp] theorem kept_recState (old new : Nat) (d : Dev) : kept (d.recState old new) = kept d := by simp [Dev.recState]
@[simp] theorem kept_restartRolling (d : Dev) : kept d.restartRolling = kept d := rfl
@[simp] theorem kept_trigger (code source : Nat) (d : Dev) : kept (d.trigger code source) = kept d := by simp [Dev.trigger]
@[simp] theorem kept_writeDraft (d : Dev) : kept d.writeDraft = kept d := by simp [Dev.writeDraft]
@[simp] theorem kept_headerKept (f : LogHeader → LogHeader) (d : Dev) : kept (d.headerKept f) = kept d := by simp [Dev.headerKept]

/-! ### Reset -/

@[simp] theorem kept_enterReset (causes : List Nat) (d : Dev) : kept (d.enterReset causes) = kept d := by simp [Dev.enterReset]

@[simp] theorem kept_resetIfRunning (causes : List Nat) (d : Dev) : kept (d.resetIfRunning causes) = kept d := by
  simp [Dev.resetIfRunning]

/-! ### Binnacle -/

@[simp] theorem kept_modBin (f : Binnacle → Binnacle) (d : Dev) : kept (d.modBin f) = kept d := rfl
@[simp] theorem kept_clearTestFaults (p : Nat) (d : Dev) : kept (d.clearTestFaults p) = kept d := by simp [Dev.clearTestFaults]
@[simp] theorem kept_tickPair (p : Nat) (d : Dev) : kept (d.tickPair p) = kept d := by simp [Dev.tickPair]

@[simp] theorem kept_tickPairs (ps : List Nat) (d : Dev) : kept (Dev.tickPairs ps d) = kept d :=
  kept_recursion (fun _ => rfl) (fun _ _ _ => rfl) (kept_tickPair) _ d

@[simp] theorem kept_tpoFails (n mv : Nat) (d : Dev) : kept (d.tpoFails n mv) = kept d := by simp [Dev.tpoFails]

@[simp] theorem kept_tickTpo (tpo : List Nat) (vhv : Nat) (ns : List Nat) (d : Dev) : kept (Dev.tickTpo tpo vhv ns d) = kept d := by
  refine kept_recursion (fun _ => rfl) (fun _ _ _ => rfl) (fun n d => ?_) ns d
  split
  · simp
  · rfl

@[simp] theorem kept_tickSamples (levels : Nat) (d : Dev) : kept (d.tickSamples levels) = kept d := rfl
@[simp] theorem kept_testWindow (n mv reads : Nat) (d : Dev) : kept (d.testWindow n mv reads) = kept d := by simp [Dev.testWindow]

@[simp] theorem kept_modOut (o : Nat) (f : SafeOutput → SafeOutput) (d : Dev) : kept (d.modOut o f) = kept d := by
  simp [Dev.modOut]

@[simp] theorem kept_openOut (o : Nat) (d : Dev) : kept (d.openOut o) = kept d := by simp [Dev.openOut]
@[simp] theorem kept_closeOut (o : Nat) (d : Dev) : kept (d.closeOut o) = kept d := by simp [Dev.closeOut]
@[simp] theorem kept_tickLoop (o current : Nat) (d : Dev) : kept (d.tickLoop o current) = kept d := by simp [Dev.tickLoop]
@[simp] theorem kept_offPulse (o current : Nat) (d : Dev) : kept (d.offPulse o current) = kept d := by simp [Dev.offPulse]

@[simp] theorem kept_loopOpen (o : Nat) (d : Dev) : kept (d.loopOpen o) = kept d := by
  unfold Dev.loopOpen
  dsimp only
  split <;> simp

@[simp] theorem kept_loopLimit (o current : Nat) (d : Dev) : kept (d.loopLimit o current) = kept d := by simp [Dev.loopLimit]
@[simp] theorem kept_tickLine (d : Dev) : kept d.tickLine = kept d := by simp [Dev.tickLine]

@[simp] theorem kept_judgeDirection (permit : Bool) (d : Dev) : kept (d.judgeDirection permit) = kept d := by
  simp [Dev.judgeDirection]

@[simp] theorem kept_edgeSilence (d : Dev) : kept d.edgeSilence = kept d := by simp [Dev.edgeSilence]
@[simp] theorem kept_speedUnproven (d : Dev) : kept d.speedUnproven = kept d := by simp [Dev.speedUnproven]

@[simp] theorem kept_judgeUnproven (d : Dev) : kept d.judgeUnproven = kept d := by
  unfold Dev.judgeUnproven
  split <;> simp

@[simp] theorem kept_unprovenTooLong (d : Dev) : kept d.unprovenTooLong = kept d := by simp [Dev.unprovenTooLong]
@[simp] theorem kept_binEdge (opening : Bool) (d : Dev) : kept (d.binEdge opening) = kept d := by simp [Dev.binEdge]

@[simp] theorem kept_binHall (code : Nat) (d : Dev) : kept (d.binHall code) = kept d := by
  unfold Dev.binHall
  dsimp only
  repeat' split
  all_goals simp

@[simp] theorem kept_classAFault (n : Nat) (d : Dev) : kept (d.classAFault n) = kept d := by simp [Dev.classAFault]
@[simp] theorem kept_diagnosticFails (n : Nat) (d : Dev) : kept (d.diagnosticFails n) = kept d := by simp [Dev.diagnosticFails]

@[simp] theorem kept_takeReport (seq : Nat) (ok : Bool) (d : Dev) : kept (d.takeReport seq ok) = kept d := by
  unfold Dev.takeReport
  dsimp only
  repeat' split
  all_goals simp

@[simp] theorem kept_tickReport (d : Dev) : kept d.tickReport = kept d := by simp [Dev.tickReport]
@[simp] theorem kept_tickUnproven (d : Dev) : kept d.tickUnproven = kept d := by simp [Dev.tickUnproven]
@[simp] theorem kept_tickProved (d : Dev) : kept d.tickProved = kept d := by simp [Dev.tickProved]
@[simp] theorem kept_tickDrag (d : Dev) : kept d.tickDrag = kept d := by simp [Dev.tickDrag]

@[simp] theorem kept_dragClear (d : Dev) : kept d.dragClear = kept d := by
  unfold Dev.dragClear
  split <;> simp

@[simp] theorem kept_tickTraction (d : Dev) : kept d.tickTraction = kept d := by simp [Dev.tickTraction]

@[simp] theorem kept_tickSeal (d : Dev) : kept d.tickSeal = kept d := by
  unfold Dev.tickSeal
  split <;> simp

@[simp] theorem kept_tickConns (d : Dev) : kept d.tickConns = kept d := rfl
@[simp] theorem kept_safetyTick (seen : TickIn) (d : Dev) : kept (d.safetyTick seen) = kept d := by simp [Dev.safetyTick]

@[simp] theorem kept_evaluateSeal (rewritten : Bool) (d : Dev) : kept (d.evaluateSeal rewritten) = kept d := by
  simp [Dev.evaluateSeal]

@[simp] theorem kept_sealNow (value : Nat) (d : Dev) : kept (d.sealNow value) = kept d := by simp [Dev.sealNow]

/-! ### The bridges -/

@[simp] theorem kept_modDrive (f : Drive → Drive) (d : Dev) : kept (d.modDrive f) = kept d := rfl
@[simp] theorem kept_modLeg (n : Nat) (f : Leg → Leg) (d : Dev) : kept (d.modLeg n f) = kept d := rfl

@[simp] theorem kept_modBridge (n : Nat) (f : Bridge → Bridge) (d : Dev) : kept (d.modBridge n f) = kept d := by
  simp [Dev.modBridge]

@[simp] theorem kept_latchBridge (n : Nat) (d : Dev) : kept (d.latchBridge n) = kept d := by simp [Dev.latchBridge]
@[simp] theorem kept_limitShort (d : Dev) : kept d.limitShort = kept d := by simp [Dev.limitShort]
@[simp] theorem kept_judgeShort (d : Dev) : kept d.judgeShort = kept d := by simp [Dev.judgeShort]
@[simp] theorem kept_vdsTrip (leg : Nat) (high : Bool) (d : Dev) : kept (d.vdsTrip leg high) = kept d := by simp [Dev.vdsTrip]

@[simp] theorem kept_gateFault (leg : Nat) (high stuckOn : Bool) (d : Dev) : kept (d.gateFault leg high stuckOn) = kept d := by
  simp [Dev.gateFault]

@[simp] theorem kept_overCurrent (n : Nat) (d : Dev) : kept (d.overCurrent n) = kept d := by simp [Dev.overCurrent]
@[simp] theorem kept_clearBridge (n : Nat) (d : Dev) : kept (d.clearBridge n) = kept d := by simp [Dev.clearBridge]
@[simp] theorem kept_bootRead (leg mv : Nat) (d : Dev) : kept (d.bootRead leg mv) = kept d := by simp [Dev.bootRead]
@[simp] theorem kept_bootstrapLow (leg mv : Nat) (d : Dev) : kept (d.bootstrapLow leg mv) = kept d := by simp [Dev.bootstrapLow]

@[simp] theorem kept_bootReads (n : Nat) (mvs : List Nat) (d : Dev) : kept (Dev.bootReads n mvs d) = kept d := by
  induction mvs generalizing n d with
  | nil => rfl
  | cons mv rest ih => exact (ih _ _).trans (kept_bootRead n mv d)

@[simp] theorem kept_startDead (n : Nat) (d : Dev) : kept (d.startDead n) = kept d := by simp [Dev.startDead]
@[simp] theorem kept_holdHigh (n : Nat) (d : Dev) : kept (d.holdHigh n) = kept d := by simp [Dev.holdHigh]

@[simp] theorem kept_setBridge (n want : Nat) (moving : Bool) (d : Dev) : kept (d.setBridge n want moving) = kept d := by
  simp [Dev.setBridge]

@[simp] theorem kept_takeBridges (d : Dev) : kept d.takeBridges = kept d := by simp [Dev.takeBridges]

@[simp] theorem kept_prechargeEnd (n : Nat) (d : Dev) : kept (d.prechargeEnd n) = kept d := by
  unfold Dev.prechargeEnd
  split <;> simp

@[simp] theorem kept_offsetOf (c : Nat) (v : Int) (d : Dev) : kept (d.offsetOf c v) = kept d := by simp [Dev.offsetOf]

@[simp] theorem kept_measureOffsets (always : Bool) (c : Nat) (vs : List Int) (d : Dev) : kept (Dev.measureOffsets always c vs d) = kept d := by
  induction vs generalizing c d with
  | nil => rfl
  | cons v vs ih =>
    refine (ih _ _).trans ?_
    simp

@[simp] theorem kept_deadMeasure (leg : Nat) (edgeFalling : Bool) (m : Int) (d : Dev) : kept (d.deadMeasure leg edgeFalling m) = kept d := by
  simp [Dev.deadMeasure]

@[simp] theorem kept_deadMeasures (delays : List (Nat × Int × Int)) (d : Dev) : kept (Dev.deadMeasures delays d) = kept d :=
  kept_recursion (fun _ => rfl) (fun _ _ _ => rfl) (fun ⟨_, _, _⟩ _ => by simp) _ d

@[simp] theorem kept_trimDeads (d : Dev) : kept d.trimDeads = kept d := by simp [Dev.trimDeads]
@[simp] theorem kept_busOver (mv : Nat) (d : Dev) : kept (d.busOver mv) = kept d := by simp [Dev.busOver]
@[simp] theorem kept_busOverEnd (mv : Nat) (d : Dev) : kept (d.busOverEnd mv) = kept d := by simp [Dev.busOverEnd]
@[simp] theorem kept_motorTemp (mv : Nat) (d : Dev) : kept (d.motorTemp mv) = kept d := by simp [Dev.motorTemp]

end Sys2Proof.Laws

end

section
/-! SUPPORT. O4: the memory of the Log and the length of the journal through the operations of position, loops and axes. -/

namespace Sys2Proof.Laws

open Sys2Proof Sys2Proof.Machine

/-! ### The position -/

@[simp] theorem kept_modSext (f : Sextant → Sextant) (d : Dev) : kept (d.modSext f) = kept d := rfl
@[simp] theorem kept_modPilot (f : Pilot → Pilot) (d : Dev) : kept (d.modPilot f) = kept d := rfl
@[simp] theorem kept_modLeaf (f : LeafPlan → LeafPlan) (d : Dev) : kept (d.modLeaf f) = kept d := rfl
@[simp] theorem kept_modStep (f : StepPlan → StepPlan) (d : Dev) : kept (d.modStep f) = kept d := rfl
@[simp] theorem kept_modDoor (f : Door → Door) (d : Dev) : kept (d.modDoor f) = kept d := rfl
@[simp] theorem kept_refLost (cause : Nat) (um : Int) (d : Dev) : kept (d.refLost cause um) = kept d := by simp [Dev.refLost]
@[simp] theorem kept_lostFeedback (cause : Nat) (d : Dev) : kept (d.lostFeedback cause) = kept d := by simp [Dev.lostFeedback]
@[simp] theorem kept_leaderLost (reason : Nat) (d : Dev) : kept (d.leaderLost reason) = kept d := by simp [Dev.leaderLost]
@[simp] theorem kept_judgeFrozen (d : Dev) : kept d.judgeFrozen = kept d := by simp [Dev.judgeFrozen]
@[simp] theorem kept_moveCounter (opening : Bool) (d : Dev) : kept (d.moveCounter opening) = kept d := by simp [Dev.moveCounter]
@[simp] theorem kept_goodEdge (d : Dev) : kept d.goodEdge = kept d := by simp [Dev.goodEdge]
@[simp] theorem kept_hallIllegal (n code : Nat) (d : Dev) : kept (d.hallIllegal n code) = kept d := by simp [Dev.hallIllegal]

@[simp] theorem kept_countEdge (opening : Bool) (code sector : Nat) (d : Dev) : kept (d.countEdge opening code sector) = kept d := by
  simp [Dev.countEdge]

@[simp] theorem kept_hallChange (code : Nat) (d : Dev) : kept (d.hallChange code) = kept d := by
  unfold Dev.hallChange
  dsimp only
  repeat' split
  all_goals simp

@[simp] theorem kept_decaySpeed (d : Dev) : kept d.decaySpeed = kept d := by simp [Dev.decaySpeed]
@[simp] theorem kept_speedTimeout (d : Dev) : kept d.speedTimeout = kept d := by simp [Dev.speedTimeout]

@[simp] theorem kept_compareUnit (n : Nat) (p0 : Int) (t0 : Nat) (d : Dev) : kept (d.compareUnit n p0 t0) = kept d := by
  simp [Dev.compareUnit]

@[simp] theorem kept_compareAll (p0 : Int) (t0 : Nat) (ns : List Nat) (d : Dev) : kept (Dev.compareAll p0 t0 ns d) = kept d :=
  kept_recursion (fun _ => rfl) (fun _ _ _ => rfl) (fun n d => kept_compareUnit n p0 t0 d) _ d

@[simp] theorem kept_compareArm (n action filter : Nat) (um : Int) (d : Dev) : kept (d.compareArm n action filter um).2 = kept d := by
  simp [Dev.compareArm]

@[simp] theorem kept_sextSample (d : Dev) : kept d.sextSample = kept d := by simp [Dev.sextSample]
@[simp] theorem kept_correctBy (c : Int) (d : Dev) : kept (d.correctBy c) = kept d := by simp [Dev.correctBy]
@[simp] theorem kept_shiftSamples (n c : Int) (d : Dev) : kept (d.shiftSamples n c) = kept d := rfl

@[simp] theorem kept_indexEdge (pRef : Int) (d : Dev) : kept (d.indexEdge pRef) = kept d := by
  unfold Dev.indexEdge
  dsimp only
  repeat' split
  all_goals simp

@[simp] theorem kept_applyCorrection (d : Dev) : kept d.applyCorrection = kept d := by
  unfold Dev.applyCorrection
  dsimp only
  repeat' split
  all_goals simp

@[simp] theorem kept_tickRefsw (d : Dev) : kept d.tickRefsw = kept d := by
  unfold Dev.tickRefsw
  split <;> simp

@[simp] theorem kept_setDatum (d : Dev) : kept d.setDatum = kept d := by simp [Dev.setDatum]
@[simp] theorem kept_feedbackChanged (d : Dev) : kept d.feedbackChanged = kept d := by simp [Dev.feedbackChanged]
@[simp] theorem kept_softChanged (d : Dev) : kept d.softChanged = kept d := by simp [Dev.softChanged]

@[simp] theorem kept_passEdge (opening : Bool) (code : Nat) (d : Dev) : kept (d.passEdge opening code) = kept d := by
  simp [Dev.passEdge]

@[simp] theorem kept_passThrough (code : Nat) (d : Dev) : kept (d.passThrough code) = kept d := by
  unfold Dev.passThrough
  dsimp only
  repeat' split
  all_goals simp

@[simp] theorem kept_presetPassThrough (d : Dev) : kept d.presetPassThrough = kept d := rfl

/-! ### The loops -/

@[simp] theorem kept_leafFlag (mask set : Nat) (d : Dev) : kept (d.leafFlag mask set) = kept d := rfl
@[simp] theorem kept_stepFlag (mask set : Nat) (d : Dev) : kept (d.stepFlag mask set) = kept d := rfl

@[simp] theorem kept_noteLoop (n : Nat) (ref out : Int) (points : List Int) (d : Dev) : kept (d.noteLoop n ref out points) = kept d := by
  unfold Dev.noteLoop
  split <;> simp

@[simp] theorem kept_stepInjection (d : Dev) : kept d.stepInjection = kept d := by
  unfold Dev.stepInjection
  split <;> simp

@[simp] theorem kept_putLoop (n : Nat) (l : Loop) (d : Dev) : kept (d.putLoop n l) = kept d := rfl
@[simp] theorem kept_applyLoop (n : Nat) (d : Dev) : kept (d.applyLoop n) = kept d := rfl

@[simp] theorem kept_saturate (n : Nat) (high low : Bool) (d : Dev) : kept (d.saturate n high low) = kept d :=
  rfl

@[simp] theorem kept_solveSpeed (uq : Option Int) (iq iqPrev id : Int) (d : Dev) : kept (d.solveSpeed uq iq iqPrev id).2.2 = kept d := by
  unfold Dev.solveSpeed
  dsimp only
  repeat' split
  all_goals simp

@[simp] theorem kept_observe (iq id : Int) (d : Dev) : kept (d.observe iq id) = kept d := by simp [Dev.observe]

@[simp] theorem kept_forceChannelFault (window : Nat) (d : Dev) : kept (d.forceChannelFault window) = kept d := by
  simp [Dev.forceChannelFault]

@[simp] theorem kept_window (n : Nat) (violated : Bool) (d : Dev) : kept (d.window n violated).2 = kept d := by simp [Dev.window]
@[simp] theorem kept_windowSum (u v w : Int) (d : Dev) : kept (d.windowSum u v w) = kept d := by simp [Dev.windowSum]
@[simp] theorem kept_clampedRef (ref : Int) (d : Dev) : kept (d.clampedRef ref).2 = kept d := by simp [Dev.clampedRef]

@[simp] theorem kept_settled (axis : Nat) (loops : List Nat) (d : Dev) : kept (d.settled axis loops) = kept d := by
  simp [Dev.settled]

@[simp] theorem kept_leafCurrents (fsSat : Bool) (d : Dev) : kept (d.leafCurrents fsSat) = kept d := by simp [Dev.leafCurrents]
@[simp] theorem kept_coilCurrents (fsSat : Bool) (d : Dev) : kept (d.coilCurrents fsSat) = kept d := by simp [Dev.coilCurrents]
@[simp] theorem kept_manualDone (d : Dev) : kept d.manualDone = kept d := by simp [Dev.manualDone]

@[simp] theorem kept_judgeEndStop (d : Dev) : kept d.judgeEndStop = kept d := by
  unfold Dev.judgeEndStop
  dsimp only
  repeat' split
  all_goals simp

@[simp] theorem kept_judgeOver (d : Dev) (leafMeasured : Bool) : kept (d.judgeOver leafMeasured) = kept d := by
  simp [Dev.judgeOver]

@[simp] theorem kept_writeTable (table dir off : Nat) (vs : List Int) (d : Dev) : kept (d.writeTable table dir off vs) = kept d := by
  simp [Dev.writeTable]

@[simp] theorem kept_writeTables (ws : List (Nat × Nat × Nat × List Int × Nat)) (d : Dev) : kept (Dev.writeTables ws d) = kept d :=
  kept_recursion (fun _ => rfl) (fun _ _ _ => rfl) (fun ⟨_, _, _, _, _⟩ _ => by simp) _ d

@[simp] theorem kept_takeTables (d : Dev) : kept d.takeTables = kept d := by simp [Dev.takeTables]

@[simp] theorem kept_armUnits (arms : List (Nat × Nat × Nat × Int × Nat)) (d : Dev) : kept (Dev.armUnits arms d) = kept d :=
  kept_recursion (fun _ => rfl) (fun _ _ _ => rfl) (fun ⟨_, _, _, _, _⟩ _ => (kept_done ..).trans (kept_compareArm ..)) _ d

@[simp] theorem kept_takeArms (d : Dev) : kept d.takeArms = kept d := by simp [Dev.takeArms]

@[simp] theorem kept_clearFlags (clears : List (Nat × Nat × Nat)) (d : Dev) : kept (Dev.clearFlags clears d) = kept d :=
  kept_recursion (fun _ => rfl) (fun _ _ _ => rfl) (fun ⟨_, _, _⟩ _ => (kept_done ..).trans (kept_modPilot ..)) _ d

@[simp] theorem kept_takeClears (d : Dev) : kept d.takeClears = kept d := by simp [Dev.takeClears]
@[simp] theorem kept_judgeIllegal (d : Dev) : kept d.judgeIllegal = kept d := by simp [Dev.judgeIllegal]
@[simp] theorem kept_currentSample (i : CurrentIn) (d : Dev) : kept (d.currentSample i) = kept d := by simp [Dev.currentSample]
@[simp] theorem kept_learnSample (r : Int) (d : Dev) : kept (d.learnSample r) = kept d := by simp [Dev.learnSample]

@[simp] theorem kept_learnSums (samples : List LearnSample) (d : Dev) : kept (Dev.learnSums samples d) = kept d :=
  kept_recursion (fun _ => rfl) (fun _ _ _ => rfl) (fun _ _ => kept_modPilot ..) _ d

@[simp] theorem kept_learnEnd (atTarget : Bool) (d : Dev) : kept (d.learnEnd atTarget) = kept d := by simp [Dev.learnEnd]

@[simp] theorem kept_learnTable (cells : List (Nat × LearnCell)) (t : List (Nat × Int)) (d : Dev) : kept (Dev.learnTable cells t d).2 = kept d := by
  induction cells generalizing t d with
  | nil => rfl
  | cons c rest ih =>
    unfold Dev.learnTable
    simp [ih]

@[simp] theorem kept_anomalies (type dir : Nat) (runs : List (Nat × Nat × Int)) (d : Dev) : kept (Dev.anomalies type dir runs d) = kept d :=
  kept_recursion (fun _ => rfl) (fun _ _ _ => rfl) (fun ⟨_, _, _⟩ _ => kept_raise ..) _ d

@[simp] theorem kept_learnDir (dir : Nat) (d : Dev) : kept (d.learnDir dir) = kept d := by simp [Dev.learnDir]
@[simp] theorem kept_learnUpdate (d : Dev) : kept d.learnUpdate = kept d := by simp [Dev.learnUpdate]

@[simp] theorem kept_speedLoop (d : Dev) : kept d.speedLoop = kept d := by
  unfold Dev.speedLoop
  dsimp only
  split <;> simp

@[simp] theorem kept_windowSpeed (d : Dev) : kept d.windowSpeed = kept d := by simp [Dev.windowSpeed]
@[simp] theorem kept_speedSample (ntc : Nat) (d : Dev) : kept (d.speedSample ntc) = kept d := by simp [Dev.speedSample]

@[simp] theorem kept_presetOne (axis n : Nat) (target held : Int) (d : Dev) : kept (d.presetOne axis n target held).2 = kept d := by
  unfold Dev.presetOne
  dsimp only
  split <;> simp

@[simp] theorem kept_positionLoop (d : Dev) : kept d.positionLoop = kept d := by simp [Dev.positionLoop]
@[simp] theorem kept_modeDone (d : Dev) : kept d.modeDone = kept d := by simp [Dev.modeDone]
@[simp] theorem kept_positionSample (d : Dev) : kept d.positionSample = kept d := by simp [Dev.positionSample]

@[simp] theorem kept_enterManual (axis mode : Nat) (d : Dev) : kept (d.enterManual axis mode) = kept d := by
  simp [Dev.enterManual]

@[simp] theorem kept_presetAxis (axis : Nat) (d : Dev) : kept (d.presetAxis axis).2 = kept d := by simp [Dev.presetAxis]

/-! ### The axes -/

@[simp] theorem kept_fallBack (case : Nat) (d : Dev) : kept (d.fallBack case) = kept d := by simp [Dev.fallBack]
@[simp] theorem kept_startTrap (mode : Nat) (d : Dev) : kept (d.startTrap mode) = kept d := by simp [Dev.startTrap]

@[simp] theorem kept_startMove (mv : Move) (d : Dev) : kept (d.startMove mv) = kept d := by
  unfold Dev.startMove
  dsimp only
  generalize planMove _ _ _ _ = plan
  cases plan <;> simp

@[simp] theorem kept_rampDown (emergency : Bool) (d : Dev) : kept (d.rampDown emergency) = kept d := by simp [Dev.rampDown]

@[simp] theorem kept_endAxisOrders (p : Nat × Nat × Nat → Bool) {f : Nat → Dev → Dev} (hf : ∀ slot d, kept (f slot d) = kept d) (d : Dev) :
    kept (d.endAxisOrders p f) = kept d :=
  (kept_foldl (fun d (o : Nat × Nat × Nat) => hf o.2.1 d) _ _).trans (kept_modLeaf ..)

@[simp] theorem kept_stopLeaf (d : Dev) : kept d.stopLeaf = kept d := by simp [Dev.stopLeaf]
@[simp] theorem kept_goLeaf (mv : Move) (d : Dev) : kept (d.goLeaf mv) = kept d := by simp [Dev.goLeaf]

@[simp] theorem kept_followLimits (d : Dev) : kept d.followLimits = kept d := by
  unfold Dev.followLimits
  dsimp only
  repeat' split
  all_goals simp

@[simp] theorem kept_gearStep (d : Dev) : kept d.gearStep = kept d := by simp [Dev.gearStep]

@[simp] theorem kept_afterStop (d : Dev) : kept d.afterStop = kept d := by
  unfold Dev.afterStop
  dsimp only
  repeat' split
  all_goals simp

@[simp] theorem kept_evalLeaf (d : Dev) : kept d.evalLeaf = kept d := by simp [Dev.evalLeaf]
@[simp] theorem kept_judgeStill (d : Dev) : kept d.judgeStill = kept d := by simp [Dev.judgeStill]
@[simp] theorem kept_enterDr (d : Dev) : kept d.enterDr = kept d := by simp [Dev.enterDr]
@[simp] theorem kept_reefFallback (d : Dev) : kept d.reefFallback = kept d := by simp [Dev.reefFallback]

@[simp] theorem kept_leaveGearing (d : Dev) : kept d.leaveGearing = kept d := by
  unfold Dev.leaveGearing
  dsimp only
  repeat' split
  all_goals simp

@[simp] theorem kept_homeLeaf (d : Dev) : kept d.homeLeaf = kept d := by simp [Dev.homeLeaf]
@[simp] theorem kept_homeEnds (axis result : Nat) (d : Dev) : kept (d.homeEnds axis result) = kept d := by simp [Dev.homeEnds]
@[simp] theorem kept_homeAccepted (d : Dev) : kept d.homeAccepted = kept d := by simp [Dev.homeAccepted]

@[simp] theorem kept_homeLeafFails (result : Nat) (d : Dev) : kept (d.homeLeafFails result) = kept d := by
  simp [Dev.homeLeafFails]

@[simp] theorem kept_judgeHoming (d : Dev) : kept d.judgeHoming = kept d := by simp [Dev.judgeHoming]
@[simp] theorem kept_refswMoved (d : Dev) : kept d.refswMoved = kept d := by simp [Dev.refswMoved]
@[simp] theorem kept_goStep (target : Int) (v : Nat) (d : Dev) : kept (d.goStep target v) = kept d := by simp [Dev.goStep]
@[simp] theorem kept_rampStep (emergency : Bool) (d : Dev) : kept (d.rampStep emergency) = kept d := by simp [Dev.rampStep]
@[simp] theorem kept_stopStep (d : Dev) : kept d.stopStep = kept d := by simp [Dev.stopStep]
@[simp] theorem kept_stopAxis (axis : Nat) (d : Dev) : kept (d.stopAxis axis) = kept d := by simp [Dev.stopAxis]
@[simp] theorem kept_evalStep (d : Dev) : kept d.evalStep = kept d := by simp [Dev.evalStep]
@[simp] theorem kept_stepHold (d : Dev) : kept d.stepHold = kept d := by simp [Dev.stepHold]
@[simp] theorem kept_stepStall (d : Dev) : kept d.stepStall = kept d := by simp [Dev.stepStall]
@[simp] theorem kept_stepAdapt (angle : Nat) (d : Dev) : kept (d.stepAdapt angle) = kept d := by simp [Dev.stepAdapt]
@[simp] theorem kept_homeStep (n : Nat) (d : Dev) : kept (d.homeStep n) = kept d := by simp [Dev.homeStep]
@[simp] theorem kept_homeStepAxis (d : Dev) : kept d.homeStepAxis = kept d := by simp [Dev.homeStepAxis]
@[simp] theorem kept_homeStepEnds (result : Nat) (d : Dev) : kept (d.homeStepEnds result) = kept d := by simp [Dev.homeStepEnds]

@[simp] theorem kept_retractStep (d : Dev) : kept d.retractStep = kept d := by
  unfold Dev.retractStep
  dsimp only
  split <;> simp

@[simp] theorem kept_deployStep (d : Dev) : kept d.deployStep = kept d := rfl
@[simp] theorem kept_platformContact (d : Dev) : kept d.platformContact = kept d := by simp [Dev.platformContact]

end Sys2Proof.Laws

end

section
/-! SUPPORT. O4: the memory of the Log and the length of the journal through the operations of the skin and the obstacle watch. -/

namespace Sys2Proof.Laws

open Sys2Proof Sys2Proof.Machine

/-! ### The skin -/

@[simp] theorem kept_modSkin (f : Skin → Skin) (d : Dev) : kept (d.modSkin f) = kept d := rfl

@[simp] theorem kept_modPort (p : Nat) (f : Port → Port) (d : Dev) : kept (d.modPort p f) = kept d :=
  rfl

@[simp] theorem kept_endPortOrders (p : Nat) (which : Nat → Bool) {f : Nat → Dev → Dev} (hf : ∀ slot d, kept (f slot d) = kept d) (d : Dev) :
    kept (d.endPortOrders p which f) = kept d :=
  (kept_foldl (fun d (o : Nat × Nat × Nat) => hf o.2.2 d) _ _).trans (kept_modSkin ..)

@[simp] theorem kept_tellTiles (p code address arg : Nat) (d : Dev) : kept (d.tellTiles p code address arg) = kept d :=
  rfl

@[simp] theorem kept_sendMode (p scan : Nat) (d : Dev) : kept (d.sendMode p scan) = kept d := rfl

@[simp] theorem kept_loseRebuild (p : Nat) {f : Nat → Dev → Dev} (hf : ∀ slot d, kept (f slot d) = kept d) (d : Dev) :
    kept (d.loseRebuild p f) = kept d := by
  unfold Dev.loseRebuild
  split
  · simp [hf]
  · rfl

@[simp] theorem kept_portState (p state cause : Nat) (d : Dev) : kept (d.portState p state cause) = kept d := by
  unfold Dev.portState
  dsimp only
  repeat' split
  all_goals simp

@[simp] theorem kept_portFault (p cause : Nat) (d : Dev) : kept (d.portFault p cause) = kept d := by simp [Dev.portFault]
@[simp] theorem kept_startTraining (p : Nat) (d : Dev) : kept (d.startTraining p) = kept d := rfl

@[simp] theorem kept_trainAll (ps : List Nat) (d : Dev) : kept (Dev.trainAll ps d) = kept d :=
  kept_recursion (fun _ => rfl) (fun _ _ _ => rfl) (fun _ _ => by simp) _ d

@[simp] theorem kept_storeSerials (p k : Nat) (ts : List TileIn) (d : Dev) : kept (Dev.storeSerials p k ts d) = kept d := by
  induction ts generalizing k d with
  | nil => rfl
  | cons t ts ih =>
    refine (ih _ _).trans ?_
    simp

@[simp] theorem kept_armRebuild (p : Nat) (d : Dev) : kept (d.armRebuild p) = kept d := rfl
@[simp] theorem kept_startRebuild (p : Nat) (d : Dev) : kept (d.startRebuild p) = kept d := by simp [Dev.startRebuild]

@[simp] theorem kept_endTraining (p : Nat) (t : TrainIn) (d : Dev) : kept (d.endTraining p t) = kept d := by
  simp [Dev.endTraining]

@[simp] theorem kept_tilePacket (p : Nat) (bytes : List Byte) (violations : Nat) (d : Dev) : kept (d.tilePacket p bytes violations) = kept d := by
  simp [Dev.tilePacket]

@[simp] theorem kept_syncPort (binned : Bool) (p : Nat) (d : Dev) : kept (d.syncPort binned p) = kept d := by simp [Dev.syncPort]
@[simp] theorem kept_frameSync (d : Dev) : kept d.frameSync = kept d := by simp [Dev.frameSync]

@[simp] theorem kept_setTileFaults (p k faults : Nat) (d : Dev) : kept (d.setTileFaults p k faults) = kept d := by
  simp [Dev.setTileFaults]

@[simp] theorem kept_judgeTile (p k : Nat) (d : Dev) : kept (d.judgeTile p k) = kept d := by simp [Dev.judgeTile]

@[simp] theorem kept_judgeTiles (p n k : Nat) (d : Dev) : kept (Dev.judgeTiles p n k d) = kept d := by
  induction n generalizing k d with
  | zero => rfl
  | succ n ih => exact (ih _ _).trans (kept_judgeTile ..)

@[simp] theorem kept_checkRows (p : Nat) (d : Dev) : kept (d.checkRows p) = kept d := by simp [Dev.checkRows]

@[simp] theorem kept_judgeBlind (p n k : Nat) (d : Dev) : kept (Dev.judgeBlind p n k d) = kept d := by
  induction n generalizing k d with
  | zero => rfl
  | succ n ih => exact (ih _ _).trans (kept_setTileFaults ..)

@[simp] theorem kept_updateRows (p : Nat) (comps : List (List Hit)) (d : Dev) : kept (d.updateRows p comps) = kept d := by
  simp [Dev.updateRows]

@[simp] theorem kept_endRebuild (p : Nat) (d : Dev) : kept (d.endRebuild p) = kept d := by simp [Dev.endRebuild]

@[simp] theorem kept_rebuildDone (d : Dev) : kept d.rebuildDone = kept d := by
  unfold Dev.rebuildDone
  dsimp only
  repeat' split
  all_goals simp

@[simp] theorem kept_cancelRebuild (d : Dev) : kept d.cancelRebuild = kept d := by
  unfold Dev.cancelRebuild
  split <;> simp

@[simp] theorem kept_judgePort (p : Nat) (d : Dev) : kept (d.judgePort p) = kept d := by simp [Dev.judgePort]

@[simp] theorem kept_framePort (p : Nat) (d : Dev) : kept (d.framePort p) = kept d := by
  unfold Dev.framePort
  dsimp only
  repeat' split
  all_goals simp

@[simp] theorem kept_modEdge (e : Nat) (f : LegacyEdge → LegacyEdge) (d : Dev) : kept (d.modEdge e f) = kept d :=
  rfl

@[simp] theorem kept_edgeState (e state : Nat) (d : Dev) : kept (d.edgeState e state) = kept d := by simp [Dev.edgeState]

@[simp] theorem kept_edgeRead (e mv exc : Nat) (d : Dev) : kept (d.edgeRead e mv exc) = kept d := by
  unfold Dev.edgeRead
  dsimp only
  repeat' split
  all_goals simp

@[simp] theorem kept_excState (fault : Bool) (d : Dev) : kept (d.excState fault) = kept d := by simp [Dev.excState]

@[simp] theorem kept_edgeSample (a b c exc : Nat) (d : Dev) : kept (d.edgeSample a b c exc) = kept d := by
  unfold Dev.edgeSample
  dsimp only
  repeat' split
  all_goals simp

@[simp] theorem kept_excitationFault (exc : Nat) (d : Dev) : kept (d.excitationFault exc) = kept d := by
  simp [Dev.excitationFault]

@[simp] theorem kept_pwHoldEnd (e : Nat) (d : Dev) : kept (d.pwHoldEnd e) = kept d := by
  unfold Dev.pwHoldEnd
  dsimp only
  split <;> simp

/-! ### Obstacles and drag -/

@[simp] theorem kept_modObst (f : Obstacle → Obstacle) (d : Dev) : kept (d.modObst f) = kept d := rfl
@[simp] theorem kept_leaveTouch (d : Dev) : kept d.leaveTouch = kept d := by simp [Dev.leaveTouch]
@[simp] theorem kept_formCoverage (p : Nat) (d : Dev) : kept (d.formCoverage p) = kept d := by simp [Dev.formCoverage]
@[simp] theorem kept_confirmSeal (p : Nat) (d : Dev) : kept (d.confirmSeal p) = kept d := by simp [Dev.confirmSeal]

@[simp] theorem kept_notePinch (p : Nat) (old : List Line) (d : Dev) : kept (d.notePinch p old) = kept d := by
  unfold Dev.notePinch
  dsimp only
  split <;> simp

@[simp] theorem kept_frameLines (p : Nat) (d : Dev) : kept (d.frameLines p) = kept d := by simp [Dev.frameLines]
@[simp] theorem kept_classify (p : Nat) (d : Dev) : kept (d.classify p) = kept d := by simp [Dev.classify]
@[simp] theorem kept_judgeBlindLine (d : Dev) : kept d.judgeBlindLine = kept d := by simp [Dev.judgeBlindLine]

@[simp] theorem kept_judgeDrag (d : Dev) : kept d.judgeDrag = kept d := by
  unfold Dev.judgeDrag
  dsimp only
  repeat' split
  all_goals simp

@[simp] theorem kept_evaluateFrame (d : Dev) : kept d.evaluateFrame = kept d := by simp [Dev.evaluateFrame]
@[simp] theorem kept_judgeDegraded (d : Dev) : kept d.judgeDegraded = kept d := by simp [Dev.judgeDegraded]
@[simp] theorem kept_forceSample (d : Dev) : kept d.forceSample = kept d := by simp [Dev.forceSample]

@[simp] theorem kept_markDemanded (ks : List (Nat × Nat)) (d : Dev) : kept (d.markDemanded ks) = kept d := by
  simp [Dev.markDemanded]

@[simp] theorem kept_demand (axis : Nat) (o : Onset) (w : AxisWatch) (d : Dev) : kept (d.demand axis o w).2 = kept d := by
  simp [Dev.demand]

@[simp] theorem kept_arbitrate (d : Dev) : kept d.arbitrate = kept d := by simp [Dev.arbitrate]
@[simp] theorem kept_sealCheck (d : Dev) : kept d.sealCheck = kept d := by simp [Dev.sealCheck]

end Sys2Proof.Laws

end

section
/-! SUPPORT. O4: the memory of the Log and the length of the journal through the operations of the doorway. -/

namespace Sys2Proof.Laws

open Sys2Proof Sys2Proof.Machine

/-! ### The doorway -/

@[simp] theorem kept_doorProgress (n : Nat) (d : Dev) : kept (d.doorProgress n) = kept d := by
  unfold Dev.doorProgress
  split
  · split
    · exact kept_progress ..
    · rfl
  · rfl

@[simp] theorem kept_endDoorOrder {f : Option Nat → Dev → Dev} (hf : ∀ slot d, kept (f slot d) = kept d) (d : Dev) :
    kept (d.endDoorOrder f) = kept d := by
  unfold Dev.endDoorOrder
  split
  · exact (hf _ _).trans (kept_modDoor ..)
  · rfl

@[simp] theorem kept_doneDoor (d : Dev) : kept d.doneDoor = kept d := by simp [Dev.doneDoor]
@[simp] theorem kept_supersedeDoor (d : Dev) : kept d.supersedeDoor = kept d := by simp [Dev.supersedeDoor]
@[simp] theorem kept_abortDoor (reason : Nat) (d : Dev) : kept (d.abortDoor reason) = kept d := by simp [Dev.abortDoor]

@[simp] theorem kept_endWait {f : Option Nat → Dev → Dev} (hf : ∀ slot d, kept (f slot d) = kept d) (d : Dev) :
    kept (d.endWait f) = kept d := by
  unfold Dev.endWait
  split
  · exact (hf _ _).trans (kept_modDoor ..)
  · rfl

@[simp] theorem kept_endStepOrder {f : Nat → Dev → Dev} (hf : ∀ slot d, kept (f slot d) = kept d) (d : Dev) :
    kept (d.endStepOrder f) = kept d := by
  unfold Dev.endStepOrder
  split
  · exact (hf _ _).trans (kept_modDoor ..)
  · rfl

@[simp] theorem kept_endLandfall {f : Option Nat → Dev → Dev} (hf : ∀ slot d, kept (f slot d) = kept d) (d : Dev) :
    kept (d.endLandfall f) = kept d := by
  unfold Dev.endLandfall
  dsimp only
  split
  · exact (hf _ _).trans (kept_modDoor ..)
  · exact kept_modDoor ..

@[simp] theorem kept_abortAll (reason : Nat) (d : Dev) : kept (d.abortAll reason) = kept d := by simp [Dev.abortAll]
@[simp] theorem kept_abortAxes (reason : Nat) (d : Dev) : kept (d.abortAxes reason) = kept d := by simp [Dev.abortAxes]
@[simp] theorem kept_setLock (on : Bool) (d : Dev) : kept (d.setLock on) = kept d := by simp [Dev.setLock]

@[simp] theorem kept_setDoorAs (quiet : Bool) (new : Nat) (d : Dev) : kept (d.setDoorAs quiet new) = kept d := by
  simp [Dev.setDoorAs]

@[simp] theorem kept_setDoor (new : Nat) (d : Dev) : kept (d.setDoor new) = kept d := by simp [Dev.setDoor]
@[simp] theorem kept_freeDrive (d : Dev) : kept d.freeDrive = kept d := rfl
@[simp] theorem kept_autoNow (axis : Nat) (d : Dev) : kept (d.autoNow axis) = kept d := by simp [Dev.autoNow]
@[simp] theorem kept_manualCurrent (want : Int) (d : Dev) : kept (d.manualCurrent want) = kept d := rfl

@[simp] theorem kept_endInjection (status reason : Nat) (d : Dev) : kept (d.endInjection status reason) = kept d := by
  unfold Dev.endInjection
  split <;> simp

@[simp] theorem kept_moveLeaf (mv : Move) (d : Dev) : kept (d.moveLeaf mv) = kept d := by simp [Dev.moveLeaf]

@[simp] theorem kept_followLeader (d : Dev) : kept d.followLeader = kept d := by
  unfold Dev.followLeader
  split <;> simp

@[simp] theorem kept_openLeaves (d : Dev) : kept d.openLeaves = kept d := by simp [Dev.openLeaves]
@[simp] theorem kept_beginOpening (d : Dev) : kept d.beginOpening = kept d := by simp [Dev.beginOpening]

@[simp] theorem kept_stepProgress (d : Dev) : kept d.stepProgress = kept d := by
  unfold Dev.stepProgress
  split <;> simp

@[simp] theorem kept_supersedeStep (op : Nat) (d : Dev) : kept (d.supersedeStep op) = kept d := by
  unfold Dev.supersedeStep
  split <;> simp

@[simp] theorem kept_setStep (new : Nat) (d : Dev) : kept (d.setStep new) = kept d := by
  unfold Dev.setStep
  dsimp only
  repeat' split
  all_goals simp

@[simp] theorem kept_stepFault (reason : Nat) (d : Dev) : kept (d.stepFault reason) = kept d := by
  unfold Dev.stepFault
  dsimp only
  repeat' split
  all_goals simp

@[simp] theorem kept_beginDeploy (d : Dev) : kept d.beginDeploy.2 = kept d := by
  unfold Dev.beginDeploy
  dsimp only
  repeat' split
  all_goals simp

@[simp] theorem kept_beginRetract (d : Dev) : kept d.beginRetract = kept d := by simp [Dev.beginRetract]

@[simp] theorem kept_deployLater (d : Dev) : kept d.deployLater = kept d := by
  unfold Dev.deployLater
  dsimp only
  repeat' split
  all_goals simp

@[simp] theorem kept_stepHomed (result : Nat) (d : Dev) : kept (d.stepHomed result) = kept d := by simp [Dev.stepHomed]
@[simp] theorem kept_closeLeaves (d : Dev) : kept d.closeLeaves = kept d := by simp [Dev.closeLeaves]
@[simp] theorem kept_startFlash (d : Dev) : kept d.startFlash = kept d := by simp [Dev.startFlash]
@[simp] theorem kept_beginClosing (ahead : Nat) (d : Dev) : kept (d.beginClosing ahead) = kept d := by simp [Dev.beginClosing]
@[simp] theorem kept_enterClosed (d : Dev) : kept d.enterClosed = kept d := by simp [Dev.enterClosed]
@[simp] theorem kept_haltAxes (d : Dev) : kept d.haltAxes = kept d := by simp [Dev.haltAxes]
@[simp] theorem kept_doorFault (cause : Nat) (d : Dev) : kept (d.doorFault cause) = kept d := by simp [Dev.doorFault]
@[simp] theorem kept_obstructed (d : Dev) : kept d.obstructed = kept d := by simp [Dev.obstructed]
@[simp] theorem kept_closingObstruction (d : Dev) : kept d.closingObstruction = kept d := by simp [Dev.closingObstruction]
@[simp] theorem kept_openingObstruction (d : Dev) : kept d.openingObstruction = kept d := by simp [Dev.openingObstruction]
@[simp] theorem kept_beginReversal (d : Dev) : kept d.beginReversal = kept d := by simp [Dev.beginReversal]
@[simp] theorem kept_reversalEnds (d : Dev) : kept d.reversalEnds = kept d := by simp [Dev.reversalEnds]
@[simp] theorem kept_enterHold (time : Nat) (d : Dev) : kept (d.enterHold time) = kept d := by simp [Dev.enterHold]

@[simp] theorem kept_openReached (d : Dev) : kept d.openReached = kept d := by
  unfold Dev.openReached
  split <;> simp

@[simp] theorem kept_freeLeaves (d : Dev) : kept d.freeLeaves = kept d := rfl

@[simp] theorem kept_emergency (cause : Nat) (quiet abort : Bool) (d : Dev) : kept (d.emergency cause quiet abort) = kept d := by
  simp [Dev.emergency]

@[simp] theorem kept_endAssist (d : Dev) : kept d.endAssist = kept d := rfl
@[simp] theorem kept_beginLandfall (slot : Nat) (d : Dev) : kept (d.beginLandfall slot) = kept d := by simp [Dev.beginLandfall]

@[simp] theorem kept_withdrawWith {answer : Nat → Dev → Dev} (ha : ∀ slot d, kept (answer slot d) = kept d) (cause : Nat) (d : Dev) :
    kept (d.withdrawWith answer cause) = kept d := by
  unfold Dev.withdrawWith
  dsimp only
  split
  · rfl
  · cases d.door.landfall.slot <;>
      simp [ha]

@[simp] theorem kept_withdraw (cause : Nat) (d : Dev) : kept (d.withdraw cause) = kept d := by simp [Dev.withdraw]
@[simp] theorem kept_forceCheck (d : Dev) : kept d.forceCheck.2 = kept d := by simp [Dev.forceCheck]

@[simp] theorem kept_landfallEntry (d : Dev) : kept d.landfallEntry = kept d := by
  unfold Dev.landfallEntry
  split <;> simp

@[simp] theorem kept_enterLocked (d : Dev) : kept d.enterLocked = kept d := by simp [Dev.enterLocked]

@[simp] theorem kept_tryLock (d : Dev) : kept d.tryLock = kept d := by
  unfold Dev.tryLock
  dsimp only
  repeat' split
  all_goals simp

@[simp] theorem kept_lockPairMade (d : Dev) : kept d.lockPairMade = kept d := by simp [Dev.lockPairMade]

@[simp] theorem kept_lockTimeout (d : Dev) : kept d.lockTimeout = kept d := by
  unfold Dev.lockTimeout
  split <;> simp

@[simp] theorem kept_retryPulseEnd (d : Dev) : kept d.retryPulseEnd = kept d := by
  unfold Dev.retryPulseEnd
  split <;> simp

@[simp] theorem kept_lockPairOpened (d : Dev) : kept d.lockPairOpened = kept d := by
  unfold Dev.lockPairOpened
  dsimp only
  repeat' split
  all_goals simp

@[simp] theorem kept_unlockTimeout (d : Dev) : kept d.unlockTimeout = kept d := by
  unfold Dev.unlockTimeout
  split
  · rfl
  · split
    · rfl
    · split <;> simp

@[simp] theorem kept_classifyDoor (start : Bool) (d : Dev) : kept (d.classifyDoor start) = kept d := by simp [Dev.classifyDoor]

/-! ### The orders of the doorway -/

@[simp] theorem kept_acceptDoor (op value slot : Nat) (d : Dev) : kept (d.acceptDoor op value slot) = kept d := by
  simp [Dev.acceptDoor]

@[simp] theorem kept_unlock (d : Dev) : kept d.unlock = kept d := by simp [Dev.unlock]
@[simp] theorem kept_takeOrder (o : DoorOrder) (d : Dev) : kept (d.takeOrder o) = kept d := by simp [Dev.takeOrder]
@[simp] theorem kept_startOpen (d : Dev) : kept d.startOpen = kept d := by simp [Dev.startOpen]

@[simp] theorem kept_startClose (cause ahead : Nat) (d : Dev) : kept (d.startClose cause ahead) = kept d := by
  simp [Dev.startClose]

@[simp] theorem kept_startAnnounce (slot side : Nat) (d : Dev) : kept (d.startAnnounce slot side) = kept d := by
  unfold Dev.startAnnounce
  dsimp only
  repeat' split
  all_goals simp

@[simp] theorem kept_clearFaulted (slot : Option Nat) (d : Dev) : kept (d.clearFaulted slot) = kept d := by
  simp [Dev.clearFaulted]

@[simp] theorem kept_addJob (slot : Nat) (j : Job) (d : Dev) : kept (d.addJob slot j) = kept d := rfl

@[simp] theorem kept_startClear (slot : Option Nat) (d : Dev) : kept (d.startClear slot) = kept d := by
  unfold Dev.startClear
  dsimp only
  repeat' split
  all_goals simp

@[simp] theorem kept_startStep (o : DoorOrder) (d : Dev) : kept (d.startStep o) = kept d := by
  unfold Dev.startStep
  dsimp only
  repeat' split
  all_goals simp

@[simp] theorem kept_leaveMaintenance (slot : Option Nat) (d : Dev) : kept (d.leaveMaintenance slot) = kept d := by
  simp [Dev.leaveMaintenance]

@[simp] theorem kept_startDoor (o : DoorOrder) (d : Dev) : kept (d.startDoor o) = kept d := by
  unfold Dev.startDoor
  split
  · simp
  · cases o.slot <;> cases d.door.landfall <;> simp

@[simp] theorem kept_handleOrder (o : DoorOrder) (d : Dev) : kept (d.handleOrder o) = kept d := by
  unfold Dev.handleOrder
  dsimp only
  repeat' split
  all_goals simp

@[simp] theorem kept_startTime (d : Dev) : kept d.startTime = kept d := by
  unfold Dev.startTime
  split <;> simp

@[simp] theorem kept_handleInbox (d : Dev) : kept d.handleInbox = kept d := by simp [Dev.handleInbox]

@[simp] theorem kept_isolationMade (d : Dev) : kept d.isolationMade = kept d := by
  unfold Dev.isolationMade
  dsimp only
  repeat' split
  all_goals simp

@[simp] theorem kept_rowCopies (d : Dev) : kept d.rowCopies = kept d := by simp [Dev.rowCopies]
@[simp] theorem kept_rowReef (d : Dev) : kept d.rowReef = kept d := by simp [Dev.rowReef]
@[simp] theorem kept_rowFaults (d : Dev) : kept d.rowFaults = kept d := by simp [Dev.rowFaults]

@[simp] theorem kept_stepDemand (d : Dev) : kept d.stepDemand = kept d := by
  unfold Dev.stepDemand
  dsimp only
  repeat' split
  all_goals simp

@[simp] theorem kept_leafDemand (d : Dev) : kept d.leafDemand = kept d := by simp [Dev.leafDemand]
@[simp] theorem kept_rowDemands (d : Dev) : kept d.rowDemands = kept d := by simp [Dev.rowDemands]
@[simp] theorem kept_judgeClosing (d : Dev) : kept d.judgeClosing = kept d := by simp [Dev.judgeClosing]
@[simp] theorem kept_closedWait (d : Dev) : kept d.closedWait = kept d := by simp [Dev.closedWait]

@[simp] theorem kept_judgeLandfall (d : Dev) : kept d.judgeLandfall = kept d := by
  unfold Dev.judgeLandfall
  split <;> simp

@[simp] theorem kept_judgeFree (d : Dev) : kept d.judgeFree = kept d := by simp [Dev.judgeFree]

@[simp] theorem kept_permitNext (d : Dev) : kept d.permitNext = kept d := by
  unfold Dev.permitNext
  split <;> simp

@[simp] theorem kept_seekOver (was : Bool) (d : Dev) : kept (d.seekOver was) = kept d := by simp [Dev.seekOver]

@[simp] theorem kept_doorFollow (d : Dev) : kept d.doorFollow = kept d := by
  unfold Dev.doorFollow
  dsimp only
  split <;> simp

@[simp] theorem kept_stepSequence (d : Dev) : kept d.stepSequence = kept d := by simp [Dev.stepSequence]
@[simp] theorem kept_axisStop (axis : Nat) (d : Dev) : kept (d.axisStop axis) = kept d := by simp [Dev.axisStop]
@[simp] theorem kept_axisStops (d : Dev) : kept d.axisStops = kept d := by simp [Dev.axisStops]
@[simp] theorem kept_axisStart (o : Nat × Nat × Nat × Int) (d : Dev) : kept (d.axisStart o) = kept d := by simp [Dev.axisStart]
@[simp] theorem kept_axisStarts (d : Dev) : kept d.axisStarts = kept d := by simp [Dev.axisStarts]
@[simp] theorem kept_judgeAxisStops (d : Dev) : kept d.judgeAxisStops = kept d := by simp [Dev.judgeAxisStops]
@[simp] theorem kept_takeLinks (d : Dev) : kept d.takeLinks = kept d := by simp [Dev.takeLinks]
@[simp] theorem kept_takeStepTable (d : Dev) : kept d.takeStepTable = kept d := by simp [Dev.takeStepTable]
@[simp] theorem kept_logUpdate (d : Dev) : kept d.logUpdate = kept d := rfl

@[simp] theorem kept_profileUpdate {take : Dev → Dev} (ht : ∀ d, kept (take d) = kept d) (d : Dev) : kept (d.profileUpdate take) = kept d := by
  unfold Dev.profileUpdate
  simp only [kept_mk, kept_nv, kept_ite, ht, kept_sendKind, kept_recUpdate, kept_modSext, kept_evalLeaf, kept_judgeStill, kept_enterDr,
    kept_reefFallback, kept_leaveGearing, kept_judgeHoming, kept_evalStep, kept_arbitrate, kept_followLeader, kept_handleInbox,
    kept_rowCopies, kept_rowReef, kept_rowFaults, kept_rowDemands, kept_seekOver, kept_doorFollow, kept_stepSequence, kept_axisStops,
    kept_axisStarts, kept_judgeAxisStops, kept_takeLinks, kept_takeStepTable, kept_logUpdate, ite_self]

@[simp] theorem kept_holdingEnd (d : Dev) : kept d.holdingEnd = kept d := by
  unfold Dev.holdingEnd
  dsimp only
  repeat' split
  all_goals simp

@[simp] theorem kept_reversalOver (back : Bool) (d : Dev) : kept (d.reversalOver back) = kept d := by simp [Dev.reversalOver]

@[simp] theorem kept_atTargetNow (axis : Nat) (d : Dev) : kept (d.atTargetNow axis) = kept d := by
  unfold Dev.atTargetNow
  dsimp only
  repeat' split
  all_goals simp

@[simp] theorem kept_reefResume (d : Dev) : kept d.reefResume = kept d := by
  unfold Dev.reefResume
  dsimp only
  repeat' split
  all_goals simp

@[simp] theorem kept_armExpiry (d : Dev) : kept d.armExpiry = kept d := by
  unfold Dev.armExpiry
  split <;> simp

@[simp] theorem kept_landfallMax (d : Dev) : kept d.landfallMax = kept d := by
  unfold Dev.landfallMax
  split <;> simp

@[simp] theorem kept_landfallCheck (d : Dev) : kept d.landfallCheck = kept d := by
  unfold Dev.landfallCheck
  split <;> simp

@[simp] theorem kept_assistStart (d : Dev) : kept d.assistStart = kept d := by simp [Dev.assistStart]
@[simp] theorem kept_assistEnd (d : Dev) : kept d.assistEnd = kept d := by simp [Dev.assistEnd]

@[simp] theorem kept_stepTimeout (d : Dev) : kept d.stepTimeout = kept d := by
  unfold Dev.stepTimeout
  split <;> simp

@[simp] theorem kept_findContinue (d : Dev) : kept d.findContinue = kept d := by simp [Dev.findContinue]

@[simp] theorem kept_retractAgain (d : Dev) : kept d.retractAgain = kept d := by
  unfold Dev.retractAgain
  split <;> simp

@[simp] theorem kept_lockOpenedLocked (d : Dev) : kept d.lockOpenedLocked = kept d := by simp [Dev.lockOpenedLocked]
@[simp] theorem kept_warningFlash (d : Dev) : kept d.warningFlash = kept d := by simp [Dev.warningFlash]
@[simp] theorem kept_drEnd (d : Dev) : kept d.drEnd = kept d := by simp [Dev.drEnd]

@[simp] theorem kept_leaderWaitOver (d : Dev) : kept d.leaderWaitOver = kept d := by
  unfold Dev.leaderWaitOver
  split <;> simp

@[simp] theorem kept_silentClose (d : Dev) : kept d.silentClose = kept d := by simp [Dev.silentClose]

@[simp] theorem kept_stepSwitch (sw : Nat) (level : Bool) (d : Dev) : kept (d.stepSwitch sw level) = kept d := by
  unfold Dev.stepSwitch
  dsimp only
  repeat' split
  all_goals simp

@[simp] theorem kept_stableNow (sw : Nat) (d : Dev) : kept (d.stableNow sw) = kept d := by simp [Dev.stableNow]
@[simp] theorem kept_homingStep (d : Dev) : kept d.homingStep = kept d := by simp [Dev.homingStep]
@[simp] theorem kept_stepTick (angle : Nat) (d : Dev) : kept (d.stepTick angle) = kept d := by simp [Dev.stepTick]

end Sys2Proof.Laws

end

section
/-! SUPPORT. O4: the memory of the Log and the length of the journal through the parameters, the supplies and the host interface. -/

namespace Sys2Proof.Laws

open Sys2Proof Sys2Proof.Machine

/-! ### Parameters -/

@[simp] theorem kept_putWrites (ws : List (Nat × Int)) (d : Dev) : kept (d.putWrites ws).2 = kept d := by
  unfold Dev.putWrites
  dsimp only
  repeat' split
  all_goals simp

@[simp] theorem kept_dropPorts (ps : List Nat) (d : Dev) : kept (Dev.dropPorts ps d) = kept d :=
  kept_recursion (fun _ => rfl) (fun _ _ _ => rfl) (fun _ _ => by
    simp) _ d

@[simp] theorem kept_fitStep (d : Dev) : kept d.fitStep = kept d := by simp [Dev.fitStep]

@[simp] theorem kept_afterWrites (ws : List (Nat × Int)) (changed : List Nat) (d : Dev) : kept (d.afterWrites ws changed) = kept d := by
  simp [Dev.afterWrites]

@[simp] theorem kept_takeEffect (ws : List (Nat × Int)) (d : Dev) : kept (d.takeEffect ws).2 = kept d := by simp [Dev.takeEffect]

@[simp] theorem kept_finishWrite (w : PendingWrite) (d : Dev) : kept (d.finishWrite w) = kept d := by
  unfold Dev.finishWrite
  split <;> simp

@[simp] theorem kept_takeOne (picks : PendingWrite → Nat → Bool) (w : PendingWrite) (d : Dev) : kept (d.takeOne picks w).2 = kept d := by
  unfold Dev.takeOne
  simp

@[simp] theorem kept_takeList (pick : PendingWrite → Nat → Bool) (ws : List PendingWrite) (d : Dev) :
    kept (Dev.takeList pick ws d).2 = kept d := by
  induction ws generalizing d with
  | nil => rfl
  | cons w ws ih => exact (ih _).trans (kept_takeOne pick w d)

@[simp] theorem kept_takeWhere (pick : PendingWrite → Nat → Bool) (d : Dev) : kept (d.takeWhere pick) = kept d := by
  simp [Dev.takeWhere]

@[simp] theorem kept_takeWrites (b : Nat) (d : Dev) : kept (d.takeWrites b) = kept d := by simp [Dev.takeWrites]
@[simp] theorem kept_takeHeld (d : Dev) : kept d.takeHeld = kept d := by simp [Dev.takeHeld]
@[simp] theorem kept_takeAtProfile (d : Dev) : kept d.takeAtProfile = kept d := by simp [Dev.takeAtProfile]

@[simp] theorem kept_paramWrite (slot : Nat) (pairs : List (Nat × Nat)) (d : Dev) : kept (d.paramWrite slot pairs) = kept d := by
  simp [Dev.paramWrite]

@[simp] theorem kept_stage (group : Nat) (values : List Nat) (d : Dev) : kept (d.stage group values) = kept d :=
  rfl

@[simp] theorem kept_commit (slot : Nat) (groups : List Nat) (d : Dev) : kept (d.commit slot groups) = kept d := by
  simp [Dev.commit]

@[simp] theorem kept_discard (groups : List Nat) (d : Dev) : kept (d.discard groups) = kept d := rfl

@[simp] theorem kept_juryWritten (slot : Nat) (ws : List (Nat × Int)) (groups : List Nat) (ok : Bool) (d : Dev) :
    kept (d.juryWritten slot ws groups ok) = kept d := by
  simp [Dev.juryWritten]

@[simp] theorem kept_installImage (slot crc : Nat) (d : Dev) : kept (d.installImage slot crc) = kept d := by
  unfold Dev.installImage
  split <;> simp

@[simp] theorem kept_saveImage (d : Dev) : kept d.saveImage = kept d := rfl
@[simp] theorem kept_factoryImage (d : Dev) : kept d.factoryImage = kept d := rfl

/-! ### Supplies, start-up and lower power -/

@[simp] theorem kept_modSupply (f : Supply → Supply) (d : Dev) : kept (d.modSupply f) = kept d := rfl
@[simp] theorem kept_seeVhv (mv : Nat) (d : Dev) : kept (d.seeVhv mv) = kept d := by simp [Dev.seeVhv]
@[simp] theorem kept_judgeVhv (mv : Nat) (d : Dev) : kept (d.judgeVhv mv) = kept d := rfl
@[simp] theorem kept_reefTo (new vhv : Nat) (d : Dev) : kept (d.reefTo new vhv) = kept d := by simp [Dev.reefTo]
@[simp] theorem kept_reefLeave (vhv : Nat) (d : Dev) : kept (d.reefLeave vhv) = kept d := by simp [Dev.reefLeave]

@[simp] theorem kept_reef4Reset (d : Dev) : kept d.reef4Reset = kept d := by
  unfold Dev.reef4Reset
  split <;> simp

@[simp] theorem kept_reef4Restart (vhv : Nat) (d : Dev) : kept (d.reef4Restart vhv) = kept d := by simp [Dev.reef4Restart]
@[simp] theorem kept_vdrvLost (mv : Nat) (d : Dev) : kept (d.vdrvLost mv) = kept d := by simp [Dev.vdrvLost]
@[simp] theorem kept_vdrvPresent (mv : Nat) (d : Dev) : kept (d.vdrvPresent mv) = kept d := by simp [Dev.vdrvPresent]
@[simp] theorem kept_lockOut (d : Dev) : kept d.lockOut = kept d := by simp [Dev.lockOut]
@[simp] theorem kept_lockOutEnds (d : Dev) : kept d.lockOutEnds = kept d := by simp [Dev.lockOutEnds]
@[simp] theorem kept_judgeClock (d : Dev) : kept d.judgeClock = kept d := by simp [Dev.judgeClock]
@[simp] theorem kept_avsRequest (v : Nat) (d : Dev) : kept (d.avsRequest v) = kept d := by simp [Dev.avsRequest]
@[simp] theorem kept_avsTick (slack : Nat) (d : Dev) : kept (d.avsTick slack) = kept d := by simp [Dev.avsTick]
@[simp] theorem kept_marginReset (d : Dev) : kept d.marginReset = kept d := by simp [Dev.marginReset]

@[simp] theorem kept_avsEnd (reply : List Byte) (d : Dev) : kept (d.avsEnd reply) = kept d := by
  unfold Dev.avsEnd
  split <;> simp

@[simp] theorem kept_avsRetry (d : Dev) : kept d.avsRetry = kept d := by simp [Dev.avsRetry]
@[simp] theorem kept_busClockLost (d : Dev) : kept d.busClockLost = kept d := by simp [Dev.busClockLost]
@[simp] theorem kept_busClockRestored (d : Dev) : kept d.busClockRestored = kept d := by simp [Dev.busClockRestored]
@[simp] theorem kept_keepClockLost (d : Dev) : kept d.keepClockLost = kept d := by simp [Dev.keepClockLost]
@[simp] theorem kept_keepClockRestored (d : Dev) : kept d.keepClockRestored = kept d := by simp [Dev.keepClockRestored]

@[simp] theorem kept_restartReplies (slots : List Nat) (d : Dev) : kept (Dev.restartReplies slots d) = kept d :=
  kept_recursion (fun _ => rfl) (fun _ _ _ => rfl) (fun _ _ => (kept_replyFlags ..).trans (kept_putEntry ..)) _ d

@[simp] theorem kept_flushHeld (held : List HeldEvent) (d : Dev) : kept (Dev.flushHeld held d) = kept d :=
  kept_recursion (fun _ => rfl) (fun _ _ _ => rfl) (fun _ _ => kept_queueEvent ..) _ d

@[simp] theorem kept_openHost (d : Dev) : kept d.openHost = kept d := by simp [Dev.openHost]
@[simp] theorem kept_stepDone (n : Nat) (d : Dev) : kept (d.stepDone n) = kept d := rfl
@[simp] theorem kept_startStep1 (d : Dev) : kept d.startStep1 = kept d := by simp [Dev.startStep1]
@[simp] theorem kept_startStep3 (i : StartUpIn) (d : Dev) : kept (d.startStep3 i) = kept d := by simp [Dev.startStep3]
@[simp] theorem kept_startStep4 (i : StartUpIn) (d : Dev) : kept (d.startStep4 i).2 = kept d := by simp [Dev.startStep4]
@[simp] theorem kept_reportLog (d : Dev) : kept d.reportLog = kept d := by simp [Dev.reportLog]

@[simp] theorem kept_compareCopy (which : Nat) (same never : Bool) {put : NonVolatile → NonVolatile} (main : ∀ nv, (put nv).main = nv.main)
    (journal : ∀ nv, (put nv).journal = nv.journal) (d : Dev) : kept (d.compareCopy which same never put).2 = kept d := by
  unfold Dev.compareCopy
  simp [main, journal]

@[simp] theorem kept_startStep7 (i : StartUpIn) (d : Dev) : kept (d.startStep7 i) = kept d := by simp [Dev.startStep7]
@[simp] theorem kept_startStep9 (i : StartUpIn) (d : Dev) : kept (d.startStep9 i) = kept d := by simp [Dev.startStep9]

@[simp] theorem kept_startStep10 (i : StartUpIn) (d : Dev) : kept (d.startStep10 i) = kept d := by
  unfold Dev.startStep10
  dsimp only
  repeat' split
  all_goals simp

@[simp] theorem kept_vhvWaitEnds (i : StartUpIn) (d : Dev) : kept (d.vhvWaitEnds i) = kept d := by simp [Dev.vhvWaitEnds]
@[simp] theorem kept_firstTelegrams (d : Dev) : kept d.firstTelegrams = kept d := by simp [Dev.firstTelegrams]
@[simp] theorem kept_becomeReady (d : Dev) : kept d.becomeReady = kept d := by simp [Dev.becomeReady]
@[simp] theorem kept_wakeUp (causes : List Nat) (d : Dev) : kept (d.wakeUp causes) = kept d := by simp [Dev.wakeUp]
@[simp] theorem kept_wake (source : Nat) (d : Dev) : kept (d.wake source) = kept d := by simp [Dev.wake]
@[simp] theorem kept_keepAlarm (d : Dev) : kept d.keepAlarm = kept d := by simp [Dev.keepAlarm]
@[simp] theorem kept_powerLost (d : Dev) : kept d.powerLost = kept d := by simp [Dev.powerLost]
@[simp] theorem kept_rstPulse (width : Nat) (d : Dev) : kept (d.rstPulse width) = kept d := by simp [Dev.rstPulse]
@[simp] theorem kept_vkeepLost (d : Dev) : kept d.vkeepLost = kept d := rfl

/-! ### The commands, as far as they leave the Log's memory alone -/

@[simp] theorem kept_modBank (n : Nat) (f : Bank → Bank) (d : Dev) : kept (d.modBank n f) = kept d :=
  rfl

@[simp] theorem kept_runFwBegin (bank length slot : Nat) (d : Dev) : kept (d.runFwBegin bank length slot) = kept d :=
  rfl

@[simp] theorem kept_runFwActivate (bank : Nat) (d : Dev) : kept (d.runFwActivate bank) = kept d := by simp [Dev.runFwActivate]
@[simp] theorem kept_dropJob (slot : Nat) (d : Dev) : kept (d.dropJob slot) = kept d := rfl

@[simp] theorem kept_cancelWrite (slot : Nat) (d : Dev) : kept (d.cancelWrite slot) = kept d := by
  unfold Dev.cancelWrite
  dsimp only
  split <;> simp

@[simp] theorem kept_runPark (mode slot : Nat) (d : Dev) : kept (d.runPark mode slot) = kept d := by simp [Dev.runPark]

@[simp] theorem kept_acceptAxis (op axis : Nat) (target : Int) (slot : Nat) (d : Dev) : kept (d.acceptAxis op axis target slot) = kept d := by
  simp [Dev.acceptAxis]

@[simp] theorem kept_runAxisHome (axis slot : Nat) (d : Dev) : kept (d.runAxisHome axis slot) = kept d := by
  simp [Dev.runAxisHome]

@[simp] theorem kept_runAxisMove (axis : Nat) (target : Int) (slot : Nat) (d : Dev) : kept (d.runAxisMove axis target slot) = kept d := by
  simp [Dev.runAxisMove]

@[simp] theorem kept_runAxisStop (axis slot : Nat) (d : Dev) : kept (d.runAxisStop axis slot) = kept d := by
  simp [Dev.runAxisStop]

@[simp] theorem kept_runAxisLink (link slot : Nat) (d : Dev) : kept (d.runAxisLink link slot) = kept d :=
  rfl

@[simp] theorem kept_modMode (axis : Nat) (f : AxisMode → AxisMode) (d : Dev) : kept (d.modMode axis f) = kept d := by
  simp [Dev.modMode]

@[simp] theorem kept_runLoopMode (axis mode slot : Nat) (d : Dev) : kept (d.runLoopMode axis mode slot) = kept d := by
  simp [Dev.runLoopMode]

@[simp] theorem kept_transferToAuto (axis : Nat) (d : Dev) : kept (d.transferToAuto axis) = kept d := by simp [Dev.transferToAuto]

@[simp] theorem kept_runLoopManual (axis : Nat) (point : Int) (slot : Nat) (d : Dev) : kept (d.runLoopManual axis point slot) = kept d := by
  simp [Dev.runLoopManual]

@[simp] theorem kept_runInject (axis loop point signal : Nat) (amplitude : Int) (p1 p2 p3 respLoop respPoint decimation slot : Nat) (d : Dev) :
    kept (d.runInject axis loop point signal amplitude p1 p2 p3 respLoop respPoint decimation slot) = kept d := by
  simp [Dev.runInject]

@[simp] theorem kept_injectionDone (d : Dev) : kept d.injectionDone = kept d := by
  unfold Dev.injectionDone
  split <;> simp

@[simp] theorem kept_injectionAbort (d : Dev) : kept d.injectionAbort = kept d := by
  unfold Dev.injectionAbort
  split <;> simp

@[simp] theorem kept_suspendPort (p slot : Nat) (d : Dev) : kept (d.suspendPort p slot) = kept d := by simp [Dev.suspendPort]
@[simp] theorem kept_resumePort (p slot : Nat) (d : Dev) : kept (d.resumePort p slot) = kept d := by simp [Dev.resumePort]
@[simp] theorem kept_retrainPort (p slot : Nat) (d : Dev) : kept (d.retrainPort p slot) = kept d := by simp [Dev.retrainPort]
@[simp] theorem kept_runRebuild (mask slot : Nat) (d : Dev) : kept (d.runRebuild mask slot) = kept d := by simp [Dev.runRebuild]

@[simp] theorem kept_runRecover (bus timeout slot : Nat) (d : Dev) : kept (d.runRecover bus timeout slot) = kept d := by
  simp [Dev.runRecover]

@[simp] theorem kept_recoveryDone (bus : Nat) (d : Dev) : kept (d.recoveryDone bus) = kept d := by simp [Dev.recoveryDone]

@[simp] theorem kept_recoverLate (bus : Nat) (d : Dev) : kept (d.recoverLate bus) = kept d := by
  unfold Dev.recoverLate
  split <;> simp

@[simp] theorem kept_runSend (bus object : Nat) (frame : Frame) (lifetime slot : Nat) (d : Dev) :
    kept (d.runSend bus object frame lifetime slot) = kept d := by
  simp [Dev.runSend]

@[simp] theorem kept_runTxCancel (bus object slot : Nat) (d : Dev) : kept (d.runTxCancel bus object slot) = kept d := by
  unfold Dev.runTxCancel
  dsimp only
  split <;> simp

@[simp] theorem kept_lifetimeOver (bus object : Nat) (d : Dev) : kept (d.lifetimeOver bus object) = kept d := by
  unfold Dev.lifetimeOver
  dsimp only
  repeat' split
  all_goals simp

@[simp] theorem kept_loadFilter (bus part first : Nat) (bytes : List Byte) (d : Dev) : kept (d.loadFilter bus part first bytes) = kept d := by
  simp [Dev.loadFilter]

@[simp] theorem kept_runChronSet (time slot : Nat) (d : Dev) : kept (d.runChronSet time slot) = kept d := by
  simp [Dev.runChronSet]

@[simp] theorem kept_answer (slot : Nat) (r : Nat × List Byte) (d : Dev) : kept (d.answer slot r) = kept d := by simp [Dev.answer]

@[simp] theorem kept_verifyImage (crc slot : Nat) (d : Dev) : kept (d.verifyImage crc slot) = kept d := by
  unfold Dev.verifyImage
  split <;> simp

/-! ### The host interface -/

@[simp] theorem kept_entered (p : InPacket) (slot : Nat) (d : Dev) : kept (d.entered p slot) = kept d := by simp [Dev.entered]
@[simp] theorem kept_heardHost (p : InPacket) (d : Dev) : kept (d.heardHost p) = kept d := by simp [Dev.heardHost]

@[simp] theorem kept_shiftOut (k n : Nat) (d : Dev) : kept (Dev.shiftOut k n d).2 = kept d := by
  induction k generalizing n d with
  | zero => rfl
  | succ k ih =>
    unfold Dev.shiftOut
    split
    · rfl
    · simp [ih]

@[simp] theorem kept_spiEnd (d : Dev) : kept d.spiEnd = kept d := rfl

@[simp] theorem kept_switchChannel (d : Dev) : kept d.switchChannel = kept d := by
  unfold Dev.switchChannel
  split <;> simp

@[simp] theorem kept_hostSilent (d : Dev) : kept d.hostSilent = kept d := by simp [Dev.hostSilent]

/-! ### Other events -/

@[simp] theorem kept_whenLive {f : Dev → Dev} (hf : ∀ d, kept (f d) = kept d) (d : Dev) : kept (d.whenLive f) = kept d := by
  unfold Dev.whenLive
  simp [hf]

@[simp] theorem kept_whenPower {f : Dev → Dev} (hf : ∀ d, kept (f d) = kept d) (d : Dev) : kept (d.whenPower f) = kept d := by
  unfold Dev.whenPower
  simp [hf]

@[simp] theorem kept_whenReady {f : Dev → Dev} (hf : ∀ d, kept (f d) = kept d) (d : Dev) : kept (d.whenReady f) = kept d := by
  unfold Dev.whenReady
  simp [hf]

@[simp] theorem kept_whenBin {f : Dev → Dev} (hf : ∀ d, kept (f d) = kept d) (d : Dev) : kept (d.whenBin f) = kept d := by
  unfold Dev.whenBin
  simp [hf]

@[simp] theorem kept_whenBus (x : Nat) {f : Dev → Dev} (hf : ∀ d, kept (f d) = kept d) (d : Dev) : kept (d.whenBus x f) = kept d := by
  unfold Dev.whenBus
  simp [hf]

@[simp] theorem kept_watchdog (d : Dev) : kept d.watchdog = kept d := by simp [Dev.watchdog]
@[simp] theorem kept_clockFails (cause : Nat) (d : Dev) : kept (d.clockFails cause) = kept d := by simp [Dev.clockFails]
@[simp] theorem kept_debugReset (d : Dev) : kept d.debugReset = kept d := by simp [Dev.debugReset]

@[simp] theorem kept_leaderLostRow (reason : Nat) (d : Dev) : kept (d.leaderLostRow reason) = kept d := by
  simp [Dev.leaderLostRow]

@[simp] theorem kept_leafReduces (d : Dev) : kept d.leafReduces = kept d := by simp [Dev.leafReduces]
@[simp] theorem kept_stepReduces (d : Dev) : kept d.stepReduces = kept d := by simp [Dev.stepReduces]
@[simp] theorem kept_hallOverdue (d : Dev) : kept d.hallOverdue = kept d := by simp [Dev.hallOverdue]
@[simp] theorem kept_portFails (p cause : Nat) (d : Dev) : kept (d.portFails p cause) = kept d := by simp [Dev.portFails]

@[simp] theorem kept_portTrained (p : Nat) (found : TrainIn) (d : Dev) : kept (d.portTrained p found) = kept d := by
  simp [Dev.portTrained]

@[simp] theorem kept_portRetrain (p : Nat) (d : Dev) : kept (d.portRetrain p) = kept d := by
  unfold Dev.portRetrain
  split <;> simp

@[simp] theorem kept_pauseEnds (n : Nat) (d : Dev) : kept (d.pauseEnds n) = kept d := by
  unfold Dev.pauseEnds
  split <;> simp

@[simp] theorem kept_triesReset (n : Nat) (d : Dev) : kept (d.triesReset n) = kept d := by simp [Dev.triesReset]

@[simp] theorem kept_thermalEnds (n : Nat) (temp : Int) (d : Dev) : kept (d.thermalEnds n temp) = kept d := by
  simp [Dev.thermalEnds]

@[simp] theorem kept_tick (seen : TickIn) (d : Dev) : kept (d.tick seen) = kept d := by simp [Dev.tick]
@[simp] theorem kept_pulseOut (o current : Nat) (d : Dev) : kept (d.pulseOut o current) = kept d := by simp [Dev.pulseOut]
@[simp] theorem kept_marchDone (ok : Bool) (d : Dev) : kept (d.marchDone ok) = kept d := by simp [Dev.marchDone]
@[simp] theorem kept_crcDone (ok : Bool) (d : Dev) : kept (d.crcDone ok) = kept d := by simp [Dev.crcDone]
@[simp] theorem kept_referenceIn (f : FrameIn) (d : Dev) : kept (d.referenceIn f) = kept d := by simp [Dev.referenceIn]
@[simp] theorem kept_telegramIn (c : Nat) (f : FrameIn) (d : Dev) : kept (d.telegramIn c f) = kept d := by simp [Dev.telegramIn]
@[simp] theorem kept_listenAgain (x : Nat) (d : Dev) : kept (d.listenAgain x) = kept d := by simp [Dev.listenAgain]
@[simp] theorem kept_recovered (x : Nat) (d : Dev) : kept (d.recovered x) = kept d := by simp [Dev.recovered]
@[simp] theorem kept_integrated (x : Nat) (d : Dev) : kept (d.integrated x) = kept d := by simp [Dev.integrated]
@[simp] theorem kept_reconfigured (x : Nat) (d : Dev) : kept (d.reconfigured x) = kept d := by simp [Dev.reconfigured]
@[simp] theorem kept_telegramTimer (c : Nat) (d : Dev) : kept (d.telegramTimer c) = kept d := by simp [Dev.telegramTimer]
@[simp] theorem kept_telegramLate (c : Nat) (d : Dev) : kept (d.telegramLate c) = kept d := by simp [Dev.telegramLate]
@[simp] theorem kept_referenceTimer (d : Dev) : kept d.referenceTimer = kept d := by simp [Dev.referenceTimer]
@[simp] theorem kept_masterOver (d : Dev) : kept d.masterOver = kept d := by simp [Dev.masterOver]
@[simp] theorem kept_holdover (d : Dev) : kept d.holdover = kept d := by simp [Dev.holdover]
@[simp] theorem kept_holdoverEnds (d : Dev) : kept d.holdoverEnds = kept d := by simp [Dev.holdoverEnds]

@[simp] theorem kept_learnForCast (steps : Nat) (d : Dev) : kept (d.learnForCast steps).2 = kept d := by
  unfold Dev.learnForCast
  split <;> simp

@[simp] theorem kept_tablesWritten (ok : Bool) (d : Dev) : kept (d.tablesWritten ok) = kept d := by simp [Dev.tablesWritten]
@[simp] theorem kept_draftWritten (ok : Bool) (d : Dev) : kept (d.draftWritten ok) = kept d := by simp [Dev.draftWritten]
@[simp] theorem kept_quietOver (d : Dev) : kept d.quietOver = kept d := by simp [Dev.quietOver]

end Sys2Proof.Laws

end

section
/-! SUPPORT. O4: the operations that write the memory of the Log or read the journal back keep the invariant;
with them every row, and so every step. -/

namespace Sys2Proof.Laws

open Sys2Proof Sys2Proof.Machine

/-- The invariant of what `kept` shows. -/
def Held (k : List Host.Cell × Nat) : Prop := Memory.wf k.1 = true ∧ k.2 = 64

theorem length_numbered {α : Type} (l : List α) : (numbered l).length = l.length := by
  unfold numbered
  generalize 0 = i
  induction l generalizing i with
  | nil => rfl
  | cons a l ih => exact congrArg (· + 1) (ih _)

@[simp] theorem held_ite (c : Prop) [Decidable c] (a b : List Host.Cell × Nat) :
    Held (if c then a else b) ↔ if c then Held a else Held b :=
  iff_of_eq (apply_ite Held c a b)

@[simp] theorem held_memStore {m : List Host.Cell} {n a : Nat} {bs : List Byte} (h : Held (m, n)) : Held (memStore m a bs, n) :=
  ⟨memStore_wf _ _ _ h.1, h.2⟩

@[simp] theorem held_castOne (r : Record) (steps : Nat) (ok : Bool) {d : Dev} (hd : Held (kept d)) : Held (kept (d.castOne r steps ok)) := by
  simp [Dev.castOne, hd]

@[simp] theorem held_putTrace (slot : Nat) (t : TraceHdr) {d : Dev} (hd : Held (kept d)) : Held (kept (d.putTrace slot t)) := by
  simp [Dev.putTrace, hd]

@[simp] theorem held_pinByTrigger (slot : Nat) {d : Dev} (hd : Held (kept d)) : Held (kept (d.pinByTrigger slot)) := by
  unfold Dev.pinByTrigger
  dsimp only
  repeat' split
  all_goals simp [hd]

@[simp] theorem held_startCapture (code source time period pre : Nat) (pin : Bool) (order : Option Nat) {d : Dev} (hd : Held (kept d)) :
    Held (kept (d.startCapture code source time period pre pin order)) := by
  unfold Dev.startCapture
  split
  · simp [hd]
  · dsimp only
    split
    · refine held_pinByTrigger _ ?_
      simp only [kept_mk, kept_nv, kept_putHeader]
      exact held_putTrace _ _ (by simp [hd])
    · simp only [kept_mk, kept_nv, kept_putHeader]
      exact held_putTrace _ _ (by simp [hd])

@[simp] theorem held_endCapture (state : Nat) {d : Dev} (hd : Held (kept d)) : Held (kept (d.endCapture state)) := by
  unfold Dev.endCapture
  split <;> simp [hd]

@[simp] theorem held_stopCapture {d : Dev} (hd : Held (kept d)) : Held (kept d.stopCapture) := by
  unfold Dev.stopCapture
  split <;> simp [hd]

@[simp] theorem held_takeTrigger {d : Dev} (hd : Held (kept d)) : Held (kept d.takeTrigger) := by
  unfold Dev.takeTrigger
  dsimp only
  repeat' split
  all_goals simp [hd]

@[simp] theorem held_takeSample (ok : Bool) {d : Dev} (hd : Held (kept d)) : Held (kept (d.takeSample ok)) := by
  have same : kept (rolled d) = kept d := by simp [rolled]
  cases capture : d.log.capture with
  | none => rwa [takeSample_idle capture, same]
  | some c =>
    rw [takeSample_running capture]
    have stored (a : Nat) : Held (memStore d.nv.main a d.traceSample, d.nv.journal.length) := held_memStore hd
    simp only [kept_ite, kept_failLog, same, held_ite, hd, kept_mk, stored, if_true_left, if_true_right]
    intro _ _ _ _
    exact held_putTrace _ _ (by simp [hd])

@[simp] theorem held_castFront (anomaly : Bool) (steps : Nat) (ok : Bool) {d : Dev} (hd : Held (kept d)) :
    Held (kept (d.castFront anomaly steps ok)) := by
  unfold Dev.castFront
  split <;> simp [hd]

@[simp] theorem held_castInterrupted (reason : Nat) {d : Dev} (hd : Held (kept d)) : Held (kept (d.castInterrupted reason)) := by
  simp [Dev.castInterrupted, hd]

@[simp] theorem held_recoverLog (draftOk : Bool) {d : Dev} (hd : Held (kept d)) : Held (kept (d.recoverLog draftOk)) := by
  unfold Dev.recoverLog
  dsimp only
  repeat' split
  all_goals simp [hd]

@[simp] theorem held_recoverTraces {d : Dev} (hd : Held (kept d)) : Held (kept d.recoverTraces) := by
  simp [Dev.recoverTraces, hd]

@[simp] theorem held_freeTraces (p : TraceHdr → Bool) (ss : List Nat) {d : Dev} (h : Held (kept d)) : Held (kept (Dev.freeTraces p ss d)) := by
  induction ss generalizing d with
  | nil => exact h
  | cons s ss ih => exact ih (by simp [h])

@[simp] theorem held_eraseLog (what : Nat) {d : Dev} (hd : Held (kept d)) : Held (kept (d.eraseLog what)) := by
  simp [Dev.eraseLog, hd]

@[simp] theorem held_castAll (n : Nat) {d : Dev} (h : Held (kept d)) : Held (kept (Dev.castAll n d)) := by
  induction n generalizing d with
  | zero => exact h
  | succ n ih =>
    unfold Dev.castAll
    split
    · exact h
    · exact ih (by simp [h])

@[simp] theorem held_stopLearning {d : Dev} (hd : Held (kept d)) : Held (kept d.stopLearning) := by
  simp [Dev.stopLearning, hd]

@[simp] theorem held_reefAction (stage : Nat) {d : Dev} (hd : Held (kept d)) : Held (kept (d.reefAction stage)) := by
  unfold Dev.reefAction
  dsimp only
  split_ifs
  · simp [hd]
  · simp only [kept_takeBridges, kept_modSupply]
    exact held_stopCapture (held_castInterrupted _ (held_castAll _ (by simp [hd])))
  · exact hd

@[simp] theorem held_enterStages (vhv : Nat) (ks : List Nat) {d : Dev} (h : Held (kept d)) : Held (kept (Dev.enterStages vhv ks d)) := by
  induction ks generalizing d with
  | nil => exact h
  | cons k ks ih => exact ih (by simp [h])

@[simp] theorem held_reefEnter (stage vhv : Nat) {d : Dev} (hd : Held (kept d)) : Held (kept (d.reefEnter stage vhv)) := by
  simp [Dev.reefEnter, hd]

@[simp] theorem held_dieTemp (die : Nat) (t : Int) {d : Dev} (hd : Held (kept d)) : Held (kept (d.dieTemp die t)) := by
  simp [Dev.dieTemp, hd]

@[simp] theorem held_dieTemps (c p m : Int) {d : Dev} (hd : Held (kept d)) : Held (kept (d.dieTemps c p m)) := by
  unfold Dev.dieTemps
  split
  · rw [kept_judgeClock]
    exact held_dieTemp _ _ (held_dieTemp _ _ (held_dieTemp _ _ hd))
  · exact hd

@[simp] theorem held_readJournal (i : StartUpIn) {d : Dev} (hd : Held (kept d)) : Held (kept (d.readJournal i)) := by
  refine ⟨hd.1, ?_⟩
  unfold Dev.readJournal kept
  dsimp only
  split
  · rw [List.length_map, length_numbered]
    exact hd.2
  · rfl

@[simp] theorem held_startStep6 (i : StartUpIn) {d : Dev} (hd : Held (kept d)) : Held (kept (d.startStep6 i)) := by
  unfold Dev.startStep6
  simp only [kept_stepDone, kept_reportLog]
  exact held_recoverTraces (held_recoverLog _ (by simp [hd]))

@[simp] theorem held_startFrom5 (i : StartUpIn) {d : Dev} (hd : Held (kept d)) : Held (kept (d.startFrom5 i)) := by
  unfold Dev.startFrom5
  split
  · exact hd
  · simp only [kept_startStep10, kept_startStep9, kept_stepDone, kept_openHost, kept_startStep7]
    exact held_startStep6 i (by simp [hd])

@[simp] theorem held_startFrom2 (i : StartUpIn) {d : Dev} (hd : Held (kept d)) : Held (kept (d.startFrom2 i)) := by
  simp [Dev.startFrom2, hd]

@[simp] theorem held_startUp (i : StartUpIn) {d : Dev} (hd : Held (kept d)) : Held (kept (d.startUp i)) := by
  simp [Dev.startUp, hd]

@[simp] theorem held_clockRetry (i : StartUpIn) {d : Dev} (hd : Held (kept d)) : Held (kept (d.clockRetry i)) := by
  simp [Dev.clockRetry, hd]

@[simp] theorem held_enterPark (mode : Nat) {d : Dev} (hd : Held (kept d)) : Held (kept (d.enterPark mode)) := by
  simp [Dev.enterPark, hd]

@[simp] theorem held_judgePark {d : Dev} (hd : Held (kept d)) : Held (kept d.judgePark) := by
  unfold Dev.judgePark
  split <;> simp [hd]

@[simp] theorem held_undoOrder (f : Flight) {d : Dev} (hd : Held (kept d)) : Held (kept (d.undoOrder f)) := by
  simp [Dev.undoOrder, hd]

@[simp] theorem held_runCancel (target slot : Nat) {d : Dev} (hd : Held (kept d)) : Held (kept (d.runCancel target slot)) := by
  unfold Dev.runCancel
  split <;> simp [hd]

@[simp] theorem held_runTraceCapture (period pre pin slot : Nat) {d : Dev} (hd : Held (kept d)) :
    Held (kept (d.runTraceCapture period pre pin slot)) := by
  simp [Dev.runTraceCapture, hd]

@[simp] theorem held_runTracePin (slot action order : Nat) {d : Dev} (hd : Held (kept d)) : Held (kept (d.runTracePin slot action order)) := by
  simp [Dev.runTracePin, hd]

@[simp] theorem held_hostRun (c : HostCmd) (slot : Nat) {d : Dev} (hd : Held (kept d)) : Held (kept (d.hostRun c slot)) := by
  unfold Dev.hostRun
  split <;> simp [hd]

@[simp] theorem held_endJob (slot : Nat) (job : Job) (ok : Bool) {d : Dev} (hd : Held (kept d)) : Held (kept (d.endJob slot job ok)) := by
  unfold Dev.endJob
  dsimp only
  repeat' split
  all_goals simp [hd]

@[simp] theorem held_orderCompleted (tag : Nat) (ok : Bool) {d : Dev} (hd : Held (kept d)) : Held (kept (d.orderCompleted tag ok)) := by
  unfold Dev.orderCompleted
  split
  · exact hd
  · split
    · exact hd
    · exact held_endJob _ _ _ (by simp [hd])

@[simp] theorem held_accept (p : InPacket) (c : HostCmd) (slot : Nat) {d : Dev} (hd : Held (kept d)) : Held (kept (d.accept p c slot)) := by
  simp [Dev.accept, hd]

@[simp] theorem held_receive (p : InPacket) {d : Dev} (hd : Held (kept d)) : Held (kept (d.receive p)) := by
  unfold Dev.receive
  dsimp only
  repeat' split
  all_goals simp [hd]

@[simp] theorem held_hostCommand (h : CmdHead) (c : HostCmd) {d : Dev} (hd : Held (kept d)) : Held (kept (d.hostCommand h c)) := by
  simp [Dev.hostCommand, hd]

@[simp] theorem held_packetBytes (bs : List Byte) {d : Dev} (hd : Held (kept d)) : Held (kept (d.packetBytes bs)) := by
  simp [Dev.packetBytes, hd]

@[simp] theorem held_deframe (n room : Nat) (bs : List Byte) {d : Dev} (h : Held (kept d)) : Held (kept (Dev.deframe n room bs d).2) := by
  induction n generalizing room bs d with
  | zero => exact h
  | succ n ih =>
    unfold Dev.deframe
    split
    · exact h
    · dsimp only
      repeat' split
      all_goals simp [h, ih]

@[simp] theorem held_dropSpi {d : Dev} (hd : Held (kept d)) : Held (kept d.dropSpi) := by
  simp [Dev.dropSpi, hd]

@[simp] theorem held_spiTransaction (bytes : List Byte) {d : Dev} (hd : Held (kept d)) : Held (kept (d.spiTransaction bytes)) := by
  unfold Dev.spiTransaction
  dsimp only
  split
  · exact hd
  · split
    · simp [hd]
    · refine held_judgePark ?_
      simp only [kept_mk, kept_nv]
      refine held_deframe _ _ _ ?_
      simp only [kept_mk, kept_nv, kept_shiftOut]
      exact held_dropSpi (by simp [hd])

@[simp] theorem held_dropSegments (reason : Nat) {d : Dev} (hd : Held (kept d)) : Held (kept (d.dropSegments reason)) := by
  unfold Dev.dropSegments
  split <;> simp [hd]

@[simp] theorem held_judgeSegments (last : Bool) (r : Reassembly) {d : Dev} (hd : Held (kept d)) : Held (kept (d.judgeSegments last r)) := by
  simp [Dev.judgeSegments, hd]

@[simp] theorem held_firstSegment (n seq : Nat) (last : Bool) (part : List Byte) {d : Dev} (hd : Held (kept d)) :
    Held (kept (d.firstSegment n seq last part)) := by
  unfold Dev.firstSegment
  dsimp only
  repeat' split
  all_goals simp [hd]

@[simp] theorem held_nextSegment (n seq : Nat) (last : Bool) (part : List Byte) {d : Dev} (hd : Held (kept d)) :
    Held (kept (d.nextSegment n seq last part)) := by
  unfold Dev.nextSegment
  split <;> simp [hd]

@[simp] theorem held_segmentGap {d : Dev} (hd : Held (kept d)) : Held (kept d.segmentGap) := by
  unfold Dev.segmentGap
  split <;> simp [hd]

@[simp] theorem held_segmentIn (format : Nat) (data : List Byte) {d : Dev} (hd : Held (kept d)) : Held (kept (d.segmentIn format data)) := by
  simp [Dev.segmentIn, hd]

@[simp] theorem held_replySent {d : Dev} (hd : Held (kept d)) : Held (kept d.replySent) := by
  simp [Dev.replySent, hd]

@[simp] theorem held_frameRouted (x : Nat) {d : Dev} (hd : Held (kept d)) : Held (kept (d.frameRouted x)) := by
  unfold Dev.frameRouted
  split
  case h_1 => exact hd
  case h_2 e taken from_ =>
    rw [← kept_takeFrame from_] at hd
    split <;> simp [hd]

@[simp] theorem held_attemptEnds (x : Nat) (r : AttemptIn) {d : Dev} (hd : Held (kept d)) : Held (kept (d.attemptEnds x r)) := by
  unfold Dev.attemptEnds
  split <;> simp [hd]

@[simp] theorem held_cycleCast (steps : Nat) (ok : Bool) {d : Dev} (hd : Held (kept d)) : Held (kept (d.cycleCast steps ok)) := by
  simp [Dev.cycleCast, hd]

@[simp] theorem held_triggered (ok : Bool) {d : Dev} (hd : Held (kept d)) : Held (kept (d.triggered ok)) := by
  simp [Dev.triggered, hd]

@[simp] theorem held_traceFull (ok : Bool) {d : Dev} (hd : Held (kept d)) : Held (kept (d.traceFull ok)) := by
  unfold Dev.traceFull
  split <;> simp [hd]

/-! ### The rows and the step -/

/-- Every row lets its time pass and then acts on the device: a command through `hostCommand`, an event through its own operation under the
row's condition; each of these keeps the invariant. -/
theorem exec_held (i : Instr) (s : State) :
    ∃ (dt : Nat) (f : Dev → Dev), (∀ d, Held (kept d) → Held (kept (f d))) ∧ exec i s = onDev dt f s := by
  cases i <;> refine ⟨_, _, ?_, rfl⟩ <;> intro d hd <;>
    simp [hd, Dev.whenLive, Dev.whenPower, Dev.whenReady, Dev.whenBin, Dev.whenBus]

/-- Settles O4: with nothing waiting the state stays; else the front's row acts once its time has passed, which no part of the invariant sees. -/
theorem stepKeepsInvariant : Obligations.StepKeepsInvariant := by
  unfold Obligations.StepKeepsInvariant
  intro s t inv next
  obtain ⟨_ | ⟨i, rest⟩, dev⟩ := s
  · cases next
    exact inv
  · obtain ⟨dt, f, keeps, row⟩ := exec_held i { pending := rest, dev := dev }
    cases row.symm.trans next
    refine keeps _ ?_
    rw [kept_advance]
    exact inv

end Sys2Proof.Laws

end
